-- ==== Sys2Proof/Word.lean ====
section
/-! DEFINITION. The number types of the node and their plainest arithmetic: bytes, two-byte numbers,
identities, saturating and wrapping counts (spec 00_scope.md "Quantities", R197). -/

namespace Sys2Proof

/-- One byte of a frame, a record image or a coach bus telegram. -/
abbrev Byte := BitVec 8

/-- A number sent as two bytes (R197). -/
abbrev Word16 := BitVec 16

/-- A node identity: a 48-bit factory number (00_scope.md, "Identity and generation"). -/
abbrev Identity := BitVec 48

/-- A change id: the originator's identity and its 8-bit counter (R10). -/
abbrev ChangeId := Identity × Byte

/-- One more on a 16-bit saturating counter (00_scope.md, "Quantities"; R19, R20). -/
def satInc (n : Nat) : Nat := min (n + 1) 65535

/-- One more on a counter that saturates at 255 (R37, R79). -/
def satInc8 (n : Nat) : Nat := min (n + 1) 255

/-- The consist generation after `g`: the value after 255 is 1
(00_scope.md, "Identity and generation"; R47 step 2). -/
def nextGeneration (g : Byte) : Byte := if g = 255#8 then 1#8 else g + 1#8

end Sys2Proof
end

