-- ==== Sys2Proof/Syntax.lean ====
section
/-! DEFINITION. The commands of the node: one constructor of `Instr` for each row of
spec/opcode_table.json, with the operands the rules of that row read. -/

namespace Sys2Proof

/-- A line port: LP1 at End 1, LP2 at End 2 (00_scope.md, "Ends, sides and ports"). -/
inductive PortId
  | lp1
  | lp2
  deriving DecidableEq, Repr

/-- The port at the other end of the vehicle. -/
def PortId.other : PortId → PortId
  | .lp1 => .lp2
  | .lp2 => .lp1

/-- An end of a vehicle (00_scope.md, "Ends, sides and ports"). -/
inductive CabEnd
  | end1
  | end2
  deriving DecidableEq, Repr

/-- The port at an end: End 1 has LP1, End 2 has LP2. -/
def CabEnd.port : CabEnd → PortId
  | .end1 => .lp1
  | .end2 => .lp2

/-- The end a port stands at. -/
def PortId.cabEnd : PortId → CabEnd
  | .lp1 => .end1
  | .lp2 => .end2

/-- The other end of the vehicle. -/
def CabEnd.opposite : CabEnd → CabEnd
  | .end1 => .end2
  | .end2 => .end1

/-- The header fields of R1 other than the kind and the payload length, as bytes on the line
(section 12.2 of the manual's chapter 12). -/
structure Header where
  generation : Byte
  flags : Byte
  destination : Byte
  source : Byte
  tag : Byte
  deriving DecidableEq, Repr

/-- The levels of the three logic inputs; true is asserted (00_scope.md, "Pins"). -/
structure Pins where
  standstill : Bool
  supply : Bool
  workshop : Bool
  deriving DecidableEq, Repr

/-- The three train state bits (R65, R75). -/
structure TrainBits where
  standstill : Bool
  enableLeft : Bool
  enableRight : Bool
  deriving DecidableEq, Repr

/-- Where a request comes from: this node's own cab station with address LOCAL (R104), or a REQUEST
frame with its source position and generation (R109); each with the tag to answer with. -/
inductive ReqSource
  | cab (tag : Byte)
  | line (position generation tag : Byte)
  deriving DecidableEq, Repr

/-- How an entry of the table of R107 names its vehicle: by identity or by a fixed position. -/
inductive VehicleRef
  | identity (i : Identity)
  | position (p : Byte)
  deriving DecidableEq, Repr

/-- The classes of coach bus work that can hold a retry wait (R82): class 1, 2, 4 and the poll
entry at the pointer (class 5). -/
inductive BusClass
  | door
  | heat
  | remote
  | poll
  deriving DecidableEq, Repr

/-- The commands: the rows of spec/opcode_table.json, in the table's order. A received frame carries
its port, header and payload; a request carries its source and its fields as they came; `leaf` is the
leaf number 1 to 8; `place` is a place in a class queue, 0 for the oldest entry. -/
inductive Instr
  | powerOn (pins : Pins)
  | powerFail
  | nodeReset
  | standstillFall
  | supplyFall
  | lockGained (port : PortId)
  | lockLost (port : PortId)
  | dropIntervalEnd (port : PortId)
  | contactHoldoffEnd (port : PortId)
  | settleTimeReached (port : PortId)
  | helloTimer (port : PortId)
  | silenceTimeout (port : PortId)
  | glitchToleranceExpiry (port : PortId)
  | offerTimeout (port : PortId)
  | testEntry (port : PortId)
  | testFrameSent (port : PortId)
  | testQuietTimeout (port : PortId)
  | queueDropHoldoffEnd (port : PortId)
  | transmitEnd (port : PortId)
  | frameErrored (port : PortId)
  | frameUnknownKind (port : PortId) (kind : Byte) (header : Header) (payload : List Byte)
  | hello (port : PortId) (header : Header) (payload : List Byte)
  | testOffer (port : PortId) (header : Header) (payload : List Byte)
  | testAccept (port : PortId) (header : Header) (payload : List Byte)
  | testRefused (port : PortId) (header : Header) (payload : List Byte)
  | test (port : PortId) (header : Header) (payload : List Byte)
  | change (port : PortId) (header : Header) (payload : List Byte)
  | changeIdExpiry (id : ChangeId)
  | changeRepeat (counter : Byte)
  | count (port : PortId) (header : Header) (payload : List Byte)
  | roll (port : PortId) (header : Header) (payload : List Byte)
  | confirm (port : PortId) (header : Header) (payload : List Byte)
  | rollTimeout
  | censusHoldTimeout
  | censusWaitExpiry
  | retryTimeout
  | periodTimerRunout
  | sweepOut (port : PortId) (header : Header) (payload : List Byte)
  | sweepBack (port : PortId) (header : Header) (payload : List Byte)
  | freshnessExpiry
  | doorReleaseFrame (port : PortId) (header : Header) (payload : List Byte)
  | doorCloseFrame (port : PortId) (header : Header) (payload : List Byte)
  | request (port : PortId) (header : Header) (payload : List Byte)
  | reply (port : PortId) (header : Header) (payload : List Byte)
  | notice (port : PortId) (header : Header) (payload : List Byte)
  | noticeSpacingEnd
  | hostRequest (frame : List Byte)
  | hostFrameDiscard (frame : List Byte)
  | requestUnknownKind (source : ReqSource) (kind : Byte) (fields : List Byte)
  | identify (source : ReqSource)
  | readStatus (source : ReqSource)
  | readMap (source : ReqSource) (page : Byte)
  | readCounters (source : ReqSource)
  | clearCounters (source : ReqSource)
  | readNotices (source : ReqSource)
  | setNoticeForwarding (source : ReqSource) (setting : Byte)
  | resetArm (source : ReqSource)
  | resetNode (source : ReqSource) (armTag : Byte)
  | portRestart (source : ReqSource) (number : Byte)
  | linkTest (source : ReqSource) (number : Byte) (frames : Word16)
  | linkResult (source : ReqSource) (number : Byte)
  | leadSet (source : ReqSource) (cabEnd : Byte)
  | leadClear (source : ReqSource) (cabEnd : Byte)
  | censusStart (source : ReqSource)
  | setTrainState (source : ReqSource) (bits : TrainBits) (period : Option Word16)
  | aliasWrite (source : ReqSource) (number : Byte) (vehicle : VehicleRef) (station : Byte)
  | aliasClear (source : ReqSource) (number : Byte)
  | aliasRead (source : ReqSource) (number : Byte)
  | remoteStationRead (source : ReqSource) (mode station item : Byte) (timeout : Word16)
  | remoteStationWrite (source : ReqSource) (mode station item : Byte) (data : List Byte)
      (timeout : Word16)
  | remoteStationWalk (source : ReqSource) (first last : Byte)
  | remoteStationRoster (source : ReqSource)
  | doorRelease (source : ReqSource) (side first last : Byte) (outside : Bool)
  | doorClose (source : ReqSource) (mask : Byte)
  | doorIsolate (source : ReqSource) (leaf : Byte)
  | doorRestore (source : ReqSource) (leaf : Byte)
  | setAllowance (source : ReqSource) (allowance : Word16) (stagger : Option Word16)
  | groupReset (source : ReqSource) (group : Byte)
  | recordEdit (source : ReqSource) (offset : Word16) (data : List Byte)
  | recordEditReset (source : ReqSource)
  | recordRead (source : ReqSource) (image : Byte) (offset : Word16) (length : Byte)
  | recordStore (source : ReqSource)
  | setProtection (source : ReqSource) (mode : Byte)
  | recordWriteEnd (readBack : List Byte)
  | settingWriteEnd
  | recordLive
  | busAnswer (station item : Byte) (ready : Bool) (data : List Byte)
  | busReplyTimeout
  | retryWaitEnd (cls : BusClass) (place : Nat)
  | persistTimeout (cls : BusClass) (place : Nat)
  | roundTimerRunout
  | roundOverrunHoldoffEnd
  | warningTimeEnd (leaf : Nat)
  | closeConfirmTimeout (leaf : Nat)
  | reopenDwellEnd (leaf : Nat)
  | headlessCloseDelayExpiry
  | increaseWaitExpiry
  | staggerDelayEnd
  | heatHoldExpiry
  deriving DecidableEq, Repr

end Sys2Proof
end

