-- ==== Sys2Proof/Decode.lean ====
section
/-! DEFINITION. The words of the opcode table. This block has no instruction words: no row of
spec/opcode_table.json gives bits, so no word spells a command. What bytes on the train line, on the coach
bus and in a request stand for is read in Machine/Codec.lean, Operands.lean, Requests.lean and
Receive.lean. -/

namespace Sys2Proof

/-- The command a word spells by the table's bits: none, since no row gives bits (assumption 1). -/
def decodeTableWord (_nbits _w : Nat) : Option Instr := none

end Sys2Proof
end

