-- ==== Sys2Proof/Config.lean ====
section
/-! DEFINITION. The constants the manual states (durations in milliseconds, capacities, codes) and the
free values: what the manual leaves open where the node goes on. -/

namespace Sys2Proof.Config

/-! ## Durations, in milliseconds -/

/-- Drop interval (R22). -/
def dropIntervalMs : Nat := 200
/-- Contact holdoff (R29). -/
def contactHoldoffMs : Nat := 5000
/-- Settle time (R25). -/
def settleTimeMs : Nat := 1500
/-- HELLO spacing in SETTLING (R24). -/
def helloSettlingMs : Nat := 100
/-- HELLO spacing in UP (R24). -/
def helloUpMs : Nat := 1000
/-- Silence timer (R26, R27). -/
def silenceMs : Nat := 3000
/-- Glitch tolerance (R28). -/
def glitchMs : Nat := 120
/-- Link test offer timer (R32). -/
def offerMs : Nat := 1000
/-- Quiet time that finishes a link test (R36). -/
def testQuietMs : Nat := 200
/-- QUEUE-DROP holdoff (R18). -/
def queueDropHoldoffMs : Nat := 1000
/-- Life of an entry of the change-id list (R10). -/
def changeIdMs : Nat := 10000
/-- Spacing of the three copies of a CHANGE (R42). -/
def changeRepeatMs : Nat := 100
/-- Census wait (R37, R43). -/
def censusWaitMs : Nat := 4000
/-- Roll timer (R37, R47). -/
def rollTimerMs : Nat := 1500
/-- Hold timer of a node taking part in a census (R37, R51). -/
def censusHoldMs : Nat := 1500
/-- Retry timer (R37, R54). -/
def retryMs : Nat := 2000
/-- Period used where a latched period is none (R76). -/
def defaultPeriodMs : Nat := 100
/-- Stagger step used where a latched stagger step is none (R162). -/
def defaultStaggerMs : Nat := 100
/-- Round timer after its own run-out and after a reset (R79, R89). -/
def roundTimerMs : Nat := 100
/-- Reply timeout of one coach bus attempt (R80). -/
def busReplyMs : Nat := 4
/-- Retry wait of a PERSIST transaction (R82). -/
def retryWaitMs : Nat := 2
/-- Persist timeout of a door or heat write (R82, R86, R87). -/
def writePersistMs : Nat := 200
/-- Persist timeout of a poll entry (R82, R90). -/
def pollPersistMs : Nat := 50
/-- ROUND-OVERRUN holdoff (R91). -/
def overrunHoldoffMs : Nat := 1000
/-- Deadline of a pending remote entry (R112). -/
def remoteDeadlineMs : Nat := 2000
/-- Notice spacing (R193). -/
def noticeSpacingMs : Nat := 20
/-- Longest wait of a node reset for its reply (R196). -/
def resetWaitMs : Nat := 200
/-- Longest write of a record (R181). -/
def recordWriteMs : Nat := 400
/-- Longest write of a protection setting (R185). -/
def settingWriteMs : Nat := 50

/-! ## Capacities -/

/-- Urgent lane (R13). -/
def urgentLaneSize : Nat := 8
/-- Normal lane (R13). -/
def normalLaneSize : Nat := 16
/-- Change-id list (R10). -/
def changeIdListSize : Nat := 8
/-- Entries of a census list (R49, R50). -/
def consistSize : Nat := 32
/-- Leaves of one vehicle (section 5.4, leaf k status). -/
def leafTableSize : Nat := 8
/-- Class 1 queue (R84). -/
def doorQueueSize : Nat := 16
/-- Class 4 queue, and the pending remote table (R84, R112). -/
def remoteQueueSize : Nat := 8
/-- Cab outbound queue (R97). -/
def cabQueueSize : Nat := 16
/-- Alias table (R107). -/
def aliasTableSize : Nat := 16
/-- Notice queue (R191). -/
def noticeQueueSize : Nat := 32
/-- Notices returned by one READ-NOTICES (R194). -/
def noticesPerRead : Nat := 16
/-- Mailbox reads, and mailbox writes, of one round (R95). -/
def cabTransfers : Nat := 4
/-- Silent rounds that lose the cab station (R99). -/
def cabSilentRounds : Nat := 10
/-- Mismatches that fault a group (R167). -/
def mismatchLimit : Nat := 3
/-- Longest payload of a frame (R3). -/
def maxPayload : Nat := 720
/-- Bytes of a record image (R173). -/
def imageSize : Nat := 512
/-- Signature of a record and its word sum (R174). -/
def recordSignature : Nat := 0x7C1E

/-! ## Frame kinds (section 12.2) -/

def kindHello : Byte := 0x01#8
def kindTest : Byte := 0x02#8
def kindChange : Byte := 0x03#8
def kindCount : Byte := 0x04#8
def kindRoll : Byte := 0x05#8
def kindConfirm : Byte := 0x06#8
def kindSweepOut : Byte := 0x07#8
def kindSweepBack : Byte := 0x08#8
def kindDoorRelease : Byte := 0x09#8
def kindDoorClose : Byte := 0x0A#8
def kindRequest : Byte := 0x0B#8
def kindReply : Byte := 0x0C#8
def kindNotice : Byte := 0x0D#8

/-! ## Free values: nothing constrains them -/

/-- FREE (R31, assumption 9): whether the reply of the `n`-th such PORT-RESTART reaches the Relay Unit
before the CHANGE of its port down event. -/
opaque replyBeforeChange : Nat → Bool

/-- FREE (R42, assumption 8): whether, at the `n`-th port event that also changes the lead validity,
the CHANGE of the port event is originated before the CHANGE of the validity. -/
opaque portChangeFirst : Nat → Bool

/-- FREE (R183, assumption 12): byte `i` of a record left partly written by the `n`-th power failure; `tornImage`
holds what R183 says of such a record. -/
opaque tornByte : Nat → Nat → Byte

/-- FREE (R181, assumption 12): a number from which the check reason of a failed read-back whose bytes
pass every step of the check is drawn. -/
opaque failedReason : Nat → Nat

end Sys2Proof.Config
end

