-- ==== Sys2Proof/Machine/State.lean ====
section
/-! DEFINITION. The state of one node as plain data, block by block as the manual divides it, and the
state right after power-on. Timers are milliseconds left: `some n` runs, `none` is stopped. -/

namespace Sys2Proof.Machine

open Sys2Proof

/-! ## The vehicle record (R173, sections 10.2 and 12.4) -/

/-- A side of the vehicle. -/
inductive Side
  | a
  | b
  deriving DecidableEq, Repr

/-- A door leaf of the record (R116). -/
structure LeafConfig where
  side : Side
  station : Byte
  statusItem : Byte
  commandItem : Byte
  deriving DecidableEq, Repr

/-- A heating group of the record (R151): the currents of its stages in half-amperes, one for each
stage, and where its request, command and feedback stand. -/
structure GroupConfig where
  currents : List Nat
  requestStation : Byte
  requestItem : Byte
  commandStation : Byte
  commandItem : Byte
  feedbackItem : Byte
  deriving DecidableEq, Repr

/-- Where a poll entry's value goes (chapter 5, section 5.4). Leaves and groups are numbered from 1. -/
inductive PollDest
  | leafStatus (k : Nat)
  | groupRequest (g : Nat)
  | groupFeedback (g : Nat)
  | noticeOnChange
  deriving DecidableEq, Repr

/-- The mode of a poll entry. -/
inductive PollMode
  | once
  | accept
  | persist
  deriving DecidableEq, Repr

/-- One entry of the poll list (chapter 5, section 5.4). -/
structure PollEntry where
  station : Byte
  item : Byte
  mode : PollMode
  dest : PollDest
  deriving DecidableEq, Repr

/-- The fields of the live record (section 10.2); times in seconds. -/
structure Content where
  vehicleNumber : List Byte
  weight : Nat
  cabEnd1 : Bool
  cabEnd2 : Bool
  cabStation : Bool
  leaves : List LeafConfig
  warning : Nat
  closeConfirm : Nat
  reopenDwell : Nat
  reopenAttempts : Nat
  headlessDelay : Nat
  groups : List GroupConfig
  polls : List PollEntry
  deriving DecidableEq, Repr

/-- The defaults an invalid record gives (R175). -/
def Content.defaults : Content where
  vehicleNumber := []
  weight := 0
  cabEnd1 := false
  cabEnd2 := false
  cabStation := true
  leaves := []
  warning := 3
  closeConfirm := 8
  reopenDwell := 2
  reopenAttempts := 2
  headlessDelay := 60
  groups := []
  polls := []

/-- The reasons a record image fails its check (R174). -/
inductive CheckReason
  | signature
  | version
  | length
  | range
  | sum
  deriving DecidableEq, Repr

/-- The protection modes (R184). `unlocked` is the manual's OPEN. -/
inductive Protection
  | unlocked
  | keyed
  | held
  | fixed
  deriving DecidableEq, Repr

/-- The store states (R173). -/
inductive StoreState
  | idle
  | writing
  | setting
  | awaitingDoors
  deriving DecidableEq, Repr

/-- How the stored record was left: its bytes say all there is to say of it, or a read-back has failed, after
which it is invalid whatever its bytes are (R181). -/
inductive StoreMark
  | whole
  | failedReadBack
  deriving DecidableEq, Repr

/-- The Record Store (R173). `validity` is `none` for a valid live record; `storedSetting` is `none`
when it cannot be read (R184). -/
structure Store where
  stored : List Byte
  storedMark : StoreMark
  storedSetting : Option Protection
  live : List Byte
  content : Content
  validity : Option CheckReason
  edit : List Byte
  mode : Protection
  state : StoreState
  awaiting : Option (List Byte)
  writeTimer : Option Nat
  deriving DecidableEq, Repr

/-! ## Frames -/

/-- A frame of the train line without its length and check fields, which follow from it (R1). -/
structure Frame where
  kind : Byte
  header : Header
  payload : List Byte
  deriving DecidableEq, Repr

/-- What a waiting frame is remembered for: nothing, the TEST-ACCEPT after which the port enters TEST
(R33), or the reply after which the node resets (R196). -/
inductive Mark
  | plain
  | testAccept
  | resetReply
  deriving DecidableEq, Repr

/-- A frame in an egress lane or in the transmitter. -/
structure LaneEntry where
  frame : Frame
  mark : Mark
  deriving DecidableEq, Repr

/-- A cab frame in the cab outbound queue (R97), in the layout of section 12.3. -/
structure CabFrame where
  bytes : List Byte
  mark : Mark
  deriving DecidableEq, Repr

/-! ## Line ports (R21) -/

inductive LinkState
  | down
  | settling
  | up
  | glitch
  | test
  deriving DecidableEq, Repr

/-- Last down reasons (R21). -/
inductive DownReason
  | none
  | uncoupled
  | silent
  | neighbourChanged
  | contact
  | restart
  | testStart
  | testEnd
  deriving DecidableEq, Repr

/-- Who is at the other end of the coupling (R21, R26); also the candidate of R25. -/
structure Neighbour where
  identity : Identity
  farEnd : CabEnd
  generation : Byte
  deriving DecidableEq, Repr

/-- Settle progress (R25). `time` is what is left of the settle time, `none` once it is reached. -/
structure Settle where
  candidate : Option Neighbour
  count : Nat
  time : Option Nat
  deriving DecidableEq, Repr

/-- The offer of a port (R21, R32, R33). -/
inductive Offer
  | none
  | pending (frames : Nat) (timer : Option Nat)
  | accepted (frames : Nat)
  deriving DecidableEq, Repr

inductive TestOutcome
  | complete
  | aborted
  | refused
  deriving DecidableEq, Repr

/-- The link test result record (R36), but for the port, which is the port that holds it. -/
structure TestResult where
  frames : Nat
  sent : Nat
  received : Nat
  errored : Nat
  missing : Nat
  outcome : TestOutcome
  deriving DecidableEq, Repr

/-- A link test that runs (R35, R36). `last` is the sequence of the last frame counted as received;
`quiet` runs once every own frame is sent. -/
structure TestRun where
  frames : Nat
  sent : Nat
  received : Nat
  errored : Nat
  last : Option Nat
  quiet : Option Nat
  deriving DecidableEq, Repr

/-- A line port (R21, R19, R18, R13). -/
structure Port where
  link : LinkState
  signal : Bool
  dropInterval : Option Nat
  contactHoldoff : Option Nat
  settle : Settle
  neighbour : Option Neighbour
  lastDown : DownReason
  silence : Option Nat
  helloTimer : Option Nat
  glitchTimer : Option Nat
  windowFrames : Nat
  windowErrors : Nat
  offer : Offer
  testDue : Bool
  run : Option TestRun
  result : Option TestResult
  received : Nat
  errored : Nat
  dropped : Nat
  dropHoldoff : Option Nat
  urgent : List LaneEntry
  normal : List LaneEntry
  transmitter : Option LaneEntry
  deriving DecidableEq, Repr

/-! ## Relay Unit -/

/-- An entry of the change-id list with the time it still stays (R10). -/
structure SeenChange where
  id : ChangeId
  left : Nat
  deriving DecidableEq, Repr

/-- The Relay Unit (R10, R11, R20). -/
structure Relay where
  lastSerial : Option Byte
  changeIds : List SeenChange
  headerError : Nat
  refusedRequest : Nat
  refusedReply : Nat
  refusedNotice : Nat
  refusedRelease : Nat
  refusedSweepOut : Nat
  refusedSweepBack : Nat
  wrongDirection : Nat
  beyondTail : Nat
  noRoute : Nat
  repeats : Nat
  deriving DecidableEq, Repr

/-! ## Consist Unit (R37) -/

inductive Orientation
  | forward
  | reversed
  deriving DecidableEq, Repr

inductive ClaimStatus
  | none
  | valid
  | conflict
  | blocked
  deriving DecidableEq, Repr

inductive ConsistState
  | unknown
  | stale
  | pending
  | settled
  deriving DecidableEq, Repr

inductive CensusPhase
  | none
  | counting
  | awaitingRoll
  | holding
  deriving DecidableEq, Repr

inductive CensusWait
  | stopped
  | running (left : Nat)
  | expired
  deriving DecidableEq, Repr

/-- A consist entry (R48). -/
structure ConsistEntry where
  identity : Identity
  orientation : Orientation
  recordValid : Bool
  isHead : Bool
  claimedEnd : Option CabEnd
  weight : Byte
  leavesA : Byte
  leavesB : Byte
  vehicleNumber : List Byte
  deriving DecidableEq, Repr

/-- A CHANGE with copies still to be handed over (R42). -/
structure ChangeCopies where
  counter : Byte
  copies : Nat
  timer : Nat
  deriving DecidableEq, Repr

/-- The Consist Unit (R37). `censusPosition` is the position the node took by R51, which R52 reads. -/
structure Consist where
  claim1 : Bool
  claim2 : Bool
  status : ClaimStatus
  state : ConsistState
  phase : CensusPhase
  censusGeneration : Byte
  arrival : Option PortId
  censusPosition : Nat
  generation : Byte
  activeMap : List ConsistEntry
  pendingMap : Option (List ConsistEntry)
  lastGeneration : Byte
  attempts : Nat
  conflictHold : Bool
  changeCounter : Byte
  copies : List ChangeCopies
  wait : CensusWait
  rollTimer : Option Nat
  holdTimer : Option Nat
  retryTimer : Option Nat
  censusDrop : Nat
  deriving DecidableEq, Repr

/-! ## Sweep Unit (R65) -/

/-- A latched sequence with its return state: `returned` is RETURNED, else AWAITING-RETURN. -/
structure SweepLatch where
  sequence : Byte
  returned : Bool
  deriving DecidableEq, Repr

/-- The Sweep Unit (R65). The latched bits are fresh while `freshness` runs (R74). -/
structure Sweep where
  nextSequence : Byte
  period : Nat
  request : TrainBits
  stagger : Nat
  periodTimer : Option Nat
  outstanding : Option Byte
  missed : Nat
  latch : Option SweepLatch
  bits : TrainBits
  freshness : Option Nat
  latchedPeriod : Option Nat
  latchedStagger : Option Nat
  mismatch : Nat
  deriving DecidableEq, Repr

/-! ## Coach Bus Controller (R79) -/

/-- A roster entry (R83): the station, and its identification if it gave 8 bytes. -/
structure RosterEntry where
  station : Byte
  identification : Option (List Byte)
  deriving DecidableEq, Repr

/-- A transaction of a class queue (R80, R83, R84). A walk holds its next and last station, whether its
first READ has started, and its working roster. -/
inductive BusOp
  | read (station item : Byte)
  | write (station item : Byte) (data : List Byte)
  | walk (next last : Byte) (started : Bool) (roster : List RosterEntry)
  deriving DecidableEq, Repr

/-- The mode of an entry (R81, R82); PERSIST carries its persist timeout. -/
inductive BusMode
  | once
  | accept
  | persist (timeout : Nat)
  deriving DecidableEq, Repr

/-- Where an entry stands: waiting for the bus, in flight, or in a retry wait (R82). -/
inductive EntryPhase
  | waiting
  | inFlight
  | retryWait (left : Nat)
  deriving DecidableEq, Repr

/-- The persist timeout of an entry: not started before its first attempt (R82). -/
inductive Persist
  | unstarted
  | running (left : Nat)
  | expired
  deriving DecidableEq, Repr

/-- The owner of an entry (R84). `orphan` owns a door write offered under an earlier leaf table (R133). -/
inductive Owner
  | leaf (k : Nat)
  | group (g : Nat)
  | remote (source : ReqSource)
  | orphan
  deriving DecidableEq, Repr

/-- An entry of a class queue (R84). `current` marks the write of the leaf's latest state entry (R128)
and the latest write offered for a group (R166). -/
structure QueueEntry where
  op : BusOp
  mode : BusMode
  owner : Owner
  phase : EntryPhase
  persist : Persist
  current : Bool
  deriving DecidableEq, Repr

/-- The class queues (R84). -/
inductive QueueClass
  | door
  | heat
  | remote
  deriving DecidableEq, Repr

/-- What a round's cab service has seen so far, for R99: a transfer that ended, one that was answered. -/
structure CabTally where
  ended : Bool
  answered : Bool
  deriving DecidableEq, Repr

/-- The cab service entry of class 3 (R95, R96, R98). -/
structure CabEntry where
  writing : Bool
  readsLeft : Nat
  writesLeft : Nat
  tally : CabTally
  deriving DecidableEq, Repr

inductive CabTransfer
  | read
  | write
  deriving DecidableEq, Repr

/-- What becomes of a poll read in flight: it belongs to the current round; its round was overrun and
its result is applied (R91); its result is discarded (R100). -/
inductive PollUse
  | current
  | overrun
  | discarded
  deriving DecidableEq, Repr

/-- The transaction in flight (R80): the in-flight entry of a class queue; a mailbox transfer, with the
tally of its round if it runs outside class 3 (R95); or a poll read with its entry number. -/
inductive Flight
  | queue (cls : QueueClass)
  | cab (transfer : CabTransfer) (detached : Option CabTally)
  | poll (entry : PollEntry) (number : Nat) (use : PollUse)
  deriving DecidableEq, Repr

inductive RoundState
  | noRound
  | inProgress
  | finished
  deriving DecidableEq, Repr

/-- A status record (R92). -/
structure StatusRecord where
  dest : PollDest
  value : Option (List Byte)
  age : Nat
  deriving DecidableEq, Repr

inductive CabState
  | answering
  | lost
  deriving DecidableEq, Repr

/-- The Coach Bus Controller (R79, R101). `pointer` counts poll entries from 0; at the list's length it
stands past the end. -/
structure Bus where
  doorQueue : List QueueEntry
  heatQueue : List QueueEntry
  remoteQueue : List QueueEntry
  cab : Option CabEntry
  pointer : Option Nat
  pollRetry : Option Nat
  pollPersist : Persist
  flight : Option Flight
  replyTimer : Option Nat
  round : RoundState
  roundTimer : Option Nat
  records : List StatusRecord
  roster : List RosterEntry
  outbound : List CabFrame
  silence : Nat
  cabState : CabState
  overrunHoldoff : Option Nat
  noAnswer : Nat
  notReady : Nat
  persistTimeouts : Nat
  overruns : Nat
  cabDrop : Nat
  deriving DecidableEq, Repr

/-! ## Request Unit (R102, R186) -/

/-- An entry of the table of R107. -/
structure AliasEntry where
  number : Byte
  vehicle : VehicleRef
  station : Byte
  deriving DecidableEq, Repr

/-- A pending remote entry (R112). `deadline` is what is left of it; 0 has passed (R114). -/
structure RemoteEntry where
  source : ReqSource
  generation : Byte
  op : BusOp
  mode : BusMode
  deadline : Nat
  deriving DecidableEq, Repr

/-- Notice kinds (chapter 11, section 11.5). -/
inductive NoticeKind
  | portUp
  | portDown
  | queueDrop
  | leadConflict
  | leadNotAtEnd
  | censusDone
  | censusFailed
  | roundOverrun
  | stationChange
  | cabLost
  | leafFault
  | heatOff
  | groupFault
  | recordInvalid
  | recordStored
  deriving DecidableEq, Repr

/-- A notice entry (R186). -/
structure Notice where
  kind : NoticeKind
  subject : Byte
  value : Word16
  generation : Byte
  deriving DecidableEq, Repr

/-- The reset arm (R195): the source with the tag of the RESET-ARM, and the generation. -/
structure Arm where
  source : ReqSource
  generation : Byte
  deriving DecidableEq, Repr

/-- The Request Unit (R102, R186, R196). -/
structure Req where
  aliases : List AliasEntry
  remotes : List RemoteEntry
  requestDrop : Nat
  replyDiscard : Nat
  remoteStale : Nat
  remoteLate : Nat
  notices : List Notice
  overflow : Nat
  forwarding : Bool
  spacing : Option Nat
  arm : Option Arm
  resetPending : Bool
  resetTimer : Option Nat
  resetDue : Bool
  resetHeld : Bool
  deriving DecidableEq, Repr

/-! ## Door Unit (R115, R140) -/

inductive LeafState
  | start
  | closed
  | released
  | warning
  | closing
  | reopening
  | fault
  | isolated
  deriving DecidableEq, Repr

/-- A leaf (R115). -/
structure Leaf where
  state : LeafState
  timer : Option Nat
  attempts : Nat
  closeMark : Bool
  deriving DecidableEq, Repr

inductive HeadlessDelay
  | stopped
  | running (left : Nat)
  | expired
  deriving DecidableEq, Repr

/-- The Door Unit and the closure proof (R115, R139, R140). -/
structure Door where
  leaves : List Leaf
  headless : HeadlessDelay
  releaseSerial : Byte
  closeSerial : Byte
  releasesApplied : Nat
  releasesVoid : Nat
  closes : Nat
  leafFaults : Nat
  vehicleProof : Bool
  trainProof : Bool
  deriving DecidableEq, Repr

/-! ## Heat Unit (R150) -/

inductive GroupFault
  | feedback
  | writeFailed
  deriving DecidableEq, Repr

/-- A heating group (R150). -/
structure Group where
  commanded : Nat
  settled : Bool
  mismatch : Nat
  fault : Option GroupFault
  deriving DecidableEq, Repr

/-- The outward latch (R154). -/
structure HeatLatch where
  sequence : Byte
  dPre : Nat
  wPre : Nat
  demand : Nat
  weight : Nat
  requested : List Nat
  deriving DecidableEq, Repr

inductive IncreasePhase
  | waiting (left : Nat)
  | staggering (left : Nat)
  deriving DecidableEq, Repr

/-- A pending increase: a target count for each group, and its phase (R161, R162). -/
structure Increase where
  targets : List Nat
  phase : IncreasePhase
  deriving DecidableEq, Repr

/-- The Heat Unit (R150). `allotted` is the heat state ALLOTTED. -/
structure Heat where
  groups : List Group
  latch : Option HeatLatch
  take : Nat
  increase : Option Increase
  allotted : Bool
  hold : Option Nat
  allowance : Nat
  unlatchedReturn : Nat
  increaseDiscard : Nat
  groupFaults : Nat
  heatOff : Nat
  deriving DecidableEq, Repr

/-! ## The node -/

/-- The state of one node. `pending` is the queue of commands that wait, oldest first; `freeCount`
counts the free values drawn. -/
structure State where
  powered : Bool
  identity : Identity
  pins : Pins
  proven : Bool
  lp1 : Port
  lp2 : Port
  relay : Relay
  consist : Consist
  sweep : Sweep
  bus : Bus
  req : Req
  door : Door
  heat : Heat
  store : Store
  freeCount : Nat
  pending : List Instr
  deriving DecidableEq, Repr

/-- No command of this block stops with a fault: the manual gives an effect to every malformed frame,
request and image. Nobody raises one. -/
inductive Fault
  deriving DecidableEq, Repr

/-- Why a command has no meaning. -/
inductive Refusal
  /-- Raised by an arm of `exec` whose command has no meaning yet. Safe: the model stops. -/
  | notModelled (mnemonic : String)
  deriving DecidableEq, Repr

/-! ## Values after power-on -/

/-- A line port after power-on (R21, R13, R18, R19). -/
def Port.reset : Port where
  link := .down
  signal := false
  dropInterval := none
  contactHoldoff := none
  settle := { candidate := none, count := 0, time := none }
  neighbour := none
  lastDown := .none
  silence := none
  helloTimer := none
  glitchTimer := none
  windowFrames := 0
  windowErrors := 0
  offer := .none
  testDue := false
  run := none
  result := none
  received := 0
  errored := 0
  dropped := 0
  dropHoldoff := none
  urgent := []
  normal := []
  transmitter := none

/-- The Relay Unit after a reset (R10, R11, R20). -/
def Relay.reset : Relay where
  lastSerial := none
  changeIds := []
  headerError := 0
  refusedRequest := 0
  refusedReply := 0
  refusedNotice := 0
  refusedRelease := 0
  refusedSweepOut := 0
  refusedSweepBack := 0
  wrongDirection := 0
  beyondTail := 0
  noRoute := 0
  repeats := 0

/-- The Consist Unit after power-on (R37); a node reset keeps the change counter. -/
def Consist.reset : Consist where
  claim1 := false
  claim2 := false
  status := .none
  state := .unknown
  phase := .none
  censusGeneration := 0#8
  arrival := none
  censusPosition := 0
  generation := 0#8
  activeMap := []
  pendingMap := none
  lastGeneration := 0#8
  attempts := 0
  conflictHold := false
  changeCounter := 0#8
  copies := []
  wait := .stopped
  rollTimer := none
  holdTimer := none
  retryTimer := none
  censusDrop := 0

/-- The Sweep Unit after a reset (R65). -/
def Sweep.reset : Sweep where
  nextSequence := 0#8
  period := 100
  request := { standstill := false, enableLeft := false, enableRight := false }
  stagger := 100
  periodTimer := none
  outstanding := none
  missed := 0
  latch := none
  bits := { standstill := false, enableLeft := false, enableRight := false }
  freshness := none
  latchedPeriod := none
  latchedStagger := none
  mismatch := 0

/-- The Coach Bus Controller after a reset (R79), with no status record yet. -/
def Bus.reset : Bus where
  doorQueue := []
  heatQueue := []
  remoteQueue := []
  cab := none
  pointer := none
  pollRetry := none
  pollPersist := .unstarted
  flight := none
  replyTimer := none
  round := .noRound
  roundTimer := some Config.roundTimerMs
  records := []
  roster := []
  outbound := []
  silence := 0
  cabState := .answering
  overrunHoldoff := none
  noAnswer := 0
  notReady := 0
  persistTimeouts := 0
  overruns := 0
  cabDrop := 0

/-- The Request Unit after a reset (R102, R186). -/
def Req.reset : Req where
  aliases := []
  remotes := []
  requestDrop := 0
  replyDiscard := 0
  remoteStale := 0
  remoteLate := 0
  notices := []
  overflow := 0
  forwarding := true
  spacing := none
  arm := none
  resetPending := false
  resetTimer := none
  resetDue := false
  resetHeld := false

/-- The Door Unit after a reset (R115, R140), with no leaf yet and the default headless close delay. -/
def Door.reset : Door where
  leaves := []
  headless := .running 60000
  releaseSerial := 0#8
  closeSerial := 0#8
  releasesApplied := 0
  releasesVoid := 0
  closes := 0
  leafFaults := 0
  vehicleProof := false
  trainProof := false

/-- The Heat Unit after a reset (R150), with no group yet. -/
def Heat.reset : Heat where
  groups := []
  latch := none
  take := 0
  increase := none
  allotted := false
  hold := none
  allowance := 0
  unlatchedReturn := 0
  increaseDiscard := 0
  groupFaults := 0
  heatOff := 0

/-- An image of 512 zero bytes: the store of the node as the model delivers it (DESIGN CHOICE,
assumption 2). -/
def blankImage : List Byte := List.replicate Config.imageSize 0#8

/-- The Record Store after power-on over a blank store (R173, R175): the image fails its check at
SIGNATURE and the defaults stand. -/
def Store.reset : Store where
  stored := blankImage
  storedMark := .whole
  storedSetting := some .unlocked
  live := blankImage
  content := Content.defaults
  validity := some .signature
  edit := blankImage
  mode := .unlocked
  state := .idle
  awaiting := none
  writeTimer := none

/-- The node right after power-on with a blank store (R175; DESIGN CHOICE, assumption 2): every block at
its power-on values, and the notice RECORD-INVALID with value SIGNATURE in the notice queue. -/
def State.reset : State where
  powered := true
  identity := 0#48
  pins := { standstill := false, supply := false, workshop := false }
  proven := false
  lp1 := Port.reset
  lp2 := Port.reset
  relay := Relay.reset
  consist := Consist.reset
  sweep := Sweep.reset
  bus := Bus.reset
  req :=
    { Req.reset with
      notices := [{ kind := .recordInvalid, subject := 0#8, value := 1#16, generation := 0#8 }] }
  door := Door.reset
  heat := Heat.reset
  store := Store.reset
  freeCount := 0
  pending := []

end Sys2Proof.Machine
end

