-- ==== Sys2Proof/Machine/Codec.lean ====
section
/-! DEFINITION. The byte layouts of chapter 12: numbers, codes of named values, the frame check, and the
payloads of the frame kinds, built and read back (R197, sections 12.1 to 12.5). -/

namespace Sys2Proof.Machine

open Sys2Proof

/-! ## Numbers (R197) -/

/-- A number in one byte. -/
def byteOf (n : Nat) : Byte := BitVec.ofNat 8 n

/-- A number of two bytes, most significant first (R197). -/
def be16 (n : Nat) : List Byte := [byteOf (n / 256), byteOf n]

/-- The number two bytes stand for. -/
def num16 (hi lo : Byte) : Nat := hi.toNat * 256 + lo.toNat

/-- An identity in 6 bytes, most significant first (R197). -/
def idBytes (i : Identity) : List Byte :=
  [i.extractLsb' 40 8, i.extractLsb' 32 8, i.extractLsb' 24 8, i.extractLsb' 16 8,
   i.extractLsb' 8 8, i.extractLsb' 0 8]

/-- The identity 6 bytes stand for. -/
def idOf (a b c d e f : Byte) : Identity := a ++ b ++ c ++ d ++ e ++ f

/-- A list preceded by its count byte (R197). -/
def counted (bs : List Byte) : List Byte := byteOf bs.length :: bs

/-- A field that may be absent: its presence byte, then the field (R197). -/
def presence (field : Option (List Byte)) : List Byte :=
  match field with
  | none => [0#8]
  | some bs => 1#8 :: bs

/-- A set of up to three flags in one byte, bit 0 for the first flag named (R197). -/
def flagsByte (b0 b1 b2 : Bool) : Byte :=
  (if b0 then 1#8 else 0#8) ||| (if b1 then 2#8 else 0#8) ||| (if b2 then 4#8 else 0#8)

/-! ## Codes of named values (section 12.5; the rest numbered from 1, R197 and assumption 13) -/

/-- The status of a reply (R187). -/
inductive Status
  | ok
  | busy
  | state
  | range
  | full
  | absent
  | guarded
  | check
  | timeout
  | noAnswer
  | notReady
  | unknownKind
  deriving DecidableEq, Repr

/-- Status codes (section 12.5); `guarded` is the manual's PROTECTED. -/
def statusCode : Status → Byte
  | .ok => 0#8
  | .busy => 1#8
  | .state => 2#8
  | .range => 3#8
  | .full => 4#8
  | .absent => 5#8
  | .guarded => 6#8
  | .check => 7#8
  | .timeout => 8#8
  | .noAnswer => 9#8
  | .notReady => 10#8
  | .unknownKind => 11#8

/-- Notice kind codes (section 12.5). -/
def noticeCode : NoticeKind → Byte
  | .portUp => 1#8
  | .portDown => 2#8
  | .queueDrop => 3#8
  | .leadConflict => 4#8
  | .leadNotAtEnd => 5#8
  | .censusDone => 6#8
  | .censusFailed => 7#8
  | .roundOverrun => 8#8
  | .stationChange => 9#8
  | .cabLost => 10#8
  | .leafFault => 11#8
  | .heatOff => 12#8
  | .groupFault => 13#8
  | .recordInvalid => 14#8
  | .recordStored => 15#8

/-- Down reason codes (section 12.5). -/
def downCode : DownReason → Byte
  | .none => 0#8
  | .uncoupled => 1#8
  | .silent => 2#8
  | .neighbourChanged => 3#8
  | .contact => 4#8
  | .restart => 5#8
  | .testStart => 6#8
  | .testEnd => 7#8

/-- Check reason codes; 0 is the verdict VALID (section 12.5). -/
def checkCode : Option CheckReason → Byte
  | none => 0#8
  | some .signature => 1#8
  | some .version => 2#8
  | some .length => 3#8
  | some .range => 4#8
  | some .sum => 5#8

/-- The value VERIFY of RECORD-INVALID (section 12.5, R181). -/
def verifyCode : Nat := 6

/-- An end: End 1 is 1, End 2 is 2 (R197). -/
def endCode : CabEnd → Byte
  | .end1 => 1#8
  | .end2 => 2#8

/-- The end a byte names (R197). -/
def endOf (b : Byte) : Option CabEnd :=
  if b = 1#8 then some .end1 else if b = 2#8 then some .end2 else none

/-- A port by its number, 1 or 2. -/
def portOf (b : Byte) : Option PortId :=
  if b = 1#8 then some .lp1 else if b = 2#8 then some .lp2 else none

/-- The number of a port. -/
def portNumber : PortId → Byte
  | .lp1 => 1#8
  | .lp2 => 2#8

/-- Link states, in the order of R21. -/
def linkCode : LinkState → Byte
  | .down => 1#8
  | .settling => 2#8
  | .up => 3#8
  | .glitch => 4#8
  | .test => 5#8

/-- Claim statuses, in the order of R37. -/
def claimCode : ClaimStatus → Byte
  | .none => 1#8
  | .valid => 2#8
  | .conflict => 3#8
  | .blocked => 4#8

/-- Consist states, in the order of R37. -/
def consistCode : ConsistState → Byte
  | .unknown => 1#8
  | .stale => 2#8
  | .pending => 3#8
  | .settled => 4#8

/-- Census phases, in the order of R37. -/
def phaseCode : CensusPhase → Byte
  | .none => 1#8
  | .counting => 2#8
  | .awaitingRoll => 3#8
  | .holding => 4#8

/-- An orientation, in the order of R48 (assumption 13). -/
def orientationCode : Orientation → Byte
  | .forward => 1#8
  | .reversed => 2#8

/-- Protection modes, in the order of R173. -/
def protectionCode : Protection → Byte
  | .unlocked => 1#8
  | .keyed => 2#8
  | .held => 3#8
  | .fixed => 4#8

/-- The protection mode a byte names (R185). -/
def protectionOf (b : Byte) : Option Protection :=
  if b = 1#8 then some .unlocked else if b = 2#8 then some .keyed
  else if b = 3#8 then some .held else if b = 4#8 then some .fixed else none

/-- Cab states, in the order of R79. -/
def cabStateCode : CabState → Byte
  | .answering => 1#8
  | .lost => 2#8

/-- Store states, in the order of R173. -/
def storeCode : StoreState → Byte
  | .idle => 1#8
  | .writing => 2#8
  | .setting => 3#8
  | .awaitingDoors => 4#8

/-- Link test outcomes, in the order R36 and then R32 name them (assumption 13). -/
def outcomeCode : TestOutcome → Byte
  | .complete => 1#8
  | .aborted => 2#8
  | .refused => 3#8

/-- A two-valued state by its first value: 1 when it holds, 2 when not (R140's "proven, not proven" and
"asserted, deasserted"; assumption 13). -/
def choiceCode (first : Bool) : Byte := if first then 1#8 else 2#8

/-! ## The frame check (R3) -/

/-- One bit through the check register, polynomial x^16 + x^12 + x^5 + 1. -/
def crcBit (reg : BitVec 16) (bit : Bool) : BitVec 16 :=
  let shifted := reg <<< 1
  if reg.msb != bit then shifted ^^^ 0x1021#16 else shifted

/-- One byte through the check register, most significant bit first. -/
def crcByte (reg : BitVec 16) (b : Byte) : BitVec 16 :=
  [7, 6, 5, 4, 3, 2, 1, 0].foldl (fun r n => crcBit r (b.getLsbD n)) reg

/-- The 16-bit check of R3: the register starts at all ones and is not inverted at the end. -/
def crc16 (bs : List Byte) : BitVec 16 := bs.foldl crcByte 0xFFFF#16

/-! ## The frame on the line (section 12.2) -/

/-- The 8 header bytes and the payload of a frame. -/
def frameBody (f : Frame) : List Byte :=
  [f.kind, f.header.generation, f.header.flags, f.header.destination, f.header.source, f.header.tag]
    ++ be16 f.payload.length ++ f.payload

/-- The bytes a transmitter sends for a frame, the check computed as it is sent (R14, R3). -/
def frameWire (f : Frame) : List Byte := frameBody f ++ be16 (crc16 (frameBody f)).toNat

/-- The check of R3 on received bytes: the frame when they pass. -/
def wireFrame (bs : List Byte) : Option Frame :=
  match bs with
  | kind :: generation :: flags :: destination :: source :: tag :: lenHi :: lenLo :: rest =>
    let len := num16 lenHi lenLo
    let payload := rest.take len
    if rest.length = len + 2 ∧ len ≤ Config.maxPayload
        ∧ ¬(kind = Config.kindTest ∧ len % 2 = 1)
        ∧ rest.drop len = be16 (crc16 (bs.take (8 + len))).toNat then
      some { kind := kind
             header := { generation := generation, flags := flags, destination := destination,
                         source := source, tag := tag }
             payload := payload }
    else none
  | _ => none

/-- Whether a frame's payload length passes R3. -/
def payloadPasses (f : Frame) : Bool :=
  decide (f.payload.length ≤ Config.maxPayload)
    && !(decide (f.kind = Config.kindTest) && decide (f.payload.length % 2 = 1))

/-! ## HELLO and TEST payloads -/

/-- The variant of a HELLO (R24). -/
inductive HelloVariant
  | plain
  | testOffer (frames : Nat)
  | testAccept
  | testRefused
  deriving DecidableEq, Repr

/-- The payload of a HELLO (section 12.2). -/
def helloPayload (identity : Identity) (e : CabEnd) (generation : Byte) (v : HelloVariant) :
    List Byte :=
  let tail := match v with
    | .plain => [0#8, 0#8, 0#8]
    | .testOffer n => 1#8 :: be16 n
    | .testAccept => [2#8, 0#8, 0#8]
    | .testRefused => [3#8, 0#8, 0#8]
  idBytes identity ++ [endCode e, generation] ++ tail

/-- What a HELLO payload says, when its length, end, variant and frame count are those R24 asks for. -/
def readHello (payload : List Byte) : Option (Neighbour × HelloVariant) :=
  match payload with
  | [a, b, c, d, e, f, sending, generation, variant, hi, lo] =>
    match endOf sending with
    | none => none
    | some farEnd =>
      let n := num16 hi lo
      let who : Neighbour :=
        { identity := idOf a b c d e f, farEnd := farEnd, generation := generation }
      if variant = 0#8 then some (who, .plain)
      else if variant = 1#8 then
        if 16 ≤ n ∧ n ≤ 4096 then some (who, .testOffer n) else none
      else if variant = 2#8 then some (who, .testAccept)
      else if variant = 3#8 then some (who, .testRefused)
      else none
  | _ => none

/-- The fixed pattern of a TEST frame: the byte at offset i holds i XOR 0xA5 (section 12.2). -/
def testPattern : List Byte := (List.range 62).map fun i => byteOf (i + 2) ^^^ 0xA5#8

/-- The payload of TEST frame `sequence`. -/
def testPayload (sequence : Nat) : List Byte := be16 sequence ++ testPattern

/-- The sequence of a TEST payload whose pattern is exact (R35). -/
def readTest (payload : List Byte) : Option Nat :=
  match payload with
  | hi :: lo :: pattern => if pattern = testPattern then some (num16 hi lo) else none
  | _ => none

/-! ## Consist entries and census payloads (section 12.2) -/

/-- The flags byte of a consist entry. -/
def entryFlags (e : ConsistEntry) : Byte :=
  flagsByte (decide (e.orientation = .reversed)) e.recordValid e.isHead
    ||| (match e.claimedEnd with
      | none => 0#8
      | some .end1 => 0x10#8
      | some .end2 => 0x20#8)

/-- A consist entry in its 11 to 20 bytes. -/
def entryBytes (e : ConsistEntry) : List Byte :=
  idBytes e.identity ++ [entryFlags e, e.weight, e.leavesA, e.leavesB] ++ counted e.vehicleNumber

/-- Whether a byte is a printable character of a vehicle number (section 10.2). -/
def printable (b : Byte) : Bool := decide (0x20 ≤ b.toNat ∧ b.toNat ≤ 0x7E)

/-- The claimed cab end in bits 4 and 5 of an entry's flags: `none` when they hold 3. -/
def claimOfFlags (flags : Byte) : Option (Option CabEnd) :=
  if flags.getLsbD 4 then (if flags.getLsbD 5 then none else some (some .end1))
  else if flags.getLsbD 5 then some (some .end2) else some none

/-- One consist entry at the front of bytes, with the bytes after it; `none` when the bytes end early or
a field is one R198 drops the frame for. -/
def readEntry (bs : List Byte) : Option (ConsistEntry × List Byte) :=
  match bs with
  | a :: b :: c :: d :: e :: f :: flags :: weight :: leavesA :: leavesB :: len :: rest =>
    match claimOfFlags flags with
    | none => none
    | some claimed =>
      let number := rest.take len.toNat
      if weight.toNat ≤ 15 ∧ leavesA.toNat ≤ 8 ∧ leavesB.toNat ≤ 8 ∧ len.toNat ≤ 9
          ∧ number.length = len.toNat ∧ number.all printable then
        some ({ identity := idOf a b c d e f
                orientation := if flags.getLsbD 0 then .reversed else .forward
                recordValid := flags.getLsbD 1
                isHead := flags.getLsbD 2
                claimedEnd := claimed
                weight := weight
                leavesA := leavesA
                leavesB := leavesB
                vehicleNumber := number }, rest.drop len.toNat)
      else none
  | _ => none

/-- Exactly `n` consist entries and no byte after them. -/
def readEntries : Nat → List Byte → Option (List ConsistEntry)
  | 0, bs => if bs = [] then some [] else none
  | n + 1, bs =>
    match readEntry bs with
    | none => none
    | some (e, rest) => (readEntries n rest).map (e :: ·)

/-- A list of entries preceded by its count. -/
def entriesBytes (es : List ConsistEntry) : List Byte :=
  byteOf es.length :: (es.map entryBytes).flatten

/-- The list of a COUNT payload. -/
def readCount (payload : List Byte) : Option (List ConsistEntry) :=
  match payload with
  | n :: rest => readEntries n.toNat rest
  | [] => none

/-- The status of a ROLL (section 12.2). -/
inductive RollStatus
  | ok
  | leadConflict
  | tooLong
  deriving DecidableEq, Repr

def rollCode : RollStatus → Byte
  | .ok => 0#8
  | .leadConflict => 2#8
  | .tooLong => 3#8

/-- The payload of a ROLL. -/
def rollPayload (st : RollStatus) (es : List ConsistEntry) : List Byte :=
  rollCode st :: entriesBytes es

/-- The status and list of a ROLL payload. DESIGN CHOICE: a ROLL of status LEAD-CONFLICT or TOO-LONG whose entry
count is not 0 is read by its status; passRoll and headRoll make no use of its list (assumption 64). -/
def readRoll (payload : List Byte) : Option (RollStatus × List ConsistEntry) :=
  match payload with
  | st :: n :: rest =>
    match readEntries n.toNat rest with
    | none => none
    | some es =>
      if st = 0#8 then some (.ok, es)
      else if st = 2#8 then some (.leadConflict, es)
      else if st = 3#8 then some (.tooLong, es)
      else none
  | _ => none

/-- The N of a CONFIRM payload, 1 to 32 (R198). -/
def readConfirm (payload : List Byte) : Option Nat :=
  match payload with
  | [n] => if 1 ≤ n.toNat ∧ n.toNat ≤ Config.consistSize then some n.toNat else none
  | _ => none

/-! ## Sweeps (section 12.2) -/

/-- The proof tally (R143). -/
structure Tally where
  visits : Nat
  provenAll : Bool
  firstUnproven : Nat
  unproven : Nat
  isolated : Nat
  released : Nat
  deriving DecidableEq, Repr

/-- The tally a sweep starts with (R67, R143). -/
def Tally.start : Tally where
  visits := 0
  provenAll := true
  firstUnproven := 0
  unproven := 0
  isolated := 0
  released := 0

/-- The 7 bytes of a proof tally. -/
def tallyBytes (t : Tally) : List Byte :=
  [byteOf t.visits, if t.provenAll then 1#8 else 0#8, byteOf t.firstUnproven, byteOf t.unproven]
    ++ be16 t.isolated ++ [byteOf t.released]

/-- The tally 7 bytes stand for; a proven-all byte other than 1 is read as clear (R198). -/
def tallyOf (visits proven first unproven isoHi isoLo released : Byte) : Tally where
  visits := visits.toNat
  provenAll := decide (proven = 1#8)
  firstUnproven := first.toNat
  unproven := unproven.toNat
  isolated := num16 isoHi isoLo
  released := released.toNat

/-- A SWEEP-OUT (R67). -/
structure SweepOut where
  sequence : Byte
  period : Nat
  stagger : Nat
  bits : TrainBits
  allowance : Nat
  tally : Tally
  dSum : Nat
  wSum : Nat
  deriving DecidableEq, Repr

/-- The payload of a SWEEP-OUT. -/
def sweepOutPayload (f : SweepOut) : List Byte :=
  f.sequence :: be16 f.period ++ be16 f.stagger
    ++ [flagsByte f.bits.standstill f.bits.enableLeft f.bits.enableRight]
    ++ be16 f.allowance ++ tallyBytes f.tally ++ be16 f.dSum ++ be16 f.wSum

/-- A SWEEP-OUT payload read back; an allowance above 2000 is taken as 2000 (R198). -/
def readSweepOut (payload : List Byte) : Option SweepOut :=
  match payload with
  | [sq, p1, p0, g1, g0, bits, a1, a0, t0, t1, t2, t3, t4, t5, t6, d1, d0, w1, w0] =>
    some { sequence := sq
           period := num16 p1 p0
           stagger := num16 g1 g0
           bits := { standstill := bits.getLsbD 0, enableLeft := bits.getLsbD 1,
                     enableRight := bits.getLsbD 2 }
           allowance := min (num16 a1 a0) 2000
           tally := tallyOf t0 t1 t2 t3 t4 t5 t6
           dSum := num16 d1 d0
           wSum := num16 w1 w0 }
  | _ => none

/-- A SWEEP-BACK (R70). -/
structure SweepBack where
  sequence : Byte
  tally : Tally
  allowance : Nat
  deriving DecidableEq, Repr

/-- The payload of a SWEEP-BACK. -/
def sweepBackPayload (f : SweepBack) : List Byte :=
  f.sequence :: tallyBytes f.tally ++ be16 f.allowance

/-- A SWEEP-BACK payload read back; an R above 2000 is taken as 2000 (R198). -/
def readSweepBack (payload : List Byte) : Option SweepBack :=
  match payload with
  | [sq, t0, t1, t2, t3, t4, t5, t6, r1, r0] =>
    some { sequence := sq, tally := tallyOf t0 t1 t2 t3 t4 t5 t6, allowance := min (num16 r1 r0) 2000 }
  | _ => none

/-! ## Releases, closes and CHANGE -/

/-- A train side (R117). -/
inductive TrainSide
  | left
  | right
  deriving DecidableEq, Repr

/-- A train side by its code, 1 LEFT and 2 RIGHT. -/
def trainSideOf (b : Byte) : Option TrainSide :=
  if b = 1#8 then some .left else if b = 2#8 then some .right else none

def trainSideCode : TrainSide → Byte
  | .left => 1#8
  | .right => 2#8

/-- A DOOR-RELEASE (R119). -/
structure Release where
  serial : Byte
  side : TrainSide
  first : Nat
  last : Nat
  outside : Bool
  deriving DecidableEq, Repr

def releasePayload (r : Release) : List Byte :=
  [r.serial, trainSideCode r.side, byteOf r.first, byteOf r.last, if r.outside then 1#8 else 0#8]

/-- A DOOR-RELEASE payload, `none` where R198 fails it. -/
def readRelease (payload : List Byte) : Option Release :=
  match payload with
  | [serial, side, first, last, outside] =>
    match trainSideOf side with
    | none => none
    | some sd =>
      if first.toNat ≠ 0 ∧ first.toNat ≤ last.toNat ∧ last.toNat ≤ 32
          ∧ (outside = 0#8 ∨ outside = 1#8) then
        some { serial := serial, side := sd, first := first.toNat, last := last.toNat,
               outside := decide (outside = 1#8) }
      else none
  | _ => none

/-- A DOOR-CLOSE (R122). -/
structure Close where
  serial : Byte
  left : Bool
  right : Bool
  deriving DecidableEq, Repr

def closePayload (c : Close) : List Byte := [c.serial, flagsByte c.left c.right false]

/-- A DOOR-CLOSE payload, `none` where R198 fails it; mask bits other than 0 and 1 are ignored. -/
def readClose (payload : List Byte) : Option Close :=
  match payload with
  | [serial, mask] =>
    if mask.getLsbD 0 || mask.getLsbD 1 then
      some { serial := serial, left := mask.getLsbD 0, right := mask.getLsbD 1 }
    else none
  | _ => none

def changePayload (id : ChangeId) : List Byte := idBytes id.1 ++ [id.2]

/-- The change id of a CHANGE payload. -/
def readChange (payload : List Byte) : Option ChangeId :=
  match payload with
  | [a, b, c, d, e, f, n] => some (idOf a b c d e f, n)
  | _ => none

/-! ## Notices and cab frames (sections 12.2 and 12.3) -/

/-- The 5 bytes of a notice entry. -/
def noticeBytes (n : Notice) : List Byte :=
  [noticeCode n.kind, n.subject] ++ be16 n.value.toNat ++ [n.generation]

/-- A reply cab frame. -/
def replyCabFrame (tag status position : Byte) (payload : List Byte) : List Byte :=
  0x02#8 :: tag :: status :: position :: payload

/-- A notice cab frame. -/
def noticeCabFrame (position : Byte) (entry : List Byte) : List Byte := 0x03#8 :: position :: entry

end Sys2Proof.Machine
end

