-- ==== Sys2Proof/Machine/Record.lean ====
section
/-! DEFINITION. The vehicle record image: its layout (section 12.4), its check (R174) and the fields it
gives (section 10.2). -/

namespace Sys2Proof.Machine

open Sys2Proof

/-- Byte `i` of an image; 0 beyond its end. -/
def imageByte (img : List Byte) (i : Nat) : Byte := img.getD i 0#8

/-- Byte `i` of an image as a number. -/
def imageNat (img : List Byte) (i : Nat) : Nat := (imageByte img i).toNat

/-- The number at bytes `i` and `i + 1`. -/
def imageNum16 (img : List Byte) (i : Nat) : Nat := num16 (imageByte img i) (imageByte img (i + 1))

/-- Where the parts of an image stand, as its counts give them (section 12.4): the offsets of the
weight, of the leaf count, of the group count, of each group and of the entry count, and the offset
after the last poll entry. -/
structure Layout where
  weight : Nat
  door : Nat
  heat : Nat
  groups : List Nat
  poll : Nat
  stop : Nat
  deriving DecidableEq, Repr

/-- The offsets of `n` groups from `off` on and the offset after them, each stage count lying in 1 to 6. -/
def groupOffsets (img : List Byte) : Nat → Nat → Option (List Nat × Nat)
  | 0, off => some ([], off)
  | n + 1, off =>
    let s := imageNat img off
    if 1 ≤ s ∧ s ≤ 6 then
      (groupOffsets img n (off + 1 + s + 5)).map fun (offs, stop) => (off :: offs, stop)
    else none

/-- Step LENGTH of R174: the counts of the sections in turn, each within its range. -/
def readLayout (img : List Byte) : Option Layout :=
  let vn := imageNat img 3
  let weight := 4 + vn
  let door := weight + 3
  let n := imageNat img door
  let heat := door + 1 + 4 * n + 6
  let gc := imageNat img heat
  if vn ≤ 9 ∧ n ≤ 8 ∧ gc ≤ 4 then
    match groupOffsets img gc (heat + 1) with
    | none => none
    | some (offs, poll) =>
      let pc := imageNat img poll
      if pc ≤ 32 then
        some { weight := weight, door := door, heat := heat, groups := offs, poll := poll,
               stop := poll + 1 + 4 * pc }
      else none
  else none

/-- The offset of the check word: after one pad byte where the sections end on an odd count (R174). -/
def Layout.checkOffset (l : Layout) : Nat := l.stop + l.stop % 2

/-- The image length: up to and including the check word (R174). -/
def Layout.imageLength (l : Layout) : Nat := l.checkOffset + 2

/-- A leaf of the record at offset `o`. -/
def readLeaf (img : List Byte) (o : Nat) : LeafConfig where
  side := if imageByte img o = 0#8 then .a else .b
  station := imageByte img (o + 1)
  statusItem := imageByte img (o + 2)
  commandItem := imageByte img (o + 3)

/-- A group of the record at offset `o`. -/
def readGroup (img : List Byte) (o : Nat) : GroupConfig :=
  let s := imageNat img o
  { currents := (List.range s).map fun i => imageNat img (o + 1 + i)
    requestStation := imageByte img (o + 1 + s)
    requestItem := imageByte img (o + 2 + s)
    commandStation := imageByte img (o + 3 + s)
    commandItem := imageByte img (o + 4 + s)
    feedbackItem := imageByte img (o + 5 + s) }

/-- A poll destination byte (section 12.4). -/
def destOf (b : Byte) : Option PollDest :=
  let n := b.toNat
  if 0x01 ≤ n ∧ n ≤ 0x08 then some (.leafStatus n)
  else if 0x11 ≤ n ∧ n ≤ 0x14 then some (.groupRequest (n - 0x10))
  else if 0x21 ≤ n ∧ n ≤ 0x24 then some (.groupFeedback (n - 0x20))
  else if n = 0x30 then some .noticeOnChange
  else none

/-- A poll mode byte: 0 ONCE, 1 ACCEPT, 2 PERSIST (section 12.4). -/
def pollModeOf (b : Byte) : PollMode :=
  if b = 0#8 then .once else if b = 1#8 then .accept else .persist

/-- A poll entry at offset `o`. -/
def readPoll (img : List Byte) (o : Nat) : PollEntry where
  station := imageByte img o
  item := imageByte img (o + 1)
  mode := pollModeOf (imageByte img (o + 2))
  dest := (destOf (imageByte img (o + 3))).getD .noticeOnChange

/-- The offsets of the leaves. -/
def leafOffsets (img : List Byte) (l : Layout) : List Nat :=
  (List.range (imageNat img l.door)).map fun i => l.door + 1 + 4 * i

/-- The offset of the five door timers. -/
def timerOffset (img : List Byte) (l : Layout) : Nat := l.door + 1 + 4 * imageNat img l.door

/-- The offsets of the poll entries. -/
def pollOffsets (img : List Byte) (l : Layout) : List Nat :=
  (List.range (imageNat img l.poll)).map fun i => l.poll + 1 + 4 * i

/-- The fields of an image with a known layout. -/
def readContent (img : List Byte) (l : Layout) : Content :=
  let t := timerOffset img l
  let ends := imageNat img (l.weight + 1)
  { vehicleNumber := (List.range (imageNat img 3)).map fun i => imageByte img (4 + i)
    weight := imageNat img l.weight
    cabEnd1 := decide (ends = 1 ∨ ends = 3)
    cabEnd2 := decide (ends = 2 ∨ ends = 3)
    cabStation := decide (imageNat img (l.weight + 2) = 1)
    leaves := (leafOffsets img l).map (readLeaf img)
    warning := imageNat img t
    closeConfirm := imageNat img (t + 1)
    reopenDwell := imageNat img (t + 2)
    reopenAttempts := imageNat img (t + 3)
    headlessDelay := imageNum16 img (t + 4)
    groups := l.groups.map (readGroup img)
    polls := (pollOffsets img l).map (readPoll img) }

/-- A station number of the equipment, 1 to 30. -/
def stationOk (b : Byte) : Bool := decide (1 ≤ b.toNat ∧ b.toNat ≤ 30)

/-- An item number, 0 to 63. -/
def itemOk (b : Byte) : Bool := decide (b.toNat ≤ 63)

/-- A poll destination that names a leaf or group the record has (R174 step 4). -/
def destOk (leaves groups : Nat) : Option PollDest → Bool
  | none => false
  | some (.leafStatus k) => decide (k ≤ leaves)
  | some (.groupRequest g) => decide (g ≤ groups)
  | some (.groupFeedback g) => decide (g ≤ groups)
  | some .noticeOnChange => true

/-- Step RANGE of R174: every field in the ranges of section 10.2, and the pad byte 0. -/
def rangesOk (img : List Byte) (l : Layout) : Bool :=
  let c := readContent img l
  c.vehicleNumber.all printable
    && decide (c.weight ≤ 15)
    && decide (imageNat img (l.weight + 1) ≤ 3)
    && decide (imageNat img (l.weight + 2) ≤ 1)
    && (leafOffsets img l).all (fun o => decide (imageNat img o ≤ 1))
    && c.leaves.all (fun f => stationOk f.station && itemOk f.statusItem && itemOk f.commandItem)
    && decide (c.warning ≤ 10)
    && decide (2 ≤ c.closeConfirm ∧ c.closeConfirm ≤ 20)
    && decide (1 ≤ c.reopenDwell ∧ c.reopenDwell ≤ 5)
    && decide (c.reopenAttempts ≤ 3)
    && decide (10 ≤ c.headlessDelay ∧ c.headlessDelay ≤ 300)
    && c.groups.all (fun g =>
        g.currents.all (fun a => decide (1 ≤ a ∧ a ≤ 100))
          && stationOk g.requestStation && itemOk g.requestItem
          && stationOk g.commandStation && itemOk g.commandItem && itemOk g.feedbackItem)
    && (pollOffsets img l).all (fun o =>
        stationOk (imageByte img o) && itemOk (imageByte img (o + 1))
          && decide (imageNat img (o + 2) ≤ 2)
          && destOk c.leaves.length c.groups.length (destOf (imageByte img (o + 3))))
    && (decide (l.stop % 2 = 0) || decide (imageByte img l.stop = 0#8))

/-- The sum of the first `n` words of an image, carries out of 16 bits discarded (R174 step 5). -/
def wordSum (img : List Byte) (n : Nat) : Nat :=
  ((List.range n).foldl (fun sum i => sum + imageNum16 img (2 * i)) 0) % 65536

/-- The check of a record image (R174): the reason of the first step that fails, `none` when valid. -/
def checkImage (img : List Byte) : Option CheckReason :=
  if imageNum16 img 0 ≠ Config.recordSignature then some .signature
  else if imageNat img 2 ≠ 1 then some .version
  else match readLayout img with
    | none => some .length
    | some l =>
      if l.imageLength > Config.imageSize then some .length
      else if !rangesOk img l then some .range
      else if wordSum img (l.imageLength / 2) ≠ Config.recordSignature then some .sum
      else none

/-- The image length R179 reports: 0 where the check stops before the counts give one. -/
def imageLengthOf (img : List Byte) : Nat :=
  if imageNum16 img 0 ≠ Config.recordSignature ∨ imageNat img 2 ≠ 1 then 0
  else match readLayout img with
    | none => 0
    | some l => if l.imageLength > Config.imageSize then 0 else l.imageLength

/-- The check word of an image: the last word of its length (R174). -/
def checkWordOf (img : List Byte) : Word16 :=
  match readLayout img with
  | none => 0#16
  | some l => BitVec.ofNat 16 (imageNum16 img l.checkOffset)

/-- The content an image gives with a verdict: its fields when valid, else the defaults (R175). -/
def contentOf (img : List Byte) (verdict : Option CheckReason) : Content :=
  match verdict, readLayout img with
  | none, some l => readContent img l
  | _, _ => Content.defaults

end Sys2Proof.Machine
end

