-- ==== Sys2Proof/Machine/Ops.lean ====
section
/-! DEFINITION. The named operations every block shares: reading and changing a block of the state, the
node's place in its consist, cab frames and notices, the egress lanes and the routing of frames the
node originates. -/

namespace Sys2Proof.Machine

open Sys2Proof

/-! ## Blocks of the state -/

def State.port (s : State) : PortId → Port
  | .lp1 => s.lp1
  | .lp2 => s.lp2

def State.modPort (p : PortId) (f : Port → Port) (s : State) : State :=
  match p with
  | .lp1 => { s with lp1 := f s.lp1 }
  | .lp2 => { s with lp2 := f s.lp2 }

def State.modRelay (f : Relay → Relay) (s : State) : State := { s with relay := f s.relay }
def State.modConsist (f : Consist → Consist) (s : State) : State := { s with consist := f s.consist }
def State.modSweep (f : Sweep → Sweep) (s : State) : State := { s with sweep := f s.sweep }
def State.modBus (f : Bus → Bus) (s : State) : State := { s with bus := f s.bus }
def State.modReq (f : Req → Req) (s : State) : State := { s with req := f s.req }
def State.modDoor (f : Door → Door) (s : State) : State := { s with door := f s.door }
def State.modHeat (f : Heat → Heat) (s : State) : State := { s with heat := f s.heat }
def State.modStore (f : Store → Store) (s : State) : State := { s with store := f s.store }

/-- The outside drives the logic inputs (00_scope.md "Pins"; assumption 3). A rise has no effect of its
own; a fall is the command STANDSTILL_FALL or SUPPLY_FALL. -/
def State.withPins (pins : Pins) (s : State) : State := { s with pins := pins }

/-- The next number for a free value (assumptions 8, 9 and 12). -/
def State.drawFree (s : State) : State := { s with freeCount := s.freeCount + 1 }

/-! ## The node's place in its consist (R60) -/

/-- The number of positions of the active map. -/
def State.n (s : State) : Nat := s.consist.activeMap.length

/-- The entry of this node in a map. -/
def ownEntry (s : State) (m : List ConsistEntry) : Option ConsistEntry :=
  m.find? fun e => decide (e.identity = s.identity)

/-- The place of this node in a map, from 1; 0 where it is not there. -/
def positionIn (s : State) (m : List ConsistEntry) : Nat :=
  match m.findIdx? (fun e => decide (e.identity = s.identity)) with
  | some i => i + 1
  | none => 0

/-- The node's own position k (R60); 0 where it has none. -/
def State.position (s : State) : Nat := positionIn s s.consist.activeMap

/-- The node's orientation: that of its own entry (R60). -/
def State.orientation (s : State) : Option Orientation :=
  (ownEntry s s.consist.activeMap).map ConsistEntry.orientation

/-- The head-side port by an orientation (00_scope.md "Orientation"). -/
def headSide : Orientation → PortId
  | .forward => .lp1
  | .reversed => .lp2

/-- The head-side port of the active map. -/
def State.headPort (s : State) : PortId := headSide (s.orientation.getD .forward)

/-- The tail-side port of the active map. -/
def State.tailPort (s : State) : PortId := s.headPort.other

/-- Whether the node is SETTLED. -/
def State.isSettled (s : State) : Bool := decide (s.consist.state = .settled)

/-- Whether the node acts as head: its claim status is VALID (R37). -/
def State.actsAsHead (s : State) : Bool := decide (s.consist.status = .valid)

/-- A confirmed head, which sweeps (section 4.2). -/
def State.confirmedHead (s : State) : Bool := s.actsAsHead && s.isSettled

/-- Whether a generation is the node's own while it is SETTLED (R5, R117). -/
def State.settledIn (s : State) (generation : Byte) : Bool :=
  s.isSettled && decide (generation = s.consist.generation)

/-- A port that carries frames on: UP or GLITCH (R9, R13). -/
def Port.carries (q : Port) : Bool := decide (q.link = .up) || decide (q.link = .glitch)

/-! ## Building a frame (R1, R2) -/

/-- The kinds of the normal lane (R2). -/
def isNormalKind (kind : Byte) : Bool :=
  decide (kind = Config.kindRequest) || decide (kind = Config.kindReply)
    || decide (kind = Config.kindNotice)

/-- The flags byte R2 gives a kind: bit 0 set for the urgent lane. TEST has no lane and sends 0
(assumption 30). -/
def laneFlags (kind : Byte) : Byte :=
  if isNormalKind kind || decide (kind = Config.kindTest) then 0#8 else 1#8

/-- The source position a frame is built with (R1). -/
def State.sourcePosition (s : State) : Byte := if s.isSettled then byteOf s.position else 0#8

/-- A frame built now with a generation of its own (census frames, R1). -/
def buildFrameIn (s : State) (generation kind destination tag : Byte) (payload : List Byte) : Frame where
  kind := kind
  header :=
    { generation := generation, flags := laneFlags kind, destination := destination
      source := s.sourcePosition, tag := tag }
  payload := payload

/-- A frame built now with the active generation (R1). -/
def buildFrame (s : State) (kind destination tag : Byte) (payload : List Byte) : Frame :=
  buildFrameIn s s.consist.generation kind destination tag payload

/-! ## The cab outbound queue (R97) and the reply a reset waits for (R196) -/

/-- Whether cab service is served (R95): by the live record, or because it is invalid and gives the
defaults (R175). -/
def State.cabServed (s : State) : Bool := s.store.content.cabStation

/-- The reply of a RESET-NODE has been sent or lost: the reset is due (R196). -/
def resetReplyGone (s : State) : State :=
  s.modReq fun r => { r with resetDue := r.resetDue || r.resetPending }

/-- A cab frame has left its queue, whichever way. -/
def cabFrameGone (f : CabFrame) (s : State) : State :=
  if f.mark = .resetReply then resetReplyGone s else s

/-- A frame is offered to the cab outbound queue (R97). -/
def offerCab (f : CabFrame) (s : State) : State :=
  if s.cabServed ∧ s.bus.outbound.length < Config.cabQueueSize then
    s.modBus fun b => { b with outbound := b.outbound ++ [f] }
  else
    cabFrameGone f (s.modBus fun b => { b with cabDrop := satInc b.cabDrop })

/-- A reply cab frame is offered (section 6.2, R104, R110). -/
def offerCabReply (tag : Byte) (status : Byte) (position : Byte) (payload : List Byte) (mark : Mark)
    (s : State) : State :=
  offerCab { bytes := replyCabFrame tag status position payload, mark := mark } s

/-- A notice cab frame is offered (R192). -/
def offerCabNotice (position : Byte) (entry : List Byte) (s : State) : State :=
  offerCab { bytes := noticeCabFrame position entry, mark := .plain } s

/-! ## Notices (R191, R192) -/

/-- A notice joins: at a VALID head the cab outbound queue (R192), elsewhere the notice queue (R191). -/
def enqueueNotice (n : Notice) (s : State) : State :=
  if s.actsAsHead then
    offerCabNotice (if s.isSettled then 1#8 else 0#8) (noticeBytes n) s
  else if s.req.notices.length < Config.noticeQueueSize then
    s.modReq fun r => { r with notices := r.notices ++ [n] }
  else
    s.modReq fun r => { r with overflow := satInc r.overflow }

/-- A notice of this node, with its active generation (R186). -/
def State.noticeOf (s : State) (kind : NoticeKind) (subject : Byte) (value : Nat) : Notice where
  kind := kind
  subject := subject
  value := BitVec.ofNat 16 value
  generation := s.consist.generation

/-! ## Egress lanes (R13 to R18) -/

/-- A marked frame has left the egress side, sent or lost: R33's TEST is due, or R196's reset is. Every loss of
the reply counts, one in transmission too (DEDUCED, assumption 48). -/
def laneFrameGone (p : PortId) (e : LaneEntry) (s : State) : State :=
  match e.mark with
  | .plain => s
  | .testAccept =>
    s.modPort p fun q =>
      match q.offer with
      | .accepted _ => { q with testDue := true }
      | _ => q
  | .resetReply => resetReplyGone s

/-- One frame lost from the egress side: it is counted, and QUEUE-DROP is raised unless its holdoff
runs (R18). -/
def dropFrame (p : PortId) (e : LaneEntry) (s : State) : State :=
  let s := s.modPort p fun q => { q with dropped := satInc q.dropped }
  let q := s.port p
  let s :=
    if q.dropHoldoff = none then
      enqueueNotice (s.noticeOf .queueDrop (portNumber p) q.dropped)
        (s.modPort p fun q => { q with dropHoldoff := some Config.queueDropHoldoffMs })
    else s
  laneFrameGone p e s

/-- Several frames lost, oldest first (R17). -/
def dropFrames (p : PortId) (es : List LaneEntry) (s : State) : State :=
  es.foldl (fun s e => dropFrame p e s) s

/-- The egress arbiter (R14): a free transmitter of a port in UP or SETTLING takes the oldest urgent
frame, else the oldest normal frame; none once TEST is due (R34). -/
def pump (p : PortId) (s : State) : State :=
  let q := s.port p
  if q.transmitter = none ∧ (q.link = .up ∨ q.link = .settling) ∧ q.testDue = false then
    match q.urgent, q.normal with
    | e :: rest, _ => s.modPort p fun q => { q with transmitter := some e, urgent := rest }
    | [], e :: rest => s.modPort p fun q => { q with transmitter := some e, normal := rest }
    | [], [] => s
  else s

/-- The first entry of a lane that answers a test, and the lane without it. -/
def takeFirst (test : LaneEntry → Bool) : List LaneEntry → Option (LaneEntry × List LaneEntry)
  | [] => none
  | e :: rest =>
    if test e then some (e, rest)
    else (takeFirst test rest).map fun (found, others) => (found, e :: others)

/-- Which waiting entry a frame may displace from a full urgent lane: a sweep an older sweep of its
kind (R15), a DOOR-CLOSE anything that is not a DOOR-CLOSE (R16), any other frame nothing. -/
def displaces (kind : Byte) (waiting : LaneEntry) : Bool :=
  if kind = Config.kindSweepOut ∨ kind = Config.kindSweepBack then decide (waiting.frame.kind = kind)
  else if kind = Config.kindDoorClose then decide (waiting.frame.kind ≠ Config.kindDoorClose)
  else false

/-- A frame joins the urgent lane at its newest end, by the overflow rules when it is full
(R13, R15, R16). -/
def joinUrgent (p : PortId) (e : LaneEntry) (s : State) : State :=
  let lane := (s.port p).urgent
  if lane.length < Config.urgentLaneSize then
    s.modPort p fun q => { q with urgent := q.urgent ++ [e] }
  else match takeFirst (displaces e.frame.kind) lane with
    | some (old, rest) => dropFrame p old (s.modPort p fun q => { q with urgent := rest ++ [e] })
    | none => dropFrame p e s

/-- A frame joins the normal lane at its newest end; a full lane drops it (R13, R16). -/
def joinNormal (p : PortId) (e : LaneEntry) (s : State) : State :=
  if (s.port p).normal.length < Config.normalLaneSize then
    s.modPort p fun q => { q with normal := q.normal ++ [e] }
  else dropFrame p e s

/-- A frame the port or the Relay Unit could not place: counted as no-route (R13). -/
def noRoute (p : PortId) (e : LaneEntry) (s : State) : State :=
  laneFrameGone p e (s.modRelay fun r => { r with noRoute := satInc r.noRoute })

/-- A frame is offered to a port (R13): it joins its lane in UP and GLITCH, a HELLO also in SETTLING;
elsewhere it is counted as no-route. -/
def offer (p : PortId) (e : LaneEntry) (s : State) : State :=
  let link := (s.port p).link
  if (s.port p).carries ∨ (link = .settling ∧ e.frame.kind = Config.kindHello) then
    pump p (if isNormalKind e.frame.kind then joinNormal p e s else joinUrgent p e s)
  else noRoute p e s

/-- A plain frame is offered to a port. -/
def offerFrame (p : PortId) (f : Frame) (s : State) : State := offer p { frame := f, mark := .plain } s

/-- A broadcast is offered to a port only where it is in UP or GLITCH (R9, R12). -/
def offerIfCarrying (p : PortId) (f : Frame) (s : State) : State :=
  if (s.port p).carries then offerFrame p f s else s

/-- A broadcast the node originates goes to every port in UP or GLITCH (R12), LP1 first
(assumption 35). -/
def broadcast (f : Frame) (s : State) : State :=
  offerIfCarrying .lp2 f (offerIfCarrying .lp1 f s)

/-! ## Frames addressed by position (R8, R12) -/

/-- A frame for a position other than the node's own is routed (R8). -/
def route (e : LaneEntry) (s : State) : State :=
  let p := e.frame.header.destination.toNat
  let k := s.position
  if p < k then offer s.headPort e s
  else if k < s.n then offer s.tailPort e s
  else laneFrameGone s.tailPort e (s.modRelay fun r => { r with beyondTail := satInc r.beyondTail })

/-- A REPLY at its destination becomes a reply cab frame (R110, R198). -/
def deliverReply (f : Frame) (mark : Mark) (s : State) : State :=
  match f.payload with
  | status :: payload =>
    if s.settledIn f.header.generation then
      offerCabReply f.header.tag status f.header.source payload mark s
    else
      let s := s.modReq fun r => { r with replyDiscard := satInc r.replyDiscard }
      if mark = .resetReply then resetReplyGone s else s
  | [] => s.modReq fun r => { r with replyDiscard := satInc r.replyDiscard }

/-- A NOTICE at its destination: to the cab outbound queue of a VALID head, else dropped and counted
(R192, R198). -/
def deliverNotice (f : Frame) (s : State) : State :=
  if f.payload.length = 5 ∧ s.actsAsHead then offerCabNotice f.header.source f.payload s
  else s.modReq fun r => { r with requestDrop := satInc r.requestDrop }

/-- The node originates a REPLY (R12, R109). -/
def originateReply (destination tag : Byte) (status : Status) (payload : List Byte) (mark : Mark)
    (s : State) : State :=
  let f := buildFrame s Config.kindReply destination tag (statusCode status :: payload)
  let e : LaneEntry := { frame := f, mark := mark }
  if !s.isSettled then noRoute s.tailPort e s
  else if destination.toNat = s.position then deliverReply f mark s
  else route e s

/-- The node originates a NOTICE for position 1 (R12, R193). -/
def originateNotice (n : Notice) (s : State) : State :=
  let f := buildFrame s Config.kindNotice 1#8 0#8 (noticeBytes n)
  let e : LaneEntry := { frame := f, mark := .plain }
  if !s.isSettled then noRoute s.tailPort e s
  else if s.position = 1 then deliverNotice f s
  else route e s

/-- One look at the conditions of notice forwarding (R193): forwarding on, SETTLED, not head, a notice
waiting and the spacing timer stopped. -/
def forwardNotices (s : State) : State :=
  if s.req.forwarding && s.isSettled && !s.actsAsHead && decide (s.req.spacing = none) then
    match s.req.notices with
    | [] => s
    | n :: rest =>
      originateNotice n
        (s.modReq fun r => { r with notices := rest, spacing := some Config.noticeSpacingMs })
  else s

/-- A block raises a notice (R191), and forwarding is looked at (R193). -/
def raise (kind : NoticeKind) (subject : Byte) (value : Nat) (s : State) : State :=
  forwardNotices (enqueueNotice (s.noticeOf kind subject value) s)

/-- The answer to a request goes back to where it came from (R104, R109, R113). -/
def answer (source : ReqSource) (status : Status) (payload : List Byte) (mark : Mark) (s : State) :
    State :=
  match source with
  | .cab tag => offerCabReply tag (statusCode status) 0#8 payload mark s
  | .line position _ tag => originateReply position tag status payload mark s

end Sys2Proof.Machine
end

