-- ==== Sys2Proof/Machine/BusQueue.lean ====
section
/-! DEFINITION. The class queues of the coach bus, the offers that fill them and the arbiter that gives
the idle bus to one transaction (R80, R82, R84 to R88). -/

namespace Sys2Proof.Machine

open Sys2Proof

/-- The queue of a class. -/
def Bus.queue (b : Bus) : QueueClass → List QueueEntry
  | .door => b.doorQueue
  | .heat => b.heatQueue
  | .remote => b.remoteQueue

/-- The bus with another queue for a class. -/
def Bus.withQueue (cls : QueueClass) (q : List QueueEntry) (b : Bus) : Bus :=
  match cls with
  | .door => { b with doorQueue := q }
  | .heat => { b with heatQueue := q }
  | .remote => { b with remoteQueue := q }

/-- The station and item an entry's next attempt names; a walk reads item 0 (R83). -/
def BusOp.address : BusOp → Byte × Byte
  | .read station item => (station, item)
  | .write station item _ => (station, item)
  | .walk next _ _ _ => (next, 0#8)

/-- An entry as it joins its queue (R84). -/
def QueueEntry.fresh (op : BusOp) (mode : BusMode) (owner : Owner) : QueueEntry where
  op := op
  mode := mode
  owner := owner
  phase := .waiting
  persist := .unstarted
  current := true

/-- An entry in a retry wait. -/
def QueueEntry.inRetryWait (e : QueueEntry) : Bool :=
  match e.phase with
  | .retryWait _ => true
  | _ => false

/-- An entry whose attempt starts: its persist timeout starts at the first one (R82). -/
def QueueEntry.started (e : QueueEntry) : QueueEntry :=
  { e with
    phase := .inFlight
    persist :=
      match e.mode, e.persist with
      | .persist t, .unstarted => .running t
      | _, persist => persist
    op :=
      match e.op with
      | .walk next last _ roster => .walk next last true roster
      | op => op }

/-- A walk in flight. -/
def QueueEntry.walking (e : QueueEntry) : Bool :=
  match e.op with
  | .walk _ _ _ _ => decide (e.phase = .inFlight)
  | _ => false

/-- An entry put back before a queue; it stands behind a walk that has just started, which takes the front of
its class for all of its READs (R83; assumption 24). -/
def behindWalk (e : QueueEntry) : List QueueEntry → List QueueEntry
  | [] => [e]
  | x :: rest => if x.walking ∧ e.phase ≠ .inFlight then x :: e :: rest else e :: x :: rest

/-- The queue with its first eligible entry started (R85): the oldest one that waits and that no older
entry in a retry wait with the same station and item holds back. -/
def startFirst (held : List (Byte × Byte)) : List QueueEntry → Option (List QueueEntry)
  | [] => none
  | e :: rest =>
    if e.phase = .waiting ∧ e.op.address ∉ held then some (e.started :: rest)
    else
      (startFirst (if e.inRetryWait then e.op.address :: held else held) rest).map (behindWalk e)

/-- A transaction goes in flight, and the reply timeout of its attempt starts (R80). -/
def Bus.fly (f : Flight) (b : Bus) : Bus :=
  { b with flight := some f, replyTimer := some Config.busReplyMs }

/-- The mailbox transfer the cab service entry has next (R96, R98). -/
def nextCabTransfer (b : Bus) : Option CabTransfer :=
  match b.cab with
  | none => none
  | some c =>
    if c.writing then (if b.outbound = [] then none else some .write) else some .read

/-- The poll entry at the pointer, where class 5 has an eligible transaction (R85, R90). -/
def nextPoll (s : State) : Option (PollEntry × Nat) :=
  if s.bus.round = .inProgress ∧ s.bus.pollRetry = none then
    match s.bus.pointer with
    | none => none
    | some i => (s.store.content.polls[i]?).map fun e => (e, i + 1)
  else none

/-- The persist timeout of a poll entry that starts an attempt (R82, R90). -/
def pollPersistAt (e : PollEntry) (p : Persist) : Persist :=
  match e.mode, p with
  | .persist, .unstarted => .running Config.pollPersistMs
  | _, p => p

/-- The first eligible transaction of classes 1 to 5, started (R85). -/
def startNext (s : State) : Option State :=
  match startFirst [] s.bus.doorQueue with
  | some q => some (s.modBus fun b => ({ b with doorQueue := q }).fly (.queue .door))
  | none =>
    match startFirst [] s.bus.heatQueue with
    | some q => some (s.modBus fun b => ({ b with heatQueue := q }).fly (.queue .heat))
    | none =>
      match nextCabTransfer s.bus with
      | some t => some (s.modBus fun b => b.fly (.cab t none))
      | none =>
        match startFirst [] s.bus.remoteQueue with
        | some q => some (s.modBus fun b => ({ b with remoteQueue := q }).fly (.queue .remote))
        | none =>
          (nextPoll s).map fun (e, number) =>
            s.modBus fun b =>
              ({ b with pollPersist := pollPersistAt e b.pollPersist }).fly (.poll e number .current)

/-- The arbiter (R85): the idle bus goes to the first eligible transaction of classes 1 to 5. -/
def arbitrate (s : State) : State :=
  if s.bus.flight = none then (startNext s).getD s else s

/-- The queue without its oldest entry of an owner that is not in flight. -/
def withoutOldest (owner : Owner) : List QueueEntry → Option (List QueueEntry)
  | [] => none
  | e :: rest =>
    if e.owner = owner ∧ e.phase ≠ .inFlight then some rest
    else (withoutOldest owner rest).map (e :: ·)

/-- An entry of an owner that is not in flight: it waits for the bus or for the end of a retry wait. -/
def QueueEntry.waitsFor (owner : Owner) (e : QueueEntry) : Bool :=
  decide (e.owner = owner) && decide (e.phase ≠ .inFlight)

/-- The queue with the oldest entry of an owner that is not in flight replaced in its place, and any other such
entry gone with it, so that nothing older is written after the new entry (R87, R160; assumption 57). -/
def replaceWaiting (owner : Owner) (new : QueueEntry) : List QueueEntry → Option (List QueueEntry)
  | [] => none
  | e :: rest =>
    if e.waitsFor owner then some (new :: rest.filter fun x => !x.waitsFor owner)
    else (replaceWaiting owner new rest).map (e :: ·)

/-- Entries of an owner offered earlier are no longer its latest (R128, R166). -/
def supersede (owner : Owner) (q : List QueueEntry) : List QueueEntry :=
  q.map fun e => if e.owner = owner then { e with current := false } else e

/-- A door write is offered to class 1 (R86); the flag says QUEUE-FULL. The outcome CANCELLED of a write
it displaces has no effect (R133). -/
def offerDoorWrite (k : Nat) (station item command : Byte) (s : State) : State × Bool :=
  let new := QueueEntry.fresh (.write station item [command]) (.persist Config.writePersistMs) (.leaf k)
  let q := s.bus.doorQueue
  if q.length < Config.doorQueueSize then
    (arbitrate (s.modBus fun b => { b with doorQueue := q ++ [new] }), false)
  else match withoutOldest (.leaf k) q with
    | some rest => (arbitrate (s.modBus fun b => { b with doorQueue := rest ++ [new] }), false)
    | none => (s, true)

/-- A heat write is offered to class 2 (R87, R160): it takes the place of the group's waiting writes, else it
joins at the newest end. -/
def offerHeatWrite (g : Nat) (station item : Byte) (count : Nat) (s : State) : State :=
  let new :=
    QueueEntry.fresh (.write station item [byteOf count]) (.persist Config.writePersistMs) (.group g)
  let q := supersede (.group g) s.bus.heatQueue
  let q' := (replaceWaiting (.group g) new q).getD (q ++ [new])
  arbitrate (s.modBus fun b => { b with heatQueue := q' })

/-- A remote transaction is offered to class 4 (R88); `none` when it is refused as full. -/
def offerRemote (source : ReqSource) (op : BusOp) (mode : BusMode) (s : State) : Option State :=
  if s.bus.remoteQueue.length < Config.remoteQueueSize then
    some (arbitrate (s.modBus fun b =>
      { b with remoteQueue := b.remoteQueue ++ [QueueEntry.fresh op mode (.remote source)] }))
  else none

end Sys2Proof.Machine
end

