-- ==== Sys2Proof/Machine/Flags.lean ====
section
/-! DEFINITION. The node's derived indications: the status of a leaf as the Door Unit reads it (R116),
freshness (R92), the vehicle proof (R141, R142) and the PROVEN output (R148). -/

namespace Sys2Proof.Machine

open Sys2Proof

/-- The status record of a destination (R92). -/
def State.record (s : State) (d : PollDest) : Option StatusRecord :=
  s.bus.records.find? fun r => decide (r.dest = d)

/-- The value of a status record while it is fresh: age at most 2 and a value held (R92). -/
def State.freshValue (s : State) (d : PollDest) : Option (List Byte) :=
  match s.record d with
  | none => none
  | some r => if r.age ≤ 2 then r.value else none

/-- The five values of a leaf's status (R116). -/
inductive LeafStatus
  | closedLocked
  | opened
  | obstructed
  | isolatedLocked
  | isolatedOpen
  deriving DecidableEq, Repr

/-- A leaf status by its first byte (section 12.5, R199). -/
def leafStatusOf (b : Byte) : Option LeafStatus :=
  if b = 1#8 then some .closedLocked else if b = 2#8 then some .opened
  else if b = 3#8 then some .obstructed else if b = 4#8 then some .isolatedLocked
  else if b = 5#8 then some .isolatedOpen else none

/-- The status of leaf `k`: `none` is unknown (R116). -/
def State.leafStatus (s : State) (k : Nat) : Option LeafStatus :=
  match s.freshValue (.leafStatus k) with
  | some (b :: _) => leafStatusOf b
  | _ => none

/-- Whether a leaf counts toward the vehicle proof (R141). -/
def leafProven (st : LeafState) (status : Option LeafStatus) : Bool :=
  match st with
  | .closed => decide (status = some .closedLocked)
  | .isolated => decide (status = some .isolatedLocked)
  | _ => false

/-- The leaf numbers of the leaf table, 1 to n. -/
def State.leafNumbers (s : State) : List Nat :=
  (List.range s.door.leaves.length).map (· + 1)

/-- Leaf `k` of the leaf table. -/
def State.leaf (s : State) (k : Nat) : Option Leaf := if k = 0 then none else s.door.leaves[k - 1]?

/-- The vehicle proof as R141 gives it now. -/
def vehicleProofNow (s : State) : Bool :=
  decide (s.store.validity = none)
    && s.leafNumbers.all fun k =>
      match s.leaf k with
      | none => true
      | some l => leafProven l.state (s.leafStatus k)

/-- The vehicle proof is re-evaluated (R142). -/
def evalVehicleProof (s : State) : State :=
  let proof := vehicleProofNow s
  s.modDoor fun d => { d with vehicleProof := proof }

/-- The level the PROVEN output is driven to (R148). -/
def provenSource (s : State) : Bool :=
  if s.consist.status = .valid then
    if s.consist.state = .settled then
      (if s.n = 1 then s.door.vehicleProof else s.door.trainProof)
    else false
  else s.door.vehicleProof

/-- The PROVEN output follows its source (R148). -/
def driveProven (s : State) : State := { s with proven := provenSource s }

end Sys2Proof.Machine
end

