-- ==== Sys2Proof/Machine/Doors.lean ====
section
/-! DEFINITION. The Door Unit: entering a leaf state, releases and closes, the close sequence, isolation,
the leaf table of a new record, and the proof tally of a sweep (chapter 7; R143, R144). -/

namespace Sys2Proof.Machine

open Sys2Proof

/-! ## Entering a leaf state (R118) -/

/-- Leaf `k` is changed; there is no leaf 0. -/
def State.modLeaf (k : Nat) (f : Leaf → Leaf) (s : State) : State :=
  if k = 0 then s else s.modDoor fun d => { d with leaves := d.leaves.modify (k - 1) f }

/-- The command a state writes on entry (R118), by its code of section 12.5: UNLOCK 1, WARN 2, CLOSE 3,
REOPEN 4. -/
def leafCommand : LeafState → Option Byte
  | .released => some 1#8
  | .warning => some 2#8
  | .closing => some 3#8
  | .reopening => some 4#8
  | .start | .closed | .fault | .isolated => none

/-- The leaf timer a state starts on entry (R118), in milliseconds. -/
def leafTimer (c : Content) : LeafState → Option Nat
  | .warning => some (c.warning * 1000)
  | .closing => some (c.closeConfirm * 1000)
  | .reopening => some (c.reopenDwell * 1000)
  | .start | .closed | .released | .fault | .isolated => none

/-- Door writes offered for a leaf on earlier entries are no longer its latest (R128). -/
def supersedeLeaf (k : Nat) (s : State) : State :=
  s.modBus fun b => { b with doorQueue := supersede (.leaf k) b.doorQueue }

/-- The values of LEAF-FAULT (R139, section 12.5). -/
def closeFailedCode : Nat := 1
def openedWhileLockedCode : Nat := 2
def writeFailedCode : Nat := 3

/-- A leaf enters FAULT, for one of the three causes (R118, R139). -/
def enterFault (k : Nat) (value : Nat) (s : State) : State :=
  let s := supersedeLeaf k (s.modLeaf k fun l => { l with state := .fault, timer := none })
  let s := s.modDoor fun d => { d with leafFaults := satInc d.leafFaults }
  raise .leafFault (byteOf k) value (evalVehicleProof s)

/-- What the entry to a state does to the leaf itself (R118). -/
def Leaf.entered (c : Content) (st : LeafState) (l : Leaf) : Leaf where
  state := st
  timer := leafTimer c st
  attempts := if st = .released then c.reopenAttempts else l.attempts
  closeMark := if st = .closing then false else l.closeMark

/-- The state a leaf sent to `st` enters: WARNING is passed over while the warning time is 0 (R127). -/
def enteredState (c : Content) (st : LeafState) : LeafState :=
  if st = .warning ∧ c.warning = 0 then .closing else st

/-- A leaf enters a state: its timer, its marks and its command (R118). A command refused with
QUEUE-FULL sends it to FAULT (R133). -/
def enterLeaf (k : Nat) (st : LeafState) (s : State) : State :=
  let c := s.store.content
  let st := enteredState c st
  let s := evalVehicleProof (supersedeLeaf k (s.modLeaf k (Leaf.entered c st)))
  match leafCommand st, c.leaves[k - 1]? with
  | some command, some f =>
    let (s, full) := offerDoorWrite k f.station f.commandItem command s
    if full then enterFault k writeFailedCode s else s
  | _, _ => s

/-- A leaf enters WARNING as the start of a close sequence of its own, with every attempt
(R118, R135, R136). -/
def enterFreshWarning (k : Nat) (s : State) : State :=
  let attempts := s.store.content.reopenAttempts
  enterLeaf k .warning (s.modLeaf k fun l => { l with attempts := attempts })

/-- The state of leaf `k`. -/
def State.leafState (s : State) (k : Nat) : Option LeafState := (s.leaf k).map Leaf.state

/-! ## Releases (R117, R120, R121) -/

/-- The vehicle side a train side maps to (R117). -/
def vehicleSide : Orientation → TrainSide → Side
  | .forward, .left => .a
  | .forward, .right => .b
  | .reversed, .left => .b
  | .reversed, .right => .a

/-- The latched enable bit of a train side. -/
def enableBit (b : TrainBits) : TrainSide → Bool
  | .left => b.enableLeft
  | .right => b.enableRight

/-- Whether the latched sweep bits are fresh (R74). -/
def Sweep.fresh (w : Sweep) : Bool := w.freshness.isSome

/-- Whether a position satisfies a release's range (R120). -/
def Release.covers (r : Release) (k : Nat) : Bool :=
  if r.outside then decide (k < r.first) || decide (r.last < k)
  else decide (r.first ≤ k) && decide (k ≤ r.last)

/-- The conditions of R120 on the node itself. -/
def releaseHolds (r : Release) (generation : Byte) (s : State) : Bool :=
  s.settledIn generation
    && s.sweep.fresh && s.sweep.bits.standstill
    && s.pins.standstill
    && enableBit s.sweep.bits r.side
    && r.covers s.position

/-- The leaf states a release acts on (R120). -/
def LeafState.releasable : LeafState → Bool
  | .closed | .warning | .closing | .reopening => true
  | .start | .released | .fault | .isolated => false

/-- The vehicle side of leaf `k`. -/
def State.leafSide (s : State) (k : Nat) : Option Side :=
  (s.store.content.leaves[k - 1]?).map LeafConfig.side

/-- Whether a leaf meets every condition of R120. -/
def releasesLeaf (r : Release) (generation : Byte) (s : State) (k : Nat) : Bool :=
  releaseHolds r generation s
    && (match s.leafSide k, s.orientation with
      | some side, some o => decide (side = vehicleSide o r.side)
      | _, _ => false)
    && ((s.leafState k).map LeafState.releasable).getD false

/-- A release is applied at this node (R120). -/
def applyRelease (r : Release) (generation : Byte) (s : State) : State :=
  let ks := s.leafNumbers.filter (releasesLeaf r generation s)
  let s := ks.foldl (fun s k => enterLeaf k .released s) s
  s.modDoor fun d =>
    if ks = [] then { d with releasesVoid := satInc d.releasesVoid }
    else { d with releasesApplied := satInc d.releasesApplied }

/-! ## Closes (R123 to R127) -/

/-- Whether a close covers a vehicle side: by the orientation where it is usable, else always (R123). -/
def Close.covers (c : Close) (usable : Option Orientation) (side : Side) : Bool :=
  match usable with
  | some o =>
    (c.left && decide (side = vehicleSide o .left)) || (c.right && decide (side = vehicleSide o .right))
  | none => true

/-- What a close does to a covered leaf (R123). -/
def closeLeaf (k : Nat) (s : State) : State :=
  match s.leafState k with
  | some .released => enterLeaf k .warning s
  | some .reopening => enterLeaf k .closing s
  | _ => s

/-- A close is applied, with the orientation where it is usable (R123). DESIGN CHOICE: the covered leaves are
acted on in order of leaf number (assumption 62). -/
def applyClose (c : Close) (usable : Option Orientation) (s : State) : State :=
  let ks := s.leafNumbers.filter fun k => ((s.leafSide k).map (c.covers usable)).getD false
  let s := ks.foldl (fun s k => closeLeaf k s) s
  s.modDoor fun d => { d with closes := satInc d.closes }

/-- A RELEASED leaf enters WARNING (R124, R125, R126). -/
def warnLeaf (k : Nat) (s : State) : State :=
  match s.leafState k with
  | some .released => enterLeaf k .warning s
  | _ => s

/-- Every RELEASED leaf enters WARNING (R124, R125, R126), in order of leaf number (DESIGN CHOICE,
assumption 62). -/
def warnReleased (s : State) : State := s.leafNumbers.foldl (fun s k => warnLeaf k s) s

/-! ## The close sequence and supervision (R127 to R133, R136) -/

/-- A close has failed in CLOSING (R129). -/
def closeFailed (k : Nat) (s : State) : State :=
  match s.leaf k with
  | none => s
  | some l =>
    if l.attempts = 0 then enterFault k closeFailedCode s
    else enterLeaf k .reopening (s.modLeaf k fun l => { l with attempts := l.attempts - 1 })

/-- The first known status of a leaf in START (R136). -/
def firstStatus (k : Nat) (status : LeafStatus) (s : State) : State :=
  match status with
  | .closedLocked => enterLeaf k .closed s
  | .isolatedLocked | .isolatedOpen => enterLeaf k .isolated s
  | .opened | .obstructed => enterFreshWarning k s

/-- A known status is acted on by the leaf's state; `fromRead` says that a poll read has just ended DONE
(R127, R128, R130, R131, R132, R134, R136). -/
def actOnStatus (k : Nat) (fromRead : Bool) (l : Leaf) (status : LeafStatus) (s : State) : State :=
  match l.state with
  | .start => firstStatus k status s
  | .closed =>
    match status with
    | .opened | .obstructed => enterFault k openedWhileLockedCode s
    | .closedLocked | .isolatedLocked | .isolatedOpen => s
  | .closing =>
    if fromRead && l.closeMark then
      match status with
      | .closedLocked => enterLeaf k .closed s
      | .obstructed => closeFailed k s
      | .opened | .isolatedLocked | .isolatedOpen => s
    else s
  | .fault => if fromRead && decide (status = .closedLocked) then enterLeaf k .closed s else s
  | .released | .warning | .reopening | .isolated => s

/-- The Door Unit is told of the status record of leaf `k` (R94, R116, R142). -/
def leafStatusTold (k : Nat) (fromRead : Bool) (s : State) : State :=
  let s := evalVehicleProof s
  match s.leaf k, s.leafStatus k with
  | some l, some status => actOnStatus k fromRead l status s
  | _, _ => s

/-- The Door Unit is told of a round start (R94). DESIGN CHOICE: the leaves are taken in order of leaf number
(assumption 62). -/
def doorRoundStart (s : State) : State :=
  s.leafNumbers.foldl (fun s k => leafStatusTold k false s) (evalVehicleProof s)

/-- A door write ended DONE: the CLOSE of the current entry sets the close mark (R128, R133). -/
def doorWriteDone (k : Nat) (current : Bool) (s : State) : State :=
  if current ∧ s.leafState k = some .closing then s.modLeaf k fun l => { l with closeMark := true }
  else s

/-- A door write ended TIMEOUT (R133). -/
def doorWriteFailed (k : Nat) (s : State) : State :=
  match s.leafState k with
  | none | some .fault | some .isolated => s
  | some _ => enterFault k writeFailedCode s

/-! ## Isolation (R134, R135) -/

/-- DOOR-ISOLATE on a leaf; one already ISOLATED is left as it is (R134). -/
def isolateLeaf (k : Nat) (s : State) : State :=
  if s.leafState k = some .isolated then s else enterLeaf k .isolated s

/-- DOOR-RESTORE on an ISOLATED leaf (R135). -/
def restoreLeaf (k : Nat) (s : State) : State :=
  if s.leafStatus k = some .closedLocked then enterLeaf k .closed s else enterFreshWarning k s

/-! ## The leaf table and the headless close delay (R126, R136, R137) -/

/-- A leaf as a reset or a new record leaves it (R136). -/
def Leaf.fresh (c : Content) : Leaf where
  state := .start
  timer := none
  attempts := c.reopenAttempts
  closeMark := false

/-- A door write of the earlier leaf table acts on no leaf of the new one (R133). -/
def orphanDoorWrites (q : List QueueEntry) : List QueueEntry :=
  q.map fun e => match e.owner with
    | .leaf _ => { e with owner := .orphan }
    | _ => e

/-- The leaf table of the live record is taken up (R116, R136, R137). -/
def rebuildLeaves (s : State) : State :=
  let c := s.store.content
  evalVehicleProof
    ((s.modDoor fun d => { d with leaves := c.leaves.map fun _ => Leaf.fresh c }).modBus fun b =>
      { b with doorQueue := orphanDoorWrites b.doorQueue })

/-- The headless close delay starts at an entry to UNKNOWN (R126, R138). -/
def startHeadless (s : State) : State :=
  let ms := s.store.content.headlessDelay * 1000
  s.modDoor fun d => { d with headless := .running ms }

/-- The headless close delay stops at a commit (R126, R138). -/
def stopHeadless (s : State) : State := s.modDoor fun d => { d with headless := .stopped }

/-- Every leaf is CLOSED or ISOLATED: the moment AWAITING-DOORS waits for (R182). -/
def doorsAtRest (s : State) : Bool :=
  s.door.leaves.all fun l => decide (l.state = .closed) || decide (l.state = .isolated)

/-! ## The proof tally (R144) -/

/-- The vehicle adds itself to the proof tally of a SWEEP-OUT (R144). -/
def tallyVehicle (s : State) (t : Tally) : Tally where
  visits := satInc8 t.visits
  provenAll := t.provenAll && s.door.vehicleProof
  firstUnproven :=
    if !s.door.vehicleProof ∧ t.firstUnproven = 0 then s.position else t.firstUnproven
  unproven := if s.door.vehicleProof then t.unproven else satInc8 t.unproven
  isolated :=
    min (t.isolated + (s.door.leaves.filter fun l => decide (l.state = .isolated)).length) 65535
  released := if doorsAtRest s then t.released else satInc8 t.released

end Sys2Proof.Machine
end

