-- ==== Sys2Proof/Machine/Heat.lean ====
section
/-! DEFINITION. The Heat Unit: requests and demand, the outward and return passes, stage fitting, the
pending increase, the hold, heat writes and feedback (chapter 9). -/

namespace Sys2Proof.Machine

open Sys2Proof

/-! ## Groups (R150, R151) -/

/-- Group `g` of the group table, numbered from 1. -/
def State.group (s : State) (g : Nat) : Option Group :=
  if g = 0 then none else s.heat.groups[g - 1]?

/-- Group `g` of the live record. -/
def State.groupConfig (s : State) (g : Nat) : Option GroupConfig :=
  if g = 0 then none else s.store.content.groups[g - 1]?

/-- The group numbers, 1 to the number of groups. -/
def State.groupNumbers (s : State) : List Nat :=
  (List.range s.heat.groups.length).map (· + 1)

/-- Group `g` is changed; there is no group 0. -/
def State.modGroup (g : Nat) (f : Group → Group) (s : State) : State :=
  if g = 0 then s else s.modHeat fun h => { h with groups := h.groups.modify (g - 1) f }

/-- The current of a group with its first `m` stages switched (R151). -/
def stageCurrent (currents : List Nat) (m : Nat) : Nat := (currents.take m).sum

/-- The commanded current of the node (R151). -/
def commandedCurrent (s : State) : Nat :=
  ((s.store.content.groups.zip s.heat.groups).map fun (c, g) =>
    stageCurrent c.currents g.commanded).sum

/-- A heat write of a stage count is offered for a group: its commanded count takes the value, its
command is not settled and its mismatch count is 0 (R151, R166). -/
def offerGroup (g count : Nat) (s : State) : State :=
  match s.groupConfig g with
  | none => s
  | some c =>
    offerHeatWrite g c.commandStation c.commandItem count
      (s.modGroup g fun x => { x with commanded := count, settled := false, mismatch := 0 })

/-- The pending increase is discarded and counted, where there is one (R163). -/
def discardIncrease (s : State) : State :=
  match s.heat.increase with
  | none => s
  | some _ =>
    s.modHeat fun h => { h with increase := none, increaseDiscard := satInc h.increaseDiscard }

/-! ## Requests and demand (R152, R153) -/

/-- The requested stage count of group `g` (R152). -/
def State.requested (s : State) (g : Nat) : Nat :=
  match s.group g, s.groupConfig g, s.freshValue (.groupRequest g) with
  | some x, some c, some (b :: _) => if x.fault = none then min b.toNat c.currents.length else 0
  | _, _, _ => 0

/-- The requested stage count of every group, in record order. -/
def State.requestedAll (s : State) : List Nat := s.groupNumbers.map s.requested

/-- The node's demand D (R153) for requested stage counts. -/
def demandOf (s : State) (q : List Nat) : Nat :=
  if !s.pins.supply ∨ s.store.validity ≠ none ∨ s.store.content.weight = 0 then 0
  else ((s.store.content.groups.zip q).map fun (c, m) => stageCurrent c.currents m).sum

/-! ## The pending increase (R161 to R163) -/

/-- The pending increase is applied: each group whose target exceeds its commanded count is written
(R162), in record order (DESIGN CHOICE, assumption 53). -/
def applyIncrease (s : State) : State :=
  match s.heat.increase with
  | none => s
  | some inc =>
    let write := fun (s : State) (gt : Nat × Nat) =>
      match s.group gt.1 with
      | none => s
      | some x => if x.commanded < gt.2 then offerGroup gt.1 gt.2 s else s
    let s := (s.groupNumbers.zip inc.targets).foldl write s
    s.modHeat fun h => { h with increase := none }

/-- A SWEEP-OUT finds the pending increase WAITING: its stagger starts, or ends at once when it is 0
(R162). -/
def startStagger (s : State) : State :=
  match s.heat.increase with
  | some { targets := targets, phase := .waiting _ } =>
    let delay := (s.position - 1) * s.sweep.latchedStagger.getD Config.defaultStaggerMs
    let s := s.modHeat fun h =>
      { h with increase := some { targets := targets, phase := .staggering delay } }
    if delay = 0 then applyIncrease s else s
  | _ => s

/-- The latched period, or the one R76 takes where it is none. -/
def Sweep.usedPeriod (w : Sweep) : Nat := w.latchedPeriod.getD Config.defaultPeriodMs

/-- A pending increase formed from the fitted counts (R161, the rows for absent). -/
def formIncrease (fitted : List Nat) (s : State) : State :=
  if (fitted.zip s.heat.groups).any fun (f, g) => decide (g.commanded < f) then
    let wait := 2 * s.sweep.usedPeriod
    s.modHeat fun h => { h with increase := some { targets := fitted, phase := .waiting wait } }
  else s

/-- The pending increase after a return with these fitted counts (R161). -/
def updateIncrease (fitted : List Nat) (s : State) : State :=
  match s.heat.increase with
  | none => formIncrease fitted s
  | some inc =>
    if (fitted.zip inc.targets).any fun (f, t) => decide (f < t) then
      formIncrease fitted (discardIncrease s)
    else s.modHeat fun h => { h with increase := some { inc with targets := fitted } }

/-! ## The outward pass (R154) -/

/-- The Heat Unit is handed a SWEEP-OUT (R154). -/
def heatOutward (f : SweepOut) (s : State) : SweepOut × State :=
  let q := s.requestedAll
  let d := demandOf s q
  let w := s.store.content.weight
  let latch : HeatLatch :=
    { sequence := f.sequence, dPre := f.dSum, wPre := f.wSum, demand := d, weight := w, requested := q }
  let f' : SweepOut :=
    { f with
      dSum := min (f.dSum + d) 65535
      wSum := if d = 0 then f.wSum else min (f.wSum + w) 65535 }
  (f', startStagger (s.modHeat fun h => { h with latch := some latch }))

/-! ## The return pass (R155 to R158) -/

/-- The share G of a latch and a running allowance R (R155). -/
def heatShare (l : HeatLatch) (r : Nat) : Nat :=
  if l.demand = 0 then 0
  else if min (l.dPre + l.demand) 65535 ≤ r then l.demand
  else min l.demand (r * l.weight / (l.wPre + l.weight))

/-- A group in stage fitting: its stage currents, its requested and fitted counts, and whether it is
stopped (R156). -/
structure Fit where
  currents : List Nat
  want : Nat
  fitted : Nat
  stopped : Bool
  deriving DecidableEq, Repr

/-- A group is considered at a level, with the remaining share (R156). -/
def Fit.consider (level : Nat) (remaining : Nat) (f : Fit) : Fit × Nat :=
  if f.stopped ∨ f.want < level then (f, remaining)
  else match f.currents[level - 1]? with
    | none => (f, remaining)
    | some c =>
      if c ≤ remaining then ({ f with fitted := level }, remaining - c)
      else ({ f with stopped := true }, remaining)

/-- One level over the groups in record order (R156). -/
def fitLevel (level : Nat) : List Fit → Nat → List Fit × Nat
  | [], remaining => ([], remaining)
  | f :: rest, remaining =>
    let (f, remaining) := f.consider level remaining
    let (rest, remaining) := fitLevel level rest remaining
    (f :: rest, remaining)

/-- Levels 1 to 6 in turn (R156): the groups as fitted and the share that remains. -/
def fitStages (fits : List Fit) (share : Nat) : List Fit × Nat :=
  [1, 2, 3, 4, 5, 6].foldl (fun acc level => fitLevel level acc.1 acc.2) (fits, share)

/-- The groups as stage fitting takes them; one in group fault is taken with q = 0 (R156). -/
def fitsOf (s : State) (l : HeatLatch) : List Fit :=
  ((s.store.content.groups.zip s.heat.groups).zip l.requested).map fun ((c, g), q) =>
    { currents := c.currents, want := if g.fault = none then q else 0, fitted := 0, stopped := false }

/-- A group is lowered to a count below its commanded one (R160). -/
def lowerGroup (g count : Nat) (s : State) : State :=
  match s.group g with
  | none => s
  | some x => if count < x.commanded then offerGroup g count s else s

/-- Every group is lowered to its fitted count (R160), in record order (DESIGN CHOICE, assumption 53). -/
def lowerGroups (fitted : List Nat) (s : State) : State :=
  (s.groupNumbers.zip fitted).foldl (fun s gf => lowerGroup gf.1 gf.2 s) s

/-- A return with allotment is completed, with its latch and R (R156, R157): the R that goes on. -/
def allottedReturn (l : HeatLatch) (r : Nat) (s : State) : Nat × State :=
  let g := heatShare l r
  let (fits, remaining) := fitStages (fitsOf s l) g
  let fitted := fits.map Fit.fitted
  let u := g - remaining
  let s := s.modHeat fun h => { h with take := u }
  let s := updateIncrease fitted (lowerGroups fitted s)
  let hold := 8 * s.sweep.usedPeriod
  (r - u, s.modHeat fun h => { h with latch := none, allotted := true, hold := some hold })

/-- A return that gives this node no allotment (R158); the groups are lowered in record order (DESIGN CHOICE,
assumption 53). -/
def unlatchedReturn (s : State) : State :=
  let s := s.modHeat fun h => { h with take := 0 }
  let s := discardIncrease (s.groupNumbers.foldl (fun s g => lowerGroup g 0 s) s)
  s.modHeat fun h => { h with unlatchedReturn := satInc h.unlatchedReturn }

/-- The Heat Unit is handed a SWEEP-BACK as matching, or told of one passed unmatched (R155 to R158):
the R that goes on. A matching return leaves the latch absent in either case. -/
def heatReturn (sequence : Byte) (r : Nat) (matching : Bool) (s : State) : Nat × State :=
  if matching then
    match s.heat.latch with
    | some l =>
      if l.sequence = sequence then allottedReturn l r s
      else (r, (unlatchedReturn s).modHeat fun h => { h with latch := none })
    | none => (r, unlatchedReturn s)
  else (r, unlatchedReturn s)

/-! ## Group fault, feedback and outcomes (R166 to R169) -/

/-- Causes of a group fault (section 12.5). -/
def groupFaultCode : GroupFault → Nat
  | .feedback => 1
  | .writeFailed => 2

/-- A group goes into group fault (R168). -/
def faultGroup (g : Nat) (cause : GroupFault) (s : State) : State :=
  let s := s.modGroup g fun x => { x with fault := some cause }
  let s := discardIncrease (offerGroup g 0 s)
  raise .groupFault (byteOf g) (groupFaultCode cause)
    (s.modHeat fun h => { h with groupFaults := satInc h.groupFaults })

/-- The mismatch count of a group after a comparison with its feedback (R167). -/
def comparedMismatch (x : Group) (feedback : Option (List Byte)) : Nat :=
  match x.settled, feedback with
  | true, some (b :: _) => if b.toNat = x.commanded then 0 else x.mismatch + 1
  | _, _ => x.mismatch

/-- What a round start does to one group: the comparison of R167, or the write of 0 while it is in group
fault (R168). -/
def groupRoundStart (g : Nat) (s : State) : State :=
  match s.group g with
  | none => s
  | some x =>
    if x.fault ≠ none then offerGroup g 0 s
    else
      let m := comparedMismatch x (s.freshValue (.groupFeedback g))
      let s := s.modGroup g fun x => { x with mismatch := m }
      if Config.mismatchLimit ≤ m then faultGroup g .feedback s else s

/-- The Heat Unit is told of a round start (R94). DESIGN CHOICE: the groups are taken in record order, with their
writes of 0 and their GROUP-FAULT notices (R167, R168; assumption 53). -/
def heatRoundStart (s : State) : State := s.groupNumbers.foldl (fun s g => groupRoundStart g s) s

/-- A heat write ended DONE (R166). -/
def heatWriteDone (g : Nat) (current : Bool) (s : State) : State :=
  if current then s.modGroup g fun x => { x with settled := true } else s

/-- A heat write ended TIMEOUT (R166). -/
def heatWriteFailed (g : Nat) (s : State) : State :=
  match s.group g with
  | none => s
  | some x => if x.fault = none then faultGroup g .writeFailed s else s

/-- GROUP-RESET on a group in group fault (R169). -/
def resetGroup (g : Nat) (s : State) : State :=
  s.modGroup g fun x => { x with fault := none, mismatch := 0 }

/-! ## Hold, records and consists (R165, R170, R171) -/

/-- Every group is commanded to 0 (R151, R165, R170), in record order (DESIGN CHOICE, assumption 53). -/
def commandAllOff (s : State) : State := s.groupNumbers.foldl (fun s g => offerGroup g 0 s) s

/-- The hold runs out while the heat state is ALLOTTED (R165). -/
def holdRunsOut (s : State) : State :=
  let shed := commandedCurrent s
  let s := commandAllOff s
  let s := discardIncrease (s.modHeat fun h => { h with take := 0 })
  let s := s.modHeat fun h =>
    { h with allotted := false, hold := none, heatOff := satInc h.heatOff }
  raise .heatOff 0#8 shed s

/-- A group of a table just taken up (R150, R170). -/
def Group.fresh : Group where
  commanded := 0
  settled := false
  mismatch := 0
  fault := none

/-- The group table of the live record is taken up and every group commanded to 0 (R151, R170). -/
def rebuildGroups (s : State) : State :=
  let table := s.store.content.groups.map fun _ => Group.fresh
  let s := commandAllOff (s.modHeat fun h => { h with groups := table })
  let s := discardIncrease (s.modHeat fun h => { h with take := 0, latch := none })
  s.modHeat fun h => { h with allotted := false, hold := none }

/-- The active generation has changed (R171). -/
def heatGenerationChanged (s : State) : State :=
  discardIncrease (s.modHeat fun h => { h with latch := none })

end Sys2Proof.Machine
end

