-- ==== Sys2Proof/Machine/ConsistOps.lean ====
section
/-! DEFINITION. The Consist Unit without the census: what a change of the active generation and of the
consist state brings about in every unit, CHANGE, leaving a census, losing the lead, and a lost cab
station (R10, R11, R39, R41 to R45, R66, R74, R75, R99, R138, R147, R171). -/

namespace Sys2Proof.Machine

open Sys2Proof

/-! ## Generation and consist state -/

/-- The latches of the Sweep Unit are discarded (R74). -/
def Sweep.discardLatches (w : Sweep) : Sweep :=
  { w with
    latch := none
    bits := { standstill := false, enableLeft := false, enableRight := false }
    freshness := none
    latchedPeriod := none
    latchedStagger := none }

/-- The active generation takes a value; where it changes, the last applied release serial (R11), the
sweep latches (R74), the outward heat latch and the pending increase (R171) go with it. -/
def setGeneration (g : Byte) (s : State) : State :=
  if g = s.consist.generation then s
  else
    let s := s.modConsist fun c => { c with generation := g }
    let s := s.modRelay fun r => { r with lastSerial := none }
    heatGenerationChanged (s.modSweep Sweep.discardLatches)

/-- Sweeping stops and the train proof is withdrawn (R66, R147). -/
def stopSweeping (s : State) : State :=
  let s := s.modSweep fun w => { w with periodTimer := none, outstanding := none }
  s.modDoor fun d => { d with trainProof := false }

/-- The consist state takes a value; leaving SETTLED stops sweeping (R66, R147). -/
def setConsistState (st : ConsistState) (s : State) : State :=
  let leaving := s.isSettled ∧ st ≠ .settled
  let s := s.modConsist fun c => { c with state := st }
  if leaving then stopSweeping s else s

/-- The node enters UNKNOWN: the map is emptied, the generation is 0 and the census wait stops; the
headless close delay starts unless the node was UNKNOWN already (R44, R45, R58, R126, R138). -/
def enterUnknown (s : State) : State :=
  let entering := s.consist.state ≠ .unknown
  let s := setConsistState .unknown s
  let s := s.modConsist fun c => { c with activeMap := [], wait := .stopped }
  let s := setGeneration 0#8 s
  if entering then startHeadless s else s

/-- A map becomes the active map under a generation and the node is SETTLED (R47 step 5, R53, R57;
R126). -/
def commit (g : Byte) (m : List ConsistEntry) (s : State) : State :=
  let s := setConsistState .settled s
  let s := s.modConsist fun c => { c with activeMap := m, phase := .none, wait := .stopped }
  stopHeadless (setGeneration g s)

/-! ## CHANGE (R10, R42, R43) -/

/-- A change id at the newest end of the list, the oldest making room (R10). -/
def Relay.enterChange (id : ChangeId) (r : Relay) : Relay :=
  let kept :=
    if Config.changeIdListSize ≤ r.changeIds.length then r.changeIds.drop 1 else r.changeIds
  { r with changeIds := kept ++ [{ id := id, left := Config.changeIdMs }] }

/-- Whether a change id is in the list (R10). -/
def Relay.knows (id : ChangeId) (r : Relay) : Bool := r.changeIds.any fun e => decide (e.id = id)

/-- The id an originated CHANGE takes is entered by the same rule, so never twice (R10). -/
def enterOwnChange (id : ChangeId) (s : State) : State :=
  if s.relay.knows id then s else s.modRelay (Relay.enterChange id)

/-- The frame of a CHANGE of this node. -/
def changeFrame (s : State) (counter : Byte) : Frame :=
  buildFrame s Config.kindChange 255#8 0#8 (changePayload (s.identity, counter))

/-- A CHANGE is handed to the Relay Unit for the first time; two copies follow (R42). DESIGN CHOICE: its header is
built and the frame offered before the node applies the CHANGE to itself (assumption 67). -/
def announceChange (s : State) : State :=
  let counter := s.consist.changeCounter + 1#8
  let s := s.modConsist fun c =>
    { c with
      changeCounter := counter
      copies :=
        c.copies ++ [{ counter := counter, copies := 2, timer := Config.changeRepeatMs }] }
  let s := enterOwnChange (s.identity, counter) s
  broadcast (changeFrame s counter) s

/-- What a CHANGE does by the consist state (the table of R43). -/
def changeEffect (s : State) : State :=
  let wait : Consist → Consist := fun c => { c with wait := .running Config.censusWaitMs }
  match s.consist.state with
  | .settled => (setConsistState .stale s).modConsist wait
  | .stale | .pending => s.modConsist wait
  | .unknown => s

/-! ## Leaving a census (R45) -/

/-- The node leaves a census without a commit (R45). -/
def leaveCensus (s : State) : State :=
  let s := s.modConsist fun c => { c with pendingMap := none, holdTimer := none, rollTimer := none }
  match s.consist.state, s.consist.wait with
  | .pending, .running _ => setConsistState .stale s
  | .pending, .stopped =>
    (setConsistState .stale s).modConsist fun c => { c with wait := .running Config.censusWaitMs }
  | .pending, .expired => enterUnknown s
  | _, _ => s

/-! ## Losing the lead (R41) -/

/-- The request bits are cleared (R75). -/
def clearRequestBits (s : State) : State :=
  s.modSweep fun w =>
    { w with request := { standstill := false, enableLeft := false, enableRight := false } }

/-- The claim status has left VALID: sweeping stops, an attempt in COUNTING is abandoned and a CHANGE is
originated, which starts no census here (R41, R66, R75, R147). -/
def loseValidity (s : State) : State :=
  let counting := s.consist.phase = .counting
  let s := clearRequestBits (stopSweeping s)
  let s := s.modConsist fun c => { c with retryTimer := none, conflictHold := false }
  let s :=
    if counting then s.modConsist fun c => { c with rollTimer := none, phase := .none } else s
  let s := changeEffect (announceChange s)
  if counting then leaveCensus s else s

/-- The claims take new values; a change of them clears the conflict hold (R38, R39, R55). -/
def setClaims (claim1 claim2 : Bool) (s : State) : State :=
  if s.consist.claim1 = claim1 ∧ s.consist.claim2 = claim2 then s
  else s.modConsist fun c => { c with claim1 := claim1, claim2 := claim2, conflictHold := false }

/-- Both claims are cleared, and the claim status is NONE (R39, R40, R41). -/
def dropClaims (s : State) : State :=
  let wasValid := s.actsAsHead
  let s := (setClaims false false s).modConsist fun c => { c with status := .none }
  if wasValid then loseValidity s else s

/-- The cab station is lost (R99, R39, R75). -/
def cabLost (s : State) : State :=
  let s := s.modBus fun b => { b with cabState := .lost }
  raise .cabLost 0#8 0 (clearRequestBits (dropClaims s))

end Sys2Proof.Machine
end

