-- ==== Sys2Proof/Machine/Rounds.lean ====
section
/-! DEFINITION. Poll rounds and the outcome of cab service: the start of a round, its overrun and its
end (R89, R90, R91, R92, R95, R99). -/

namespace Sys2Proof.Machine

open Sys2Proof

/-- The outcome of a cab service is taken (R99); while cab service is not served nothing changes (R95). -/
def takeCabOutcome (t : CabTally) (s : State) : State :=
  if !s.cabServed then s
  else if t.answered then s.modBus fun b => { b with silence := 0, cabState := .answering }
  else if t.ended then
    let s := s.modBus fun b => { b with silence := satInc8 b.silence }
    if s.bus.cabState = .answering ∧ Config.cabSilentRounds ≤ s.bus.silence then cabLost s else s
  else s

/-- The pointer stands past the end of the poll list (R90). -/
def pointerPastEnd (s : State) : Bool :=
  match s.bus.pointer with
  | none => false
  | some i => decide (s.store.content.polls.length ≤ i)

/-- The round is finished once the pointer is past the end and no cab service is left (R90). -/
def finishRound (s : State) : State :=
  if s.bus.round = .inProgress ∧ pointerPastEnd s ∧ s.bus.cab = none then
    s.modBus fun b => { b with round := .finished }
  else s

/-- A poll read in flight when its round ends runs on outside it (R91, R100). -/
def Bus.detachPoll (use : PollUse) (b : Bus) : Bus :=
  match b.flight with
  | some (.poll e n .current) => { b with flight := some (.poll e n use), pollRetry := none }
  | some (.poll _ _ _) => { b with pollRetry := none }
  | _ => { b with pollRetry := none, pollPersist := .unstarted }

/-- A round in progress whose poll list is unfinished ends as an overrun (R91). DESIGN CHOICE: one whose pointer
is past the end, with nothing but its cab service left, ends without one (R95; assumption 50). -/
def overrunRound (s : State) : State :=
  if s.bus.round = .inProgress ∧ pointerPastEnd s = false then
    let s := s.modBus fun b => { b.detachPoll .overrun with overruns := satInc b.overruns }
    if s.bus.overrunHoldoff = none then
      raise .roundOverrun 0#8 s.bus.overruns
        (s.modBus fun b => { b with overrunHoldoff := some Config.overrunHoldoffMs })
    else s
  else s

/-- Every status record ages by one (R92). -/
def Bus.age (b : Bus) : Bus :=
  { b with records := b.records.map fun r => { r with age := satInc8 r.age } }

/-- The cab service entry of a round as it begins (R95). -/
def CabEntry.fresh : CabEntry where
  writing := false
  readsLeft := Config.cabTransfers
  writesLeft := Config.cabTransfers
  tally := { ended := false, answered := false }

/-- The cab service entry in class 3 is ended: a transfer in flight runs on outside the class, and the
outcome is taken when it ends, or at once where none is in flight (R95). -/
def endCabEntry (s : State) : State :=
  match s.bus.cab with
  | none => s
  | some c =>
    let s := s.modBus fun b => { b with cab := none }
    match s.bus.flight with
    | some (.cab t none) => s.modBus fun b => { b with flight := some (.cab t (some c.tally)) }
    | _ => takeCabOutcome c.tally s

/-- The cab service of a round is placed in class 3 (R95). -/
def placeCabEntry (s : State) : State :=
  let s := endCabEntry s
  if s.cabServed then s.modBus fun b => { b with cab := some CabEntry.fresh } else s

/-- A poll round starts, and the round timer with it (R89). DESIGN CHOICE: the arbiter looks at the new pointer
before the Door and Heat Units are told of the round (assumption 51). -/
def roundStart (duration : Nat) (s : State) : State :=
  let s := overrunRound (s.modBus fun b => { b with roundTimer := some duration })
  let s := s.modBus fun b => { b.age with pointer := some 0, round := .inProgress }
  let s := arbitrate (finishRound (placeCabEntry s))
  heatRoundStart (doorRoundStart s)

end Sys2Proof.Machine
end

