-- ==== Sys2Proof/Machine/Sweeps.lean ====
section
/-! DEFINITION. The Sweep Unit: launch, missed sweep, outward pass, turn-round, return pass, local sweep,
report, and the train proof (R66 to R77, R146, R147). -/

namespace Sys2Proof.Machine

open Sys2Proof

/-! ## The outward pass (R69) -/

/-- A received period, clamped into 50 to 500 and rounded down to a multiple of 10 (R69, R75). -/
def clampPeriod (p : Nat) : Nat := max 50 (min 500 p) / 10 * 10

/-- A received stagger step, clamped to at most 500 (R69, R164). -/
def clampStagger (g : Nat) : Nat := min g 500

/-- A SWEEP-OUT is latched (R69 step 1, R74). -/
def Sweep.latchOut (f : SweepOut) (w : Sweep) : Sweep :=
  { w with
    latch := some { sequence := f.sequence, returned := false }
    bits := f.bits
    freshness := some (2 * clampPeriod f.period)
    latchedPeriod := some (clampPeriod f.period)
    latchedStagger := some (clampStagger f.stagger) }

/-- The outward processing of a SWEEP-OUT as far as the proof tally: latch, round start, and the STANDSTILL
bit at the Door Unit (R69 steps 1 to 3, R125). -/
def outwardStart (f : SweepOut) (s : State) : State :=
  let s := roundStart (2 * clampPeriod f.period) (s.modSweep (Sweep.latchOut f))
  if f.bits.standstill then s else warnReleased s

/-- The outward processing of a SWEEP-OUT: after its start the Door Unit adds to the proof tally and the Heat
Unit to the heat tally (R69 step 3, R144, R154). The frame comes back with its tallies updated. -/
def processOutward (f : SweepOut) (s : State) : SweepOut × State :=
  let s := outwardStart f s
  heatOutward { f with tally := tallyVehicle s f.tally } s

/-! ## The return pass (R70, R71) -/

/-- The latch matches a returned sequence (R71). -/
def Sweep.matchesReturn (sequence : Byte) (w : Sweep) : Bool :=
  match w.latch with
  | some l => decide (l.sequence = sequence) && !l.returned
  | none => false

/-- The latched sequence is marked RETURNED (R68, R71, R72). -/
def Sweep.markReturned (w : Sweep) : Sweep :=
  { w with latch := w.latch.map fun l => { l with returned := true } }

/-- A SWEEP-BACK is handed to the Relay Unit for the head-side port. -/
def sendBack (payload : List Byte) (s : State) : State :=
  offerFrame s.headPort (buildFrame s Config.kindSweepBack 0#8 0#8 payload) s

/-- A matching return at a node that is not head: the Heat Unit takes its share and the frame goes on
(R71). DESIGN CHOICE: where the Heat Unit leaves R as it is (R158), an R above 2000 goes on as the 2000 it was
read as (assumption 56). -/
def matchedReturn (f : SweepBack) (s : State) : State :=
  let (r, s) := heatReturn f.sequence f.allowance true (s.modSweep Sweep.markReturned)
  sendBack (sweepBackPayload { f with allowance := r }) s

/-- A return that matches no latch passes as it arrived (R71, R78, R158). DESIGN CHOICE: an R above 2000 goes on as
it came (assumption 56). -/
def unmatchedReturn (f : SweepBack) (payload : List Byte) (s : State) : State :=
  let s := s.modSweep fun w => { w with mismatch := satInc w.mismatch }
  sendBack payload (heatReturn f.sequence f.allowance false s).2

/-- The SWEEP-BACK a turn-round builds (R70). -/
def turnedRound (f : SweepOut) : SweepBack where
  sequence := f.sequence
  tally := f.tally
  allowance := f.allowance

/-- A delivered SWEEP-OUT at a node that is not head (R69, R70). DESIGN CHOICE: it goes on with its period and
stagger step as received and its allowance as read, at most 2000 (assumption 56). -/
def sweepOutward (f : SweepOut) (s : State) : State :=
  let (f, s) := processOutward f s
  if s.position = s.n ∨ !(s.port s.tailPort).carries then matchedReturn (turnedRound f) s
  else offerFrame s.tailPort (buildFrame s Config.kindSweepOut 0#8 0#8 (sweepOutPayload f)) s

/-! ## Completion at the head (R72, R77, R146) -/

/-- The result of a train state report (section 12.3). -/
inductive ReportResult
  | notProven
  | proven
  | missed
  deriving DecidableEq, Repr

/-- The code of a report's result. -/
def resultCode : ReportResult → Byte
  | .notProven => 0#8
  | .proven => 1#8
  | .missed => 2#8

/-- A train state report (R77, section 12.3); the tally and leftover of a missed sweep are sent as 0. -/
def reportBytes (s : State) (sequence : Byte) (result : ReportResult)
    (body : Option (Tally × Nat)) : List Byte :=
  [0x04#8, s.consist.generation, sequence, resultCode result]
    ++ (match body with
      | some (t, _) => tallyBytes t
      | none => List.replicate 7 0#8)
    ++ [byteOf s.n]
    ++ (match body with
      | some (_, leftover) => be16 leftover
      | none => [0#8, 0#8])
    ++ be16 s.sweep.missed ++ [byteOf s.consist.attempts]

/-- A train state report enters the cab outbound queue (R77, R97). -/
def report (sequence : Byte) (result : ReportResult) (body : Option (Tally × Nat)) (s : State) : State :=
  offerCab { bytes := reportBytes s sequence result body, mark := .plain } s

/-- A tally of N proven vehicles: proven-all set and N visits (R146), and such as a consist of N vehicles could
produce (R198). DEDUCED from R143 and R144: then no vehicle was counted as unproven or as released, and none had
more than its 8 leaves in ISOLATED (assumption 55). -/
def Tally.provesTrain (n : Nat) (t : Tally) : Bool :=
  t.provenAll && decide (t.visits = n)
    && decide (t.firstUnproven = 0 ∧ t.unproven = 0 ∧ t.released = 0 ∧ t.isolated ≤ Config.leafTableSize * n)

/-- The train proof flag is set or cleared from a returned tally (R146, R198). -/
def evalTrainProof (t : Tally) (s : State) : State :=
  let proof := t.provesTrain s.n
  s.modDoor fun d => { d with trainProof := proof }

/-- Steps 2 to 4 of R72: the head's share, the train proof and the report. -/
def completeReturn (f : SweepBack) (s : State) : State :=
  let (leftover, s) := heatReturn f.sequence f.allowance true s
  let s := evalTrainProof f.tally s
  report f.sequence (if s.door.trainProof then .proven else .notProven) (some (f.tally, leftover)) s

/-- A SWEEP-BACK delivered at the head (R72); one that is late or foreign is dropped and withdraws the
train proof (R147). -/
def headReturn (f : SweepBack) (s : State) : State :=
  if s.sweep.outstanding = some f.sequence then
    completeReturn f (s.modSweep fun w => { w.markReturned with outstanding := none })
  else
    let s := s.modSweep fun w => { w with mismatch := satInc w.mismatch }
    s.modDoor fun d => { d with trainProof := false }

/-! ## Launch (R66, R67, R68, R73) -/

/-- The SWEEP-OUT the head builds (R67 step 1). -/
def builtSweep (s : State) : SweepOut where
  sequence := s.sweep.nextSequence
  period := s.sweep.period
  stagger := s.sweep.stagger
  bits := { s.sweep.request with standstill := s.sweep.request.standstill && s.pins.standstill }
  allowance := s.heat.allowance
  tally := Tally.start
  dSum := 0
  wSum := 0

/-- The next sequence is used (R67 step 1). -/
def useSequence (s : State) : State :=
  s.modSweep fun w => { w with nextSequence := w.nextSequence + 1#8 }

/-- A launch with N > 1 (R67). A launch whose own round start has cost the node its lead is abandoned
(assumption 20). -/
def launchFrames (s : State) : State :=
  let built := builtSweep s
  let (f, s) := processOutward built (useSequence s)
  if s.confirmedHead then
    let s := offerFrame s.tailPort (buildFrame s Config.kindSweepOut 0#8 0#8 (sweepOutPayload f)) s
    s.modSweep fun w =>
      { w with outstanding := some built.sequence, periodTimer := some built.period }
  else s

/-- A local sweep at a head alone (R73). -/
def localSweep (s : State) : State :=
  let built := builtSweep s
  let (f, s) := processOutward built (useSequence s)
  if s.confirmedHead then
    let s := completeReturn (turnedRound f) s
    s.modSweep fun w => { w with periodTimer := some built.period }
  else s

/-- The head launches its next sweep, with frames or locally (R66, R68, R73). -/
def launch (s : State) : State := if s.n = 1 then localSweep s else launchFrames s

/-- The outstanding sweep is missed (R68, R147). -/
def missSweep (sequence : Byte) (s : State) : State :=
  let s := s.modSweep fun w =>
    { w.markReturned with missed := satInc w.missed, outstanding := none }
  let s := s.modDoor fun d => { d with trainProof := false }
  report sequence .missed none s

/-- The head's first sweep after its commit (R66, R147). -/
def startSweeping (s : State) : State :=
  let s := s.modSweep fun w => { w with missed := 0, outstanding := none }
  launch (s.modDoor fun d => { d with trainProof := false })

/-- The period timer runs out at a confirmed head (R68, R73). -/
def periodRunsOut (s : State) : State :=
  let s := s.modSweep fun w => { w with periodTimer := none }
  match s.sweep.outstanding with
  | some sequence => launch (if s.n = 1 then s else missSweep sequence s)
  | none => launch s

end Sys2Proof.Machine
end

