-- ==== Sys2Proof/Machine/Census.lean ====
section
/-! DEFINITION. The census and the lead: own entry, starting a census, CHANGE in full, the claim status,
and the census frames COUNT, ROLL and CONFIRM (R40 to R59). -/

namespace Sys2Proof.Machine

open Sys2Proof

/-! ## The consist entry (R48) -/

/-- The leaves of a side in the live record. -/
def leavesOf (c : Content) (side : Side) : Nat :=
  (c.leaves.filter fun f => decide (f.side = side)).length

/-- The node's consist entry, built from its live record (R48); `head` is the claimed end at the head. -/
def buildEntry (s : State) (o : Orientation) (head : Option CabEnd) : ConsistEntry where
  identity := s.identity
  orientation := o
  recordValid := decide (s.store.validity = none)
  isHead := head.isSome
  claimedEnd := head
  weight := byteOf s.store.content.weight
  leavesA := byteOf (leavesOf s.store.content .a)
  leavesB := byteOf (leavesOf s.store.content .b)
  vehicleNumber := s.store.content.vehicleNumber

/-- The claimed end of a node with one claim. -/
def State.claimedEnd (s : State) : CabEnd := if s.consist.claim1 then .end1 else .end2

/-- The orientation of a head by its claimed end (R48). -/
def headOrientation : CabEnd → Orientation
  | .end1 => .forward
  | .end2 => .reversed

/-- The orientation of another node by the arrival port of its COUNT (R48). -/
def arrivalOrientation : PortId → Orientation
  | .lp1 => .forward
  | .lp2 => .reversed

/-! ## Commit as head and starting a census (R47, R53, R66) -/

/-- The head commits: the map and generation, CENSUS-DONE, and its first sweep (R47 step 5, R53,
R66). -/
def commitAsHead (g : Byte) (m : List ConsistEntry) (s : State) : State :=
  let s := (commit g m s).modConsist fun c => { c with attempts := 0, rollTimer := none }
  startSweeping (raise .censusDone 0#8 m.length s)

/-- The neighbour generation a new census counts from (R47 step 2). -/
def neighbourGeneration (q : Port) : Byte :=
  if q.carries then (q.neighbour.map Neighbour.generation).getD 0#8 else 0#8

/-- The generation of a new census: one above the larger of the last census generation and the tail-side
neighbour's (R47 step 2). -/
def censusGenerationFor (s : State) (tail : PortId) : Byte :=
  let m := max s.consist.lastGeneration.toNat (neighbourGeneration (s.port tail)).toNat
  nextGeneration (byteOf m)

/-- A census frame is handed to the Relay Unit for a port, with the generation being established (R1,
R12). -/
def sendCensus (p : PortId) (generation kind : Byte) (payload : List Byte) (s : State) : State :=
  offerFrame p (buildFrameIn s generation kind 0#8 0#8 payload) s

/-- The head starts a census (R47). -/
def startCensus (s : State) : State :=
  let claimed := s.claimedEnd
  let tail := claimed.opposite.port
  let s := s.modConsist fun c =>
    { c with
      retryTimer := none
      rollTimer := if c.phase = .counting then none else c.rollTimer
      phase := if c.phase = .counting then .none else c.phase }
  let g := censusGenerationFor s tail
  let s := s.modConsist fun c => { c with lastGeneration := g, censusGeneration := g }
  let own := buildEntry s (headOrientation claimed) (some claimed)
  if (s.port tail).carries then
    let s := sendCensus tail g Config.kindCount (entriesBytes [own]) s
    let s := s.modConsist fun c =>
      { c with phase := .counting, rollTimer := some Config.rollTimerMs }
    if s.consist.state = .unknown then s else setConsistState .pending s
  else commitAsHead g [own] s

/-! ## CHANGE in full (R42, R43, R46) -/

/-- A CHANGE acts on the Consist Unit, and starts a census at a head (R43, R46, R55). -/
def applyChange (s : State) : State :=
  let s := changeEffect s
  if s.actsAsHead then startCensus (s.modConsist fun c => { c with conflictHold := false }) else s

/-- The Consist Unit originates a CHANGE and applies it to itself (R42), the frame first (assumption 67). -/
def originateChange (s : State) : State := applyChange (announceChange s)

/-! ## The claim status (R40, R41, R192) -/

/-- The claim status the claims and link states give (R40). -/
def claimStatusNow (s : State) : ClaimStatus :=
  match s.consist.claim1, s.consist.claim2 with
  | false, false => .none
  | true, true => .conflict
  | true, false => if s.lp1.link = .down then .valid else .blocked
  | false, true => if s.lp2.link = .down then .valid else .blocked

/-- On entry to VALID the waiting notices are placed in the cab outbound queue, oldest first (R192). DESIGN
CHOICE: their raising position is the node's own of that moment while it is SETTLED, else 0 (assumption 54). -/
def flushNotices (s : State) : State :=
  let waiting := s.req.notices
  let position := s.sourcePosition
  waiting.foldl (fun s n => offerCabNotice position (noticeBytes n) s)
    (s.modReq fun r => { r with notices := [] })

/-- The notice of an entry to CONFLICT or BLOCKED (R40). -/
def claimNotice (status : ClaimStatus) (s : State) : State :=
  match status with
  | .conflict => enqueueNotice (s.noticeOf .leadConflict 0#8 0) s
  | .blocked => enqueueNotice (s.noticeOf .leadNotAtEnd 0#8 (endCode s.claimedEnd).toNat) s
  | .none | .valid => s

/-- The claim status is re-evaluated (R40, R41). DESIGN CHOICE: on entry to VALID the waiting notices are placed
in the cab outbound queue (R192) before the CHANGE of R41 is originated (assumption 65). -/
def evalClaims (s : State) : State :=
  let old := s.consist.status
  let status := claimStatusNow s
  if status = old then s
  else
    let s := s.modConsist fun c => { c with status := status }
    if status = .valid then originateChange (flushNotices s)
    else
      let s := claimNotice status s
      if old = .valid then loseValidity s else s

/-! ## COUNT (R49 to R51) -/

/-- A census frame is dropped (R64). -/
def censusDrop (s : State) : State :=
  s.modConsist fun c => { c with censusDrop := satInc c.censusDrop }

/-- No identity stands twice in a list of entries. -/
def identitiesDistinct (es : List ConsistEntry) : Bool :=
  decide ((es.map ConsistEntry.identity).Nodup)

/-- A list a census could have produced, for a node that is not in it (R49). -/
def countListOk (s : State) (es : List ConsistEntry) : Bool :=
  decide (1 ≤ es.length ∧ es.length ≤ Config.consistSize)
    && (match es with
      | first :: _ => first.isHead
      | [] => false)
    && identitiesDistinct es
    && es.all fun e => decide (e.identity ≠ s.identity)

/-- A COUNT that passes R49 and R50 draws the node into the census (R51). -/
def joinCensus (p : PortId) (generation : Byte) (es : List ConsistEntry) (s : State) : State :=
  let list := es ++ [buildEntry s (arrivalOrientation p) none]
  let s := s.modConsist fun c =>
    { c with
      pendingMap := none
      holdTimer := none
      censusGeneration := generation
      arrival := some p
      censusPosition := list.length }
  let s := if s.consist.state = .unknown then s else setConsistState .pending s
  if (s.port p.other).carries then
    let s := s.modConsist fun c =>
      { c with phase := .awaitingRoll, holdTimer := some Config.censusHoldMs }
    sendCensus p.other generation Config.kindCount (entriesBytes list) s
  else
    let s := s.modConsist fun c =>
      { c with phase := .holding, pendingMap := some list, holdTimer := some Config.censusHoldMs }
    sendCensus p generation Config.kindRoll (rollPayload .ok list) s

/-- A COUNT delivered to the Consist Unit (R49, R50, R51, R198). -/
def takeCount (p : PortId) (f : Frame) (s : State) : State :=
  match readCount f.payload with
  | none => censusDrop s
  | some es =>
    let g := f.header.generation
    if !countListOk s es then censusDrop s
    else if s.consist.status = .valid ∨ s.consist.status = .conflict then
      sendCensus p g Config.kindRoll (rollPayload .leadConflict []) s
    else if es.length = Config.consistSize then
      sendCensus p g Config.kindRoll (rollPayload .tooLong []) s
    else joinCensus p g es s

/-! ## ROLL (R52 to R54) -/

/-- Census failure reasons (section 12.5). -/
def failureCode : RollStatus → Nat
  | .ok => 1
  | .leadConflict => 2
  | .tooLong => 3

/-- An attempt of the head fails; the status `ok` stands for TIMEOUT (R54). -/
def failCensus (why : RollStatus) (s : State) : State :=
  let s := leaveCensus (s.modConsist fun c => { c with phase := .none })
  let s := raise .censusFailed 0#8 (failureCode why)
    (s.modConsist fun c => { c with attempts := satInc8 c.attempts })
  s.modConsist fun c =>
    { c with
      conflictHold := c.conflictHold || decide (why = .leadConflict)
      retryTimer := some Config.retryMs }

/-- The port at the end opposite the claimed one: the tail-side port of the head's own census (R47). -/
def State.censusTail (s : State) : PortId := s.claimedEnd.opposite.port

/-- A ROLL at a node acting as head (R53, R54). DESIGN CHOICE: a failure status acts whatever list stands beside
it (assumption 64). -/
def headRoll (p : PortId) (g : Byte) (st : RollStatus) (es : List ConsistEntry) (s : State) : State :=
  if s.consist.phase = .counting ∧ g = s.consist.censusGeneration ∧ p = s.censusTail then
    match st with
    | .ok =>
      if decide (1 ≤ es.length ∧ es.length ≤ Config.consistSize) && identitiesDistinct es
          && decide (positionIn s es = 1) then
        commitAsHead g es (sendCensus p g Config.kindConfirm [byteOf es.length] s)
      else censusDrop s
    | why => failCensus why s
  else censusDrop s

/-- A ROLL at a node that does not act as head (R52). DESIGN CHOICE: a failure status is sent on with an empty
list, whatever list came with it (assumption 64). -/
def passRoll (p : PortId) (g : Byte) (st : RollStatus) (es : List ConsistEntry) (s : State) : State :=
  match s.consist.arrival with
  | none => censusDrop s
  | some arrival =>
    if s.consist.phase = .awaitingRoll ∧ g = s.consist.censusGeneration ∧ p = arrival.other then
      match st with
      | .ok =>
        if decide (1 ≤ es.length ∧ es.length ≤ Config.consistSize) && identitiesDistinct es
            && decide (positionIn s es = s.consist.censusPosition) then
          let s := s.modConsist fun c =>
            { c with
              pendingMap := some es
              phase := .holding
              holdTimer := some Config.censusHoldMs }
          sendCensus arrival g Config.kindRoll (rollPayload .ok es) s
        else censusDrop s
      | why =>
        let s := sendCensus arrival g Config.kindRoll (rollPayload why []) s
        leaveCensus (s.modConsist fun c => { c with phase := .none })
    else censusDrop s

/-- A ROLL delivered to the Consist Unit (R52, R53, R54, R198). -/
def takeRoll (p : PortId) (f : Frame) (s : State) : State :=
  match readRoll f.payload with
  | none => censusDrop s
  | some (st, es) =>
    if s.actsAsHead then headRoll p f.header.generation st es s
    else passRoll p f.header.generation st es s

/-! ## CONFIRM (R57, R58) -/

/-- A CONFIRM commits the census and goes on (R57). -/
def commitConfirmed (g : Byte) (n : Nat) (m : List ConsistEntry) (s : State) : State :=
  let s := (commit g m s).modConsist fun c =>
    { c with pendingMap := none, lastGeneration := g, holdTimer := none }
  if s.position < n then sendCensus s.tailPort g Config.kindConfirm [byteOf n] s else s

/-- A CONFIRM that finds no census, at a node neither head nor SETTLED in its generation (R58). -/
def unmatchedConfirm (s : State) : State :=
  let s := enterUnknown (censusDrop s)
  originateChange
    (s.modConsist fun c => { c with pendingMap := none, phase := .none, holdTimer := none })

/-- Whether a CONFIRM meets the conditions of R57, with the pending map it commits. -/
def confirmedMap (s : State) (g : Byte) (n : Nat) : Option (List ConsistEntry) :=
  if !s.actsAsHead ∧ s.consist.phase = .holding ∧ g = s.consist.censusGeneration then
    s.consist.pendingMap.filter fun m => decide (m.length = n)
  else none

/-- A CONFIRM delivered to the Consist Unit (R57, R58, R198). -/
def takeConfirm (f : Frame) (s : State) : State :=
  match readConfirm f.payload with
  | none => censusDrop s
  | some n =>
    let g := f.header.generation
    match confirmedMap s g n with
    | some m => commitConfirmed g n m s
    | none => if s.actsAsHead ∨ s.settledIn g then censusDrop s else unmatchedConfirm s

end Sys2Proof.Machine
end

