-- ==== Sys2Proof/Machine/Links.lean ====
section
/-! DEFINITION. The line ports: entering and leaving link states, port events, HELLO, the error window, the
link test and port restart (chapter 2). -/

namespace Sys2Proof.Machine

open Sys2Proof

/-! ## HELLO (R24) -/

/-- The port places a HELLO in its own urgent lane (R12, R24). -/
def sendHello (p : PortId) (v : HelloVariant) (mark : Mark) (s : State) : State :=
  let payload := helloPayload s.identity p.cabEnd s.consist.generation v
  offer p { frame := buildFrame s Config.kindHello 0#8 0#8 payload, mark := mark } s

/-! ## Entering SETTLING and DOWN (R17, R22, R23, R25) -/

/-- The settle progress of a port that is not settling (R21). -/
def Settle.cleared : Settle where
  candidate := none
  count := 0
  time := none

/-- The port takes lock and enters SETTLING (R23, R24, R25); the claim status is re-evaluated (R40). DESIGN
CHOICE: the HELLO of R24 is built before that, so its source position is the one from before (assumption 60). -/
def enterSettling (p : PortId) (s : State) : State :=
  let s := s.modPort p fun q =>
    { q with
      link := .settling
      settle := { candidate := none, count := 0, time := some Config.settleTimeMs }
      helloTimer := some Config.helloSettlingMs }
  evalClaims (sendHello p .plain .plain s)

/-- A port in DOWN takes lock where the signal is present and neither the drop interval nor the contact
holdoff runs (R23). -/
def tryLock (p : PortId) (s : State) : State :=
  let q := s.port p
  if q.link = .down ∧ q.signal = true ∧ q.dropInterval = none ∧ q.contactHoldoff = none then
    enterSettling p s
  else s

/-- The result of a test that never ran (R32). -/
def TestResult.unrun (frames : Nat) (outcome : TestOutcome) : TestResult where
  frames := frames
  sent := 0
  received := 0
  errored := 0
  missing := 0
  outcome := outcome

/-- The offer of a port that enters DOWN ends: a pending one as ABORTED (R32), an accepted one without a
result (R33). -/
def Port.endOffer (q : Port) : Port :=
  match q.offer with
  | .pending n _ =>
    { q with offer := .none, result := some (TestResult.unrun n .aborted), testDue := false }
  | _ => { q with offer := .none, testDue := false }

/-- Both lanes are emptied and a frame being sent is lost; every one is counted (R17). A RESET-NODE reply lost
in transmission counts as lost, like one emptied from its lane (DEDUCED, assumption 48). -/
def loseEgress (p : PortId) (s : State) : State :=
  let q := s.port p
  let lost := q.urgent ++ q.normal ++ q.transmitter.toList
  dropFrames p lost (s.modPort p fun q => { q with urgent := [], normal := [], transmitter := none })

/-- Whether a port sends its own line signal (R22): continuously while the node has power, withheld during the
drop interval and during the contact holdoff. -/
def State.sendsSignal (s : State) (p : PortId) : Bool :=
  s.powered && (s.port p).dropInterval.isNone && (s.port p).contactHoldoff.isNone

/-- The supervision state of a port as it enters DOWN (R17, R22, R24, R30). With the contact holdoff the
drop interval ends when the holdoff ends. -/
def Port.fallen (holdoff : Bool) (q : Port) : Port :=
  { q.endOffer with
    link := .down
    dropInterval := some (if holdoff then Config.contactHoldoffMs else Config.dropIntervalMs)
    contactHoldoff := if holdoff then some Config.contactHoldoffMs else q.contactHoldoff
    settle := Settle.cleared
    neighbour := none
    silence := none
    helloTimer := none
    glitchTimer := none
    run := none }

/-- The port enters DOWN: its link state, timers, offer and lanes (R17, R22). -/
def enterDown (p : PortId) (holdoff : Bool) (s : State) : State :=
  loseEgress p (s.modPort p (Port.fallen holdoff))

/-! ## Port events (R26, R30, R42) -/

/-- Whether the claim status is about to enter or leave VALID (R41). -/
def validityChanges (s : State) : Bool :=
  decide (claimStatusNow s = .valid) != decide (s.consist.status = .valid)

/-- The Consist Unit is told of a port event: a CHANGE, and the claim status by the new link state. Where
the lead validity changes with it, which CHANGE comes first is free (R40, R41, R42; assumption 8). -/
def tellPortEvent (s : State) : State :=
  if validityChanges s then
    let first := Config.portChangeFirst s.freeCount
    let s := s.drawFree
    if first then evalClaims (originateChange s) else originateChange (evalClaims s)
  else originateChange (evalClaims s)

/-- The first part of a port down event into DOWN: the reason, the neighbour record, the lanes (R30). -/
def portFalls (p : PortId) (reason : DownReason) (holdoff : Bool) (s : State) : State :=
  forwardNotices (enterDown p holdoff (s.modPort p fun q => { q with lastDown := reason }))

/-- The second part of a port down event: the Consist Unit is told and PORT-DOWN raised (R30). -/
def reportPortDown (p : PortId) (reason : DownReason) (s : State) : State :=
  raise .portDown (portNumber p) (downCode reason).toNat (tellPortEvent s)

/-- A port down event into DOWN (R30). -/
def portDown (p : PortId) (reason : DownReason) (holdoff : Bool) (s : State) : State :=
  reportPortDown p reason (portFalls p reason holdoff s)

/-- The port reaches UP (R26, R19). -/
def portUp (p : PortId) (who : Neighbour) (s : State) : State :=
  let s := s.modPort p fun q =>
    { q with
      link := .up
      settle := Settle.cleared
      neighbour := some who
      received := 0
      errored := 0
      windowFrames := 0
      windowErrors := 0
      silence := some Config.silenceMs
      helloTimer := some Config.helloUpMs }
  raise .portUp (portNumber p) (endCode who.farEnd).toNat (tellPortEvent s)

/-- The port reaches UP once the settle time is reached and the count is 3 (R25). -/
def checkSettled (p : PortId) (s : State) : State :=
  let q := s.port p
  match q.settle.candidate with
  | some who =>
    if q.link = .settling ∧ q.settle.time = none ∧ q.settle.count = 3 then portUp p who s else s
  | none => s

/-! ## Received HELLOs (R24, R25, R27, R32, R33) -/

/-- The conditions of a valid HELLO on its header and identity (R24). -/
def helloHeaderOk (s : State) (h : Header) (who : Neighbour) : Bool :=
  decide (h.destination = 0#8) && h.flags.getLsbD 0 && decide (who.identity ≠ s.identity)

/-- A valid HELLO acts on the settle progress (R25); the candidate keeps the generation of the HELLO that
completed the count (R26). -/
def Settle.hear (who : Neighbour) (t : Settle) : Settle :=
  match t.candidate with
  | some c =>
    if c.identity = who.identity ∧ c.farEnd = who.farEnd then
      if t.count < 3 then { t with candidate := some who, count := t.count + 1 } else t
    else { t with candidate := some who, count := 1 }
  | none => { t with candidate := some who, count := 1 }

/-- A valid HELLO in SETTLING (R25). -/
def settleHello (p : PortId) (who : Neighbour) (s : State) : State :=
  checkSettled p (s.modPort p fun q => { q with settle := q.settle.hear who })

/-- Whether the link test is allowed at this node: not SETTLED, or WORKSHOP asserted (R32, R33). -/
def testAllowed (s : State) : Bool := !s.isSettled || s.pins.workshop

/-- A TEST-OFFER is accepted or refused (R33). -/
def takeOffer (p : PortId) (frames : Nat) (s : State) : State :=
  if testAllowed s ∧ (s.port p).offer = .none then
    sendHello p .testAccept .testAccept
      (s.modPort p fun q => { q with result := none, offer := .accepted frames })
  else sendHello p .testRefused .plain s

/-- A pending offer ends REFUSED (R32); one that a TEST-ACCEPT has ended, its timer stopped, is pending no
longer (assumption 18). -/
def refuseOffer (p : PortId) (s : State) : State :=
  match (s.port p).offer with
  | .pending n (some _) =>
    s.modPort p fun q => { q with offer := .none, result := some (TestResult.unrun n .refused) }
  | _ => s

/-- A TEST-ACCEPT for a pending offer makes TEST due (R32, R34; assumption 18). -/
def takeAccept (p : PortId) (s : State) : State :=
  match (s.port p).offer with
  | .pending n (some _) => s.modPort p fun q => { q with offer := .pending n none, testDue := true }
  | _ => s

/-- What the variant of a HELLO does once R27 has taken it (R32, R33). -/
def helloVariant (p : PortId) (v : HelloVariant) (s : State) : State :=
  match v with
  | .plain => s
  | .testOffer n => takeOffer p n s
  | .testAccept => takeAccept p s
  | .testRefused => refuseOffer p s

/-- A valid HELLO in UP (R27). -/
def supervise (p : PortId) (who : Neighbour) (v : HelloVariant) (s : State) : State :=
  match (s.port p).neighbour with
  | some n =>
    if n.identity = who.identity ∧ n.farEnd = who.farEnd then
      helloVariant p v
        (s.modPort p fun q => { q with neighbour := some who, silence := some Config.silenceMs })
    else portDown p .neighbourChanged false s
  | none => portDown p .neighbourChanged false s

/-! ## The error window (R3, R19, R29) -/

/-- A frame counted in frames received advances the window, which starts afresh after 64 (R29). -/
def Port.countGood (q : Port) : Port :=
  let frames := q.windowFrames + 1
  if 64 ≤ frames then
    { q with received := satInc q.received, windowFrames := 0, windowErrors := 0 }
  else { q with received := satInc q.received, windowFrames := frames }

/-- An errored frame in UP: both counters and the window, which takes the port DOWN at 8 (R19, R29). -/
def countErrored (p : PortId) (s : State) : State :=
  let s := s.modPort p fun q =>
    { q with
      received := satInc q.received
      errored := satInc q.errored
      windowFrames := q.windowFrames + 1
      windowErrors := q.windowErrors + 1 }
  let q := s.port p
  if 8 ≤ q.windowErrors then portDown p .contact true s
  else if 64 ≤ q.windowFrames then
    s.modPort p fun q => { q with windowFrames := 0, windowErrors := 0 }
  else s

/-! ## The link test (R34 to R36) -/

/-- The next own TEST frame goes to the transmitter, outside the lanes, while frames remain (R35). -/
def startTestFrame (p : PortId) (r : TestRun) (s : State) : State :=
  let e : LaneEntry :=
    { frame := buildFrame s Config.kindTest 0#8 0#8 (testPayload r.sent), mark := .plain }
  s.modPort p fun q => { q with transmitter := if r.sent < r.frames then some e else none }

/-- The port enters TEST, a port down event with reason TEST-START (R30, R34). DESIGN CHOICE: the first own
TEST frame is built before the Consist Unit is told (assumption 58). -/
def enterTest (p : PortId) (frames : Nat) (s : State) : State :=
  let r : TestRun :=
    { frames := frames, sent := 0, received := 0, errored := 0, last := none, quiet := none }
  let s := s.modPort p fun q =>
    { q with
      link := .test
      lastDown := .testStart
      neighbour := none
      silence := none
      helloTimer := none
      offer := .none
      testDue := false
      run := some r }
  reportPortDown p .testStart (startTestFrame p r (forwardNotices (loseEgress p s)))

/-- The frame count of a port's offer. -/
def Offer.frames : Offer → Option Nat
  | .none => Option.none
  | .pending n _ => some n
  | .accepted n => some n

/-- The result of a test that ran (R36). -/
def TestRun.result (r : TestRun) (outcome : TestOutcome) : TestResult where
  frames := r.frames
  sent := r.sent
  received := r.received
  errored := r.errored
  missing := r.frames - r.received
  outcome := outcome

/-- The first part of leaving TEST: the result record and DOWN, with its reason (R36). -/
def testFalls (p : PortId) (r : TestRun) (outcome : TestOutcome) (reason : DownReason) (s : State) :
    State :=
  (enterDown p false s).modPort p fun q =>
    { q with result := some (r.result outcome), lastDown := reason }

/-- The port leaves TEST (R36, R40). -/
def finishTest (p : PortId) (r : TestRun) (outcome : TestOutcome) (s : State) : State :=
  evalClaims (testFalls p r outcome .testEnd s)

/-- Own frames all sent and the last sequence counted: the test finishes at once (R36). -/
def TestRun.complete (r : TestRun) : Bool :=
  decide (r.sent = r.frames) && decide (r.last = some (r.frames - 1)) && decide (0 < r.frames)

/-- A running test takes a new value, and finishes where it is complete (R36). -/
def continueTest (p : PortId) (r : TestRun) (s : State) : State :=
  let s := s.modPort p fun q => { q with run := some r }
  if r.complete then finishTest p r .complete s else s

/-- A TEST frame that passes R3 counts as received or errored (R35). -/
def TestRun.count (payload : List Byte) (r : TestRun) : TestRun :=
  match readTest payload with
  | some sequence =>
    let above := match r.last with
      | none => true
      | some l => decide (l < sequence)
    if decide (sequence < r.frames) && above then
      { r with received := r.received + 1, last := some sequence }
    else { r with errored := r.errored + 1 }
  | none => { r with errored := r.errored + 1 }

/-- A TEST frame arrives in TEST: the quiet time, if it runs, starts afresh (R35, R36). -/
def testArrives (p : PortId) (payload : List Byte) (s : State) : State :=
  match (s.port p).run with
  | none => s
  | some r =>
    let r := r.count payload
    continueTest p { r with quiet := r.quiet.map fun _ => Config.testQuietMs } s

/-- An own TEST frame has been sent and the next one starts; after the last one the quiet time runs (R35,
R36). -/
def testSent (p : PortId) (s : State) : State :=
  match (s.port p).run with
  | none => s
  | some r =>
    if r.sent < r.frames then
      let sent := r.sent + 1
      let r := { r with sent := sent, quiet := if sent = r.frames then some Config.testQuietMs else none }
      continueTest p r (startTestFrame p r s)
    else s

/-- Lock is lost in TEST: a finish where every own frame is sent, else an abort (R36). -/
def testLoses (p : PortId) (s : State) : State :=
  match (s.port p).run with
  | none => s
  | some r => finishTest p r (if r.sent = r.frames then .complete else .aborted) s

/-! ## Lock (R28) -/

/-- Lock is lost (R17, R25, R28, R36). A RESET-NODE reply lost in transmission at the glitch counts as lost
(DEDUCED, assumption 48). -/
def loseLock (p : PortId) (s : State) : State :=
  let s := s.modPort p fun q => { q with signal := false }
  match (s.port p).link with
  | .up =>
    let sent := (s.port p).transmitter.toList
    dropFrames p sent
      (s.modPort p fun q =>
        { q with link := .glitch, glitchTimer := some Config.glitchMs, transmitter := none })
  | .settling => evalClaims (enterDown p false s)
  | .test => testLoses p s
  | .down | .glitch => s

/-- Lock is gained: taken in DOWN by R23, and GLITCH returns to UP (R23, R28). -/
def gainLock (p : PortId) (s : State) : State :=
  let s := s.modPort p fun q => { q with signal := true }
  match (s.port p).link with
  | .down => tryLock p s
  | .glitch => pump p (s.modPort p fun q => { q with link := .up, glitchTimer := none })
  | .settling | .up | .test => s

/-! ## Port restart (R31) -/

/-- PORT-RESTART at a port, with the reply `reply` (R31). Where the port is forced DOWN, whether the reply
reaches the Relay Unit before or after the CHANGE is free (assumption 9). -/
def restartPort (p : PortId) (reply : State → State) (s : State) : State :=
  let tell (fallen : State) (consequences : State → State) : State :=
    let first := Config.replyBeforeChange s.freeCount
    let fallen := fallen.drawFree
    if first then consequences (reply fallen) else reply (consequences fallen)
  match (s.port p).link with
  | .down => reply s
  | .settling =>
    tell (enterDown p false (s.modPort p fun q => { q with lastDown := .restart })) evalClaims
  | .up | .glitch => tell (portFalls p .restart false s) (reportPortDown p .restart)
  | .test =>
    match (s.port p).run with
    | some r => tell (testFalls p r .aborted .restart s) evalClaims
    | none => reply s

end Sys2Proof.Machine
end

