-- ==== Sys2Proof/Machine/StoreOps.lean ====
section
/-! DEFINITION. The Record Store: loading at a reset, taking up a new record in every block, storing and
protection (R100, R137, R170, R175, R180 to R185). -/

namespace Sys2Proof.Machine

open Sys2Proof

/-! ## Images -/

/-- Exactly 512 bytes of a list, with zeros where it is short. -/
def toImage (bs : List Byte) : List Byte := (List.range Config.imageSize).map fun i => imageByte bs i

/-- A check reason by a number (assumption 12). -/
def reasonOf (n : Nat) : CheckReason :=
  match n % 5 with
  | 0 => .signature
  | 1 => .version
  | 2 => .length
  | 3 => .range
  | _ => .sum

/-- A record left partly written by the `n`-th power failure: free bytes that fail the check. Bytes that would
pass are held with another check word, so that their sum no longer agrees (R183; assumption 12). -/
def tornImage (n : Nat) : List Byte :=
  let img := (List.range Config.imageSize).map (Config.tornByte n)
  match checkImage img, readLayout img with
  | none, some l => img.modify (l.checkOffset + 1) (· ^^^ 1#8)
  | _, _ => img

/-- The verdict on the stored record as a reset loads it: by R174; one left by a failed read-back is invalid
whatever its bytes are (R181; assumption 12). -/
def loadVerdict (mark : StoreMark) (img : List Byte) (free : Nat) : Option CheckReason :=
  match mark with
  | .whole => checkImage img
  | .failedReadBack => some ((checkImage img).getD (reasonOf (Config.failedReason free)))

/-- The stored setting as a reset takes it; one that cannot be read is KEYED (R184). -/
def settingOf (stored : Option Protection) : Protection := stored.getD .keyed

/-- The notice RECORD-INVALID of a load or of a failed read-back (R175, R181). -/
def raiseRecordInvalid (value : Nat) (s : State) : State := raise .recordInvalid 0#8 value s

/-- The stored record is read into the live image and checked (R175). The protection mode is the caller's
(R184). -/
def loadRecord (s : State) : State :=
  let img := s.store.stored
  let verdict := loadVerdict s.store.storedMark img s.freeCount
  let s := if s.store.storedMark = .whole then s else s.drawFree
  let s := s.modStore fun r =>
    { r with
      live := img
      content := contentOf img verdict
      validity := verdict
      edit := img
      state := .idle
      awaiting := none
      writeTimer := none }
  match verdict with
  | none => s
  | some why => raiseRecordInvalid (checkCode (some why)).toNat s

/-! ## The Coach Bus Controller and a new record (R92, R100) -/

/-- One status record for each destination of a poll list, with no value and age 255 (R92). -/
def freshRecords (polls : List PollEntry) : List StatusRecord :=
  (polls.map PollEntry.dest).dedup.map fun d => { dest := d, value := none, age := 255 }

/-- The round in progress ends without an overrun and the new poll list waits for the next round start
(R100). DESIGN CHOICE: the persist timeout of a PERSIST poll read in flight stops here, so an attempt that fails
later counts no persist timeout (assumption 61). -/
def endRoundForRecord (s : State) : State :=
  let polls := s.store.content.polls
  s.modBus fun b =>
    let b := if b.round = .inProgress then { b with round := .finished } else b
    let b := match b.flight with
      | some (.poll e n _) => { b with flight := some (.poll e n .discarded) }
      | _ => b
    { b with
      pollRetry := none
      pollPersist := .unstarted
      pointer := none
      records := freshRecords polls }

/-- Entries that are not in flight are removed as CANCELLED (R100, R133, R166). -/
def keepInFlight (q : List QueueEntry) : List QueueEntry :=
  q.filter fun e => decide (e.phase = .inFlight)

/-- Every frame of the cab outbound queue is dropped and counted (R100). A RESET-NODE reply among them counts
as lost (R196; DEDUCED, assumption 48). -/
def emptyOutbound (s : State) : State :=
  let waiting := s.bus.outbound
  waiting.foldl
    (fun s f => cabFrameGone f (s.modBus fun b => { b with cabDrop := satInc b.cabDrop }))
    (s.modBus fun b => { b with outbound := [] })

/-- Cab service is decided again (R100). -/
def redecideCab (s : State) : State :=
  if s.cabServed then s
  else (emptyOutbound (endCabEntry s)).modBus fun b =>
    { b with silence := 0, cabState := .answering }

/-- The Coach Bus Controller takes up a new record (R100). -/
def busNewRecord (s : State) : State :=
  let s := endRoundForRecord s
  redecideCab (s.modBus fun b =>
    { b with doorQueue := keepInFlight b.doorQueue, heatQueue := keepInFlight b.heatQueue })

/-! ## Taking up a new record (R182) -/

/-- The Consist Unit takes up a new record: claims at ends no longer listed lapse, and a CHANGE is
originated (R39, R42). -/
def consistNewRecord (s : State) : State :=
  let c := s.store.content
  let s := setClaims (s.consist.claim1 && c.cabEnd1) (s.consist.claim2 && c.cabEnd2) s
  originateChange (evalClaims s)

/-- The awaiting image becomes live and every block takes it up (R182). -/
def takeUpRecord (s : State) : State :=
  match s.store.awaiting with
  | none => s
  | some img =>
    let s := s.modStore fun r =>
      { r with
        live := img
        content := contentOf img none
        validity := none
        awaiting := none
        state := .idle }
    let s := rebuildGroups (rebuildLeaves (busNewRecord s))
    raise .recordStored 0#8 (checkWordOf img).toNat (consistNewRecord s)

/-- In AWAITING-DOORS the record becomes live once no door is open or moving (R182). -/
def recordLiveIfReady (s : State) : State :=
  if s.store.state = .awaitingDoors ∧ doorsAtRest s then takeUpRecord s else s

/-! ## Storing (R180, R181, R184, R185) -/

/-- The Record Store is busy (R173). -/
def storeBusy (s : State) : Bool := decide (s.store.state ≠ .idle)

/-- Whether the protection mode allows a store (R184). -/
def storeAllowed (s : State) : Bool :=
  match s.store.mode with
  | .unlocked => true
  | .keyed => s.pins.workshop
  | .held | .fixed => false

/-- The write of a record ends and is read back (R181). -/
def writeEnds (readBack : List Byte) (s : State) : State :=
  let img := toImage readBack
  let good := decide (img = s.store.edit) && decide (checkImage img = none)
  let s := s.modStore fun r =>
    { r with
      stored := img
      storedMark := if good then .whole else .failedReadBack
      writeTimer := none }
  if good then
    recordLiveIfReady
      (s.modStore fun r => { r with awaiting := some r.edit, state := .awaitingDoors })
  else raiseRecordInvalid verifyCode (s.modStore fun r => { r with state := .idle })

/-- SET-PROTECTION as R185 decides it: a refusal, or the mode the request sets. -/
def protectionVerdict (s : State) (wanted : Protection) : Option Status :=
  let mode := s.store.mode
  let key := s.pins.workshop
  if storeBusy s then some .busy
  else if mode = .fixed then some .guarded
  else if mode = .held ∧ (wanted = .unlocked ∨ wanted = .keyed) then some .guarded
  else if mode = .held ∧ wanted = .held then none
  else if (wanted = .keyed ∨ wanted = .fixed ∨ (mode = .keyed ∧ wanted = .unlocked)) ∧ !key then
    some .guarded
  else none

/-- The mode takes a new value; OPEN, KEYED and FIXED are also written to the stored setting (R185). -/
def setProtectionMode (wanted : Protection) (s : State) : State :=
  if wanted = .held then s.modStore fun r => { r with mode := .held }
  else s.modStore fun r =>
    { r with mode := wanted, state := .setting, writeTimer := some Config.settingWriteMs }

end Sys2Proof.Machine
end

