-- ==== Sys2Proof/Machine/Operands.lean ====
section
/-! DEFINITION. The operands of requests: a request kind and its fields as bytes, read as the command of
the table they stand for (R187, R197, section 12.5), and the fields of REMOTE-STATION (R111). -/

namespace Sys2Proof.Machine

open Sys2Proof

/-- What the bytes of a request stand for (R187). -/
inductive ReadRequest
  | command (i : Instr)
  | unknownKind
  | malformed
  deriving DecidableEq, Repr

/-- A request without fields. -/
def noFields (i : Instr) (fields : List Byte) : ReadRequest :=
  if fields = [] then .command i else .malformed

/-- A request with one field of one byte. -/
def oneByte (make : Byte → Instr) (fields : List Byte) : ReadRequest :=
  match fields with
  | [b] => .command (make b)
  | _ => .malformed

/-- A two-byte field. -/
def word (hi lo : Byte) : Word16 := hi ++ lo

/-- A two-byte field that may be absent, behind its presence byte (R197). A presence byte other than 0 and
1 makes the request malformed (assumption 15). -/
def optionalWord (fields : List Byte) : Option (Option Word16) :=
  match fields with
  | [p] => if p = 0#8 then some none else none
  | [p, hi, lo] => if p = 1#8 then some (some (word hi lo)) else none
  | _ => none

/-- The three state bits of a SET-TRAIN-STATE (R75, R197). DESIGN CHOICE: bits 3 to 7 are ignored
(assumption 49). -/
def trainBitsOf (b : Byte) : TrainBits where
  standstill := b.getLsbD 0
  enableLeft := b.getLsbD 1
  enableRight := b.getLsbD 2

/-- LINK-TEST: a port and a frame count (R32). -/
def readLinkTest (src : ReqSource) (fields : List Byte) : ReadRequest :=
  match fields with
  | [p, hi, lo] => .command (.linkTest src p (word hi lo))
  | _ => .malformed

/-- LEAD: an end and an action, SET 1 or CLEAR 2; another action is refused with RANGE (R38). -/
def readLead (src : ReqSource) (fields : List Byte) : ReadRequest :=
  match fields with
  | [e, action] =>
    if action = 1#8 then .command (.leadSet src e)
    else if action = 2#8 then .command (.leadClear src e)
    else .malformed
  | _ => .malformed

/-- SET-TRAIN-STATE: the state bits and a period that may be absent (R75). -/
def readTrainState (src : ReqSource) (fields : List Byte) : ReadRequest :=
  match fields with
  | bits :: rest =>
    match optionalWord rest with
    | some period => .command (.setTrainState src (trainBitsOf bits) period)
    | none => .malformed
  | [] => .malformed

/-- ALIAS-WRITE: a number, a vehicle by identity (form 1) or position (form 2), a station (R107). -/
def readAliasWrite (src : ReqSource) (fields : List Byte) : ReadRequest :=
  match fields with
  | [n, form, p, station] =>
    if form = 2#8 then .command (.aliasWrite src n (.position p) station) else .malformed
  | [n, form, a, b, c, d, e, f, station] =>
    if form = 1#8 then .command (.aliasWrite src n (.identity (idOf a b c d e f)) station)
    else .malformed
  | _ => .malformed

/-- REMOTE-STATION: op (READ 1, WRITE 2, ROSTER 3), mode (ONCE 1, ACCEPT 2, PERSIST 3, WALK 4), station,
last, item, data with its count, persist timeout (R111, R197; assumption 14). Refused with RANGE are
an op other than the three (step 1) and a ROSTER of mode WALK (step 3); a ROSTER of any other mode is the command
REMOTE_STATION_ROSTER, its other fields ignored. DESIGN CHOICE: step 7 is not read to refuse a ROSTER whose mode
byte is PERSIST, so its persist timeout is ignored with the rest (assumption 68). -/
def readRemote (src : ReqSource) (fields : List Byte) : ReadRequest :=
  match fields with
  | op :: mode :: station :: last :: item :: count :: rest =>
    let data := rest.take count.toNat
    match rest.drop count.toNat with
    | [hi, lo] =>
      if data.length ≠ count.toNat then .malformed
      else if op = 1#8 then
        if mode = 4#8 then .command (.remoteStationWalk src station last)
        else .command (.remoteStationRead src mode station item (word hi lo))
      else if op = 2#8 then
        .command (.remoteStationWrite src mode station item data (word hi lo))
      else if op = 3#8 then
        if mode = 4#8 then .malformed else .command (.remoteStationRoster src)
      else .malformed
    | _ => .malformed
  | _ => .malformed

/-- DOOR-RELEASE: side, first, last, outside flag (R119). DESIGN CHOICE: bits 1 to 7 of the byte of the outside
flag are ignored (assumption 49). -/
def readDoorRelease (src : ReqSource) (fields : List Byte) : ReadRequest :=
  match fields with
  | [side, first, last, outside] => .command (.doorRelease src side first last (outside.getLsbD 0))
  | _ => .malformed

/-- SET-ALLOWANCE: an allowance and a stagger step that may be absent (R164). -/
def readAllowance (src : ReqSource) (fields : List Byte) : ReadRequest :=
  match fields with
  | hi :: lo :: rest =>
    match optionalWord rest with
    | some stagger => .command (.setAllowance src (word hi lo) stagger)
    | none => .malformed
  | _ => .malformed

/-- RECORD-EDIT: an offset and data with its count (R177). -/
def readEdit (src : ReqSource) (fields : List Byte) : ReadRequest :=
  match fields with
  | hi :: lo :: count :: data =>
    if data.length = count.toNat then .command (.recordEdit src (word hi lo) data) else .malformed
  | _ => .malformed

/-- RECORD-READ: an image, an offset and a length (R179). -/
def readRecordRead (src : ReqSource) (fields : List Byte) : ReadRequest :=
  match fields with
  | [image, hi, lo, len] => .command (.recordRead src image (word hi lo) len)
  | _ => .malformed

/-- A request kind and its fields, by the codes of section 12.5 (R187). -/
def readRequest (src : ReqSource) (kind : Byte) (fields : List Byte) : ReadRequest :=
  match kind.toNat with
  | 1 => noFields (.identify src) fields
  | 2 => noFields (.readStatus src) fields
  | 3 => oneByte (.readMap src) fields
  | 4 => noFields (.readCounters src) fields
  | 5 => noFields (.clearCounters src) fields
  | 6 => noFields (.readNotices src) fields
  | 7 => oneByte (.setNoticeForwarding src) fields
  | 8 => noFields (.resetArm src) fields
  | 9 => oneByte (.resetNode src) fields
  | 10 => oneByte (.portRestart src) fields
  | 11 => readLinkTest src fields
  | 12 => oneByte (.linkResult src) fields
  | 13 => readLead src fields
  | 14 => noFields (.censusStart src) fields
  | 15 => readTrainState src fields
  | 16 => readAliasWrite src fields
  | 17 => oneByte (.aliasClear src) fields
  | 18 => oneByte (.aliasRead src) fields
  | 19 => readRemote src fields
  | 20 => readDoorRelease src fields
  | 21 => oneByte (.doorClose src) fields
  | 22 => oneByte (.doorIsolate src) fields
  | 23 => oneByte (.doorRestore src) fields
  | 24 => readAllowance src fields
  | 25 => oneByte (.groupReset src) fields
  | 26 => readEdit src fields
  | 27 => noFields (.recordEditReset src) fields
  | 28 => readRecordRead src fields
  | 29 => noFields (.recordStore src) fields
  | 30 => oneByte (.setProtection src) fields
  | _ => .unknownKind

/-- The mode of a REMOTE-STATION READ or WRITE (R111 steps 2, 3 and 7); `none` is refused with RANGE. -/
def remoteModeOf (mode : Byte) (timeout : Word16) : Option BusMode :=
  if mode = 1#8 then some .once
  else if mode = 2#8 then some .accept
  else if mode = 3#8 then
    if 10 ≤ timeout.toNat ∧ timeout.toNat ≤ 1000 then some (.persist timeout.toNat) else none
  else none

end Sys2Proof.Machine
end

