-- ==== Sys2Proof/Machine/Requests.lean ====
section
/-! DEFINITION. The Request Unit: the envelope every request shares, what each request does at the node
that executes it, and host frames (R38, R62, R75, R103 to R114, R119, R122, R134, R135, R164, R169, R177 to
R180, R185, R187 to R190, R193 to R196, R199). -/

namespace Sys2Proof.Machine

open Sys2Proof

/-! ## The envelope (R109, R187, R195) -/

/-- A request is answered with a status and no payload. -/
def refuse (src : ReqSource) (st : Status) (s : State) : State := answer src st [] .plain s

/-- A request is answered OK. -/
def accept (src : ReqSource) (payload : List Byte) (s : State) : State := answer src .ok payload .plain s

/-- A request that has come over the train line (R38, R75, R119, R164). -/
def fromLine : ReqSource → Bool
  | .cab _ => false
  | .line _ _ _ => true

/-- The generation an arm or a pending entry takes from its request (R112, R195). -/
def requestGeneration (src : ReqSource) (s : State) : Byte :=
  match src with
  | .cab _ => s.consist.generation
  | .line _ generation _ => generation

/-- Whether two requests come from one source, whatever their tags (R195, R196). -/
def sameSource : ReqSource → ReqSource → Bool
  | .cab _, .cab _ => true
  | .line p _ _, .line q _ _ => decide (p = q)
  | _, _ => false

/-- The tag of a request. -/
def tagOf : ReqSource → Byte
  | .cab tag => tag
  | .line _ _ tag => tag

/-- A request with source position 0 is dropped (R109). -/
def requestDropped (s : State) : State :=
  s.modReq fun r => { r with requestDrop := satInc r.requestDrop }

/-- The envelope of a request at the node that executes it: source position 0 is dropped (R109); every
request acts on the reset arm first (R195), and is refused with BUSY while a reset is pending (R187). The
body is given the arm as it stood. -/
def envelope (src : ReqSource) (body : Option Arm → State → State) (s : State) : State :=
  match src with
  | .line 0#8 _ _ => requestDropped s
  | _ =>
    let arm := s.req.arm
    let s := s.modReq fun r => { r with arm := none }
    if s.req.resetPending then refuse src .busy s else body arm s

/-- The envelope of a request that is not RESET-NODE. -/
def handle (src : ReqSource) (body : State → State) (s : State) : State :=
  envelope src (fun _ => body) s

/-! ## Identification and status (R188, R189, R190) -/

/-- The answer of IDENTIFY (R188). -/
def identifyPayload (s : State) : List Byte :=
  idBytes s.identity ++ counted s.store.content.vehicleNumber
    ++ [checkCode s.store.validity, protectionCode s.store.mode, choiceCode s.door.vehicleProof]

def doIdentify (src : ReqSource) (s : State) : State := accept src (identifyPayload s) s

/-- One port in the answer of READ-STATUS (R188). -/
def portStatus (q : Port) : List Byte :=
  [linkCode q.link, downCode q.lastDown]
    ++ presence (q.neighbour.map fun n => idBytes n.identity ++ [endCode n.farEnd, n.generation])

/-- The answer of READ-STATUS (R188). -/
def statusPayload (s : State) : List Byte :=
  portStatus s.lp1 ++ portStatus s.lp2
    ++ [claimCode s.consist.status, consistCode s.consist.state, phaseCode s.consist.phase,
        s.consist.generation, byteOf s.n, byteOf s.position]
    ++ presence (s.orientation.map fun o => [orientationCode o])
    ++ [choiceCode s.door.vehicleProof, choiceCode (provenSource s),
        flagsByte s.pins.standstill s.pins.supply s.pins.workshop,
        cabStateCode s.bus.cabState, storeCode s.store.state]

def doReadStatus (src : ReqSource) (s : State) : State := accept src (statusPayload s) s

/-- The entries of a page of the active map (R189). -/
def mapPage (s : State) (page : Nat) : List ConsistEntry :=
  (s.consist.activeMap.drop (8 * page)).take 8

/-- READ-MAP (R189). -/
def doReadMap (src : ReqSource) (page : Byte) (s : State) : State :=
  if 3 < page.toNat then refuse src .range s
  else
    accept src
      ([consistCode s.consist.state, s.consist.generation, byteOf s.n, page]
        ++ entriesBytes (mapPage s page.toNat)) s

/-- Every counter of the node, in the order of R190. -/
def counters (s : State) : List Nat :=
  [s.lp1.received, s.lp1.errored, s.lp1.dropped, s.lp2.received, s.lp2.errored, s.lp2.dropped,
   s.relay.headerError, s.relay.refusedRequest, s.relay.refusedReply, s.relay.refusedNotice,
   s.relay.refusedRelease, s.relay.refusedSweepOut, s.relay.refusedSweepBack, s.relay.wrongDirection,
   s.relay.beyondTail, s.relay.noRoute, s.relay.repeats, s.consist.censusDrop, s.sweep.mismatch,
   s.bus.noAnswer, s.bus.notReady, s.bus.persistTimeouts, s.bus.overruns, s.bus.cabDrop,
   s.req.requestDrop, s.req.replyDiscard, s.req.remoteStale, s.req.remoteLate, s.req.overflow,
   s.door.releasesApplied, s.door.releasesVoid, s.door.closes, s.door.leafFaults,
   s.heat.unlatchedReturn, s.heat.increaseDiscard, s.heat.groupFaults, s.heat.heatOff]

/-- READ-COUNTERS (R190). -/
def doReadCounters (src : ReqSource) (s : State) : State :=
  accept src ((counters s).map be16).flatten s

/-- Every clearable counter is set to 0 (R190). -/
def clearAll (s : State) : State :=
  { s with
    lp1 := { s.lp1 with dropped := 0 }
    lp2 := { s.lp2 with dropped := 0 }
    relay :=
      { s.relay with
        headerError := 0, refusedRequest := 0, refusedReply := 0, refusedNotice := 0
        refusedRelease := 0, refusedSweepOut := 0, refusedSweepBack := 0, wrongDirection := 0
        beyondTail := 0, noRoute := 0, repeats := 0 }
    consist := { s.consist with censusDrop := 0 }
    sweep := { s.sweep with mismatch := 0 }
    bus :=
      { s.bus with noAnswer := 0, notReady := 0, persistTimeouts := 0, overruns := 0, cabDrop := 0 }
    req :=
      { s.req with
        requestDrop := 0, replyDiscard := 0, remoteStale := 0, remoteLate := 0, overflow := 0 }
    door := { s.door with releasesApplied := 0, releasesVoid := 0, closes := 0, leafFaults := 0 }
    heat :=
      { s.heat with unlatchedReturn := 0, increaseDiscard := 0, groupFaults := 0, heatOff := 0 } }

/-- CLEAR-COUNTERS (R190). DESIGN CHOICE: the counters are cleared, then the request is answered, so a loss of
its own reply counts 1 (assumption 63). -/
def doClearCounters (src : ReqSource) (s : State) : State := accept src [] (clearAll s)

/-! ## Notices and reset (R193 to R196) -/

/-- READ-NOTICES (R194). DESIGN CHOICE: the entries are removed, then the request is answered, so a notice that
the loss of its own reply raises finds their room (assumption 66). -/
def doReadNotices (src : ReqSource) (s : State) : State :=
  let taken := s.req.notices.take Config.noticesPerRead
  let left := s.req.notices.drop Config.noticesPerRead
  accept src
    (byteOf taken.length :: (taken.map noticeBytes).flatten
      ++ [byteOf left.length] ++ be16 s.req.overflow)
    (s.modReq fun r => { r with notices := left })

/-- SET-NOTICE-FORWARDING: ON 1, OFF 2 (R193). DESIGN CHOICE: the setting is taken, then the request is
answered (assumption 66). -/
def doSetForwarding (src : ReqSource) (setting : Byte) (s : State) : State :=
  if setting = 1#8 ∨ setting = 2#8 then
    accept src [] (s.modReq fun r => { r with forwarding := decide (setting = 1#8) })
  else refuse src .range s

/-- RESET-ARM (R195). -/
def doResetArm (src : ReqSource) (s : State) : State :=
  let arm : Arm := { source := src, generation := requestGeneration src s }
  accept src [] (s.modReq fun r => { r with arm := some arm })

/-- Whether a RESET-NODE matches the arm (R196). -/
def armMatches (src : ReqSource) (armTag : Byte) (s : State) (arm : Option Arm) : Bool :=
  match arm with
  | none => false
  | some a =>
    sameSource a.source src && decide (a.generation = requestGeneration src s)
      && decide (tagOf a.source = armTag)

/-- RESET-NODE, with the arm as it stood (R196). -/
def doResetNode (src : ReqSource) (armTag : Byte) (arm : Option Arm) (s : State) : State :=
  if armMatches src armTag s arm then
    answer src .ok [] .resetReply
      (s.modReq fun r => { r with resetPending := true, resetTimer := some Config.resetWaitMs })
  else refuse src .state s

/-! ## Ports (R31, R32, R36) -/

/-- PORT-RESTART (R31). -/
def doPortRestart (src : ReqSource) (number : Byte) (s : State) : State :=
  match portOf number with
  | none => refuse src .range s
  | some p => restartPort p (accept src []) s

/-- LINK-TEST accepted: the offer of a port (R32). -/
def offerTest (p : PortId) (frames : Nat) (s : State) : State :=
  sendHello p (.testOffer frames) .plain
    (s.modPort p fun q =>
      { q with result := none, offer := .pending frames (some Config.offerMs) })

/-- LINK-TEST (R32). -/
def doLinkTest (src : ReqSource) (number : Byte) (frames : Word16) (s : State) : State :=
  match portOf number with
  | none => refuse src .range s
  | some p =>
    let n := frames.toNat
    if n < 16 ∨ 4096 < n then refuse src .range s
    else if (s.port p).link ≠ .up ∨ !testAllowed s then refuse src .state s
    else if (s.port p).offer ≠ .none then refuse src .busy s
    else offerTest p n (accept src [] s)

/-- A link test result record as a reply carries it (R36; counts above 65535 are sent as 65535,
assumption 17). -/
def resultBytes (p : PortId) (t : TestResult) : List Byte :=
  let n16 (n : Nat) : List Byte := be16 (min n 65535)
  portNumber p :: n16 t.frames ++ n16 t.sent ++ n16 t.received ++ n16 t.errored ++ n16 t.missing
    ++ [outcomeCode t.outcome]

/-- LINK-RESULT (R36). -/
def doLinkResult (src : ReqSource) (number : Byte) (s : State) : State :=
  match portOf number with
  | none => refuse src .range s
  | some p =>
    match (s.port p).result with
    | none => refuse src .absent s
    | some t => accept src (resultBytes p t) s

/-! ## Lead, census and train state (R38, R62, R75) -/

/-- The live record lists an end as a cab end (R38). -/
def cabEndListed (s : State) : CabEnd → Bool
  | .end1 => s.store.content.cabEnd1
  | .end2 => s.store.content.cabEnd2

/-- The claim at an end is set or cleared and the claim status re-evaluated (R38, R40). -/
def claim (e : CabEnd) (claimed : Bool) (s : State) : State :=
  evalClaims
    (match e with
      | .end1 => setClaims claimed s.consist.claim2 s
      | .end2 => setClaims s.consist.claim1 claimed s)

/-- LEAD with action SET (R38). -/
def doLeadSet (src : ReqSource) (cabEnd : Byte) (s : State) : State :=
  match endOf cabEnd with
  | none => refuse src .range s
  | some e =>
    if fromLine src then refuse src .state s
    else if !cabEndListed s e then refuse src .range s
    else claim e true (accept src [] s)

/-- LEAD with action CLEAR (R38). -/
def doLeadClear (src : ReqSource) (cabEnd : Byte) (s : State) : State :=
  match endOf cabEnd with
  | none => refuse src .range s
  | some e =>
    if fromLine src then refuse src .state s else claim e false (accept src [] s)

/-- CENSUS-START (R62). -/
def doCensusStart (src : ReqSource) (s : State) : State :=
  if !s.actsAsHead then refuse src .state s
  else startCensus ((accept src [] s).modConsist fun c => { c with conflictHold := false })

/-- SET-TRAIN-STATE (R75). -/
def doSetTrainState (src : ReqSource) (bits : TrainBits) (period : Option Word16) (s : State) : State :=
  if fromLine src then refuse src .state s
  else if !s.actsAsHead then refuse src .state s
  else
    accept src []
      (s.modSweep fun w =>
        { w with
          request := bits
          period := match period with
            | some p => clampPeriod p.toNat
            | none => w.period })

/-! ## The alias table (R107, R108) -/

/-- Whether the fields of an alias entry lie in their ranges (R107 step 1). -/
def aliasOk (number : Byte) (vehicle : VehicleRef) (station : Byte) : Bool :=
  decide (number ≠ 0#8)
    && (match vehicle with
      | .identity _ => true
      | .position p => decide (1 ≤ p.toNat ∧ p.toNat ≤ Config.consistSize))
    && stationOk station

/-- The table without an alias number. -/
def withoutAlias (number : Byte) (t : List AliasEntry) : List AliasEntry :=
  t.filter fun e => decide (e.number ≠ number)

/-- The entry of an alias number. -/
def findAlias (number : Byte) (t : List AliasEntry) : Option AliasEntry :=
  t.find? fun e => decide (e.number = number)

/-- ALIAS-WRITE (R107). -/
def doAliasWrite (src : ReqSource) (number : Byte) (vehicle : VehicleRef) (station : Byte) (s : State) :
    State :=
  let entry : AliasEntry := { number := number, vehicle := vehicle, station := station }
  let t := s.req.aliases
  if !aliasOk number vehicle station then refuse src .range s
  else if (findAlias number t).isNone ∧ Config.aliasTableSize ≤ t.length then refuse src .full s
  else accept src [] (s.modReq fun r => { r with aliases := withoutAlias number t ++ [entry] })

/-- ALIAS-CLEAR (R108). -/
def doAliasClear (src : ReqSource) (number : Byte) (s : State) : State :=
  let t := s.req.aliases
  if number = 0#8 then accept src [] (s.modReq fun r => { r with aliases := [] })
  else if (findAlias number t).isNone then refuse src .absent s
  else accept src [] (s.modReq fun r => { r with aliases := withoutAlias number t })

/-- An alias entry as a reply carries it (R197). -/
def aliasBytes (e : AliasEntry) : List Byte :=
  e.number :: (match e.vehicle with
    | .identity i => 1#8 :: idBytes i
    | .position p => [2#8, p]) ++ [e.station]

/-- ALIAS-READ (R108). -/
def doAliasRead (src : ReqSource) (number : Byte) (s : State) : State :=
  let t := s.req.aliases
  if number = 0#8 then accept src (byteOf t.length :: (t.map aliasBytes).flatten) s
  else match findAlias number t with
    | none => refuse src .absent s
    | some e => accept src (aliasBytes e) s

/-! ## REMOTE-STATION (R111, R112) -/

/-- A roster as a reply carries it (R83, R197). -/
def rosterBytes (roster : List RosterEntry) : List Byte :=
  byteOf roster.length :: (roster.map fun e => e.station :: presence e.identification).flatten

/-- A REMOTE-STATION that passes R111 is taken (R112). -/
def takeRemote (src : ReqSource) (op : BusOp) (mode : BusMode) (s : State) : State :=
  if s.req.remotes.any fun e => decide (e.source = src) then refuse src .busy s
  else if Config.remoteQueueSize ≤ s.req.remotes.length then refuse src .full s
  else
    let entry : RemoteEntry :=
      { source := src, generation := requestGeneration src s, op := op, mode := mode
        deadline := Config.remoteDeadlineMs }
    match offerRemote src op mode (s.modReq fun r => { r with remotes := r.remotes ++ [entry] }) with
    | some s => s
    | none => refuse src .full s

/-- REMOTE-STATION READ (R111, R112). -/
def doRemoteRead (src : ReqSource) (mode station item : Byte) (timeout : Word16) (s : State) : State :=
  match remoteModeOf mode timeout with
  | none => refuse src .range s
  | some m =>
    if stationOk station && itemOk item then takeRemote src (.read station item) m s
    else refuse src .range s

/-- REMOTE-STATION WRITE (R111, R112). -/
def doRemoteWrite (src : ReqSource) (mode station item : Byte) (data : List Byte) (timeout : Word16)
    (s : State) : State :=
  match remoteModeOf mode timeout with
  | none => refuse src .range s
  | some m =>
    if stationOk station && itemOk item && decide (1 ≤ data.length ∧ data.length ≤ 16) then
      takeRemote src (.write station item data) m s
    else refuse src .range s

/-- REMOTE-STATION READ in mode WALK (R83, R111, R112). -/
def doRemoteWalk (src : ReqSource) (first last : Byte) (s : State) : State :=
  if 1 ≤ first.toNat ∧ first.toNat ≤ last.toNat ∧ last.toNat ≤ 30 then
    takeRemote src (.walk first last false []) .once s
  else refuse src .range s

/-- REMOTE-STATION ROSTER, of a mode other than WALK: readRemote refuses mode WALK (R111 step 3, R112). -/
def doRemoteRoster (src : ReqSource) (s : State) : State := accept src (rosterBytes s.bus.roster) s

/-! ## Doors and heat (R119, R122, R134, R135, R164, R169) -/

/-- A DOOR-RELEASE request that is taken (R119). DESIGN CHOICE: the frame is handed over, then the release is
applied here (assumption 69). -/
def sendRelease (src : ReqSource) (side : TrainSide) (first last : Nat) (outside : Bool) (s : State) :
    State :=
  let serial := s.door.releaseSerial + 1#8
  let r : Release := { serial := serial, side := side, first := first, last := last, outside := outside }
  let s := s.modDoor fun d => { d with releaseSerial := serial }
  let s := broadcast (buildFrame s Config.kindDoorRelease 255#8 0#8 (releasePayload r)) s
  let s := s.modRelay fun y => { y with lastSerial := some serial }
  accept src [serial, byteOf first, byteOf last] (applyRelease r s.consist.generation s)

/-- DOOR-RELEASE (R119). -/
def doDoorRelease (src : ReqSource) (side first last : Byte) (outside : Bool) (s : State) : State :=
  match trainSideOf side with
  | none => refuse src .range s
  | some sd =>
    if first = 0#8 ∨ last.toNat < first.toNat then refuse src .range s
    else if fromLine src then refuse src .state s
    else if !s.confirmedHead then refuse src .state s
    else
      let stop := min last.toNat s.n
      if stop < first.toNat then refuse src .range s
      else sendRelease src sd first.toNat stop outside s

/-- DOOR-CLOSE (R122). DESIGN CHOICE: bits 2 to 7 of the mask are ignored (assumption 49), and the frame is handed
over before the close is applied here (assumption 69). -/
def doDoorClose (src : ReqSource) (mask : Byte) (s : State) : State :=
  if mask.getLsbD 0 || mask.getLsbD 1 then
    let serial := s.door.closeSerial + 1#8
    let c : Close := { serial := serial, left := mask.getLsbD 0, right := mask.getLsbD 1 }
    let s := s.modDoor fun d => { d with closeSerial := serial }
    let s := broadcast (buildFrame s Config.kindDoorClose 255#8 0#8 (closePayload c)) s
    accept src [serial] (applyClose c (if s.isSettled then s.orientation else none) s)
  else refuse src .range s

/-- DOOR-ISOLATE (R134). -/
def doDoorIsolate (src : ReqSource) (leaf : Byte) (s : State) : State :=
  match s.leaf leaf.toNat with
  | none => refuse src .range s
  | some _ => isolateLeaf leaf.toNat (accept src [] s)

/-- DOOR-RESTORE (R135). -/
def doDoorRestore (src : ReqSource) (leaf : Byte) (s : State) : State :=
  match s.leaf leaf.toNat with
  | none => refuse src .range s
  | some l =>
    if l.state = .isolated then restoreLeaf leaf.toNat (accept src [] s) else refuse src .state s

/-- SET-ALLOWANCE (R164). -/
def doSetAllowance (src : ReqSource) (allowance : Word16) (stagger : Option Word16) (s : State) : State :=
  if fromLine src then refuse src .state s
  else if !s.actsAsHead then refuse src .state s
  else
    let s := s.modHeat fun h => { h with allowance := min allowance.toNat 2000 }
    let s := s.modSweep fun w =>
      { w with
        stagger := match stagger with
          | some g => clampStagger g.toNat
          | none => w.stagger }
    accept src (be16 s.heat.allowance ++ be16 s.sweep.stagger) s

/-- GROUP-RESET (R169). -/
def doGroupReset (src : ReqSource) (number : Byte) (s : State) : State :=
  match s.group number.toNat with
  | none => refuse src .range s
  | some g =>
    if g.fault = none then refuse src .state s
    else accept src [] (resetGroup number.toNat s)

/-! ## The record (R177 to R180, R185) -/

/-- Bytes of an image replaced from an offset on (R177). -/
def overwrite (img : List Byte) (offset : Nat) (data : List Byte) : List Byte :=
  img.take offset ++ data ++ img.drop (offset + data.length)

/-- RECORD-EDIT (R177). -/
def doRecordEdit (src : ReqSource) (offset : Word16) (data : List Byte) (s : State) : State :=
  let o := offset.toNat
  if data = [] ∨ 64 < data.length ∨ Config.imageSize < o + data.length then refuse src .range s
  else if storeBusy s then refuse src .busy s
  else accept src [] (s.modStore fun r => { r with edit := overwrite r.edit o data })

/-- RECORD-EDIT-RESET (R178). -/
def doEditReset (src : ReqSource) (s : State) : State :=
  if storeBusy s then refuse src .busy s
  else accept src [] (s.modStore fun r => { r with edit := r.live })

/-- The answer of RECORD-READ over an image with its verdict (R179). -/
def recordPayload (img : List Byte) (verdict : Option CheckReason) (offset len : Nat) : List Byte :=
  counted ((img.drop offset).take len) ++ [checkCode verdict] ++ be16 (imageLengthOf img)

/-- RECORD-READ: LIVE 1, EDIT 2 (R179). DESIGN CHOICE: the length reported is the one the bytes give, also for a
LIVE image whose verdict is the free reason of a failed read-back (assumption 12). -/
def doRecordRead (src : ReqSource) (image : Byte) (offset : Word16) (len : Byte) (s : State) : State :=
  let o := offset.toNat
  let n := len.toNat
  if n = 0 ∨ 64 < n ∨ Config.imageSize < o + n then refuse src .range s
  else if image = 1#8 then accept src (recordPayload s.store.live s.store.validity o n) s
  else if image = 2#8 then accept src (recordPayload s.store.edit (checkImage s.store.edit) o n) s
  else refuse src .range s

/-- RECORD-STORE (R180). -/
def doRecordStore (src : ReqSource) (s : State) : State :=
  if storeBusy s then refuse src .busy s
  else if !storeAllowed s then refuse src .guarded s
  else match checkImage s.store.edit with
    | some why => answer src .check [checkCode (some why)] .plain s
    | none =>
      if !doorsAtRest s then refuse src .state s
      else
        accept src
          (be16 (imageLengthOf s.store.edit) ++ be16 (checkWordOf s.store.edit).toNat)
          (s.modStore fun r =>
            { r with state := .writing, writeTimer := some Config.recordWriteMs })

/-- SET-PROTECTION (R185). -/
def doSetProtection (src : ReqSource) (mode : Byte) (s : State) : State :=
  match protectionOf mode with
  | none => refuse src .range s
  | some wanted =>
    match protectionVerdict s wanted with
    | some st => refuse src st s
    | none => accept src [] (setProtectionMode wanted s)

/-! ## Executing a request -/

/-- A request command at the node that executes it, with its envelope (R109, R187). A command that is no
request does nothing here; `readRequest` gives none. -/
def perform (i : Instr) (s : State) : State :=
  match i with
  | .identify src => handle src (doIdentify src) s
  | .readStatus src => handle src (doReadStatus src) s
  | .readMap src page => handle src (doReadMap src page) s
  | .readCounters src => handle src (doReadCounters src) s
  | .clearCounters src => handle src (doClearCounters src) s
  | .readNotices src => handle src (doReadNotices src) s
  | .setNoticeForwarding src setting => handle src (doSetForwarding src setting) s
  | .resetArm src => handle src (doResetArm src) s
  | .resetNode src tag => envelope src (doResetNode src tag) s
  | .portRestart src n => handle src (doPortRestart src n) s
  | .linkTest src n frames => handle src (doLinkTest src n frames) s
  | .linkResult src n => handle src (doLinkResult src n) s
  | .leadSet src e => handle src (doLeadSet src e) s
  | .leadClear src e => handle src (doLeadClear src e) s
  | .censusStart src => handle src (doCensusStart src) s
  | .setTrainState src bits period => handle src (doSetTrainState src bits period) s
  | .aliasWrite src n v station => handle src (doAliasWrite src n v station) s
  | .aliasClear src n => handle src (doAliasClear src n) s
  | .aliasRead src n => handle src (doAliasRead src n) s
  | .remoteStationRead src m station item t => handle src (doRemoteRead src m station item t) s
  | .remoteStationWrite src m station item data t =>
    handle src (doRemoteWrite src m station item data t) s
  | .remoteStationWalk src first last => handle src (doRemoteWalk src first last) s
  | .remoteStationRoster src => handle src (doRemoteRoster src) s
  | .doorRelease src side first last outside =>
    handle src (doDoorRelease src side first last outside) s
  | .doorClose src mask => handle src (doDoorClose src mask) s
  | .doorIsolate src leaf => handle src (doDoorIsolate src leaf) s
  | .doorRestore src leaf => handle src (doDoorRestore src leaf) s
  | .setAllowance src a g => handle src (doSetAllowance src a g) s
  | .groupReset src g => handle src (doGroupReset src g) s
  | .recordEdit src o data => handle src (doRecordEdit src o data) s
  | .recordEditReset src => handle src (doEditReset src) s
  | .recordRead src image o n => handle src (doRecordRead src image o n) s
  | .recordStore src => handle src (doRecordStore src) s
  | .setProtection src mode => handle src (doSetProtection src mode) s
  | _ => s

/-- A request as its bytes give it is executed at this node (R187). -/
def executeRequest (src : ReqSource) (kind : Byte) (fields : List Byte) (s : State) : State :=
  match readRequest src kind fields with
  | .command i => perform i s
  | .unknownKind => handle src (refuse src .unknownKind) s
  | .malformed => handle src (refuse src .range) s

/-- A REQUEST at its destination (R109); one without a kind byte is malformed (assumption 39). -/
def deliverRequest (f : Frame) (s : State) : State :=
  let src := ReqSource.line f.header.source f.header.generation f.header.tag
  match f.payload with
  | kind :: fields => executeRequest src kind fields s
  | [] => handle src (refuse src .range) s

/-! ## Host frames (R103 to R106, R199) -/

/-- The address of a host request (section 12.3). -/
inductive HostAddress
  | here
  | position (p : Byte)
  | identity (i : Identity)
  | byAlias (a : Byte)
  | badForm
  deriving DecidableEq, Repr

/-- A host request cab frame: its tag, its address, and its kind and fields. -/
structure HostFrame where
  tag : Byte
  address : HostAddress
  kind : Byte
  fields : List Byte
  deriving DecidableEq, Repr

/-- A host request read from a cab frame; `none` where R199 discards it. DESIGN CHOICE: one with an address form
above 3 is refused with RANGE whatever follows the form byte, one of the four forms without a kind byte is too
short (assumption 39). -/
def readHostFrame (bytes : List Byte) : Option HostFrame :=
  match bytes with
  | ty :: tag :: form :: rest =>
    if ty ≠ 0x01#8 then none
    else if form = 0#8 then
      match rest with
      | kind :: fields => some { tag := tag, address := .here, kind := kind, fields := fields }
      | [] => none
    else if form = 1#8 then
      match rest with
      | p :: kind :: fields => some { tag := tag, address := .position p, kind := kind, fields := fields }
      | _ => none
    else if form = 2#8 then
      match rest with
      | a :: b :: c :: d :: e :: f :: kind :: fields =>
        some { tag := tag, address := .identity (idOf a b c d e f), kind := kind, fields := fields }
      | _ => none
    else if form = 3#8 then
      match rest with
      | a :: kind :: fields => some { tag := tag, address := .byAlias a, kind := kind, fields := fields }
      | _ => none
    else some { tag := tag, address := .badForm, kind := 0#8, fields := [] }
  | _ => none

/-- The position of an identity in the active map (R105). -/
def resolveIdentity (i : Identity) (s : State) : Except Status Byte :=
  match s.consist.activeMap.findIdx? (fun e => decide (e.identity = i)) with
  | some k => .ok (byteOf (k + 1))
  | none => .error .absent

/-- A REMOTE-STATION with its station field, the third of its fields, replaced (R106). -/
def withStation (kind : Byte) (fields : List Byte) (station : Byte) : List Byte :=
  if kind = 19#8 then
    match fields with
    | op :: mode :: _ :: rest => op :: mode :: station :: rest
    | _ => fields
  else fields

/-- A host request's address checked and resolved (R103, R105): the refusal, or the destination position
and the fields to send; `none` as destination is LOCAL. -/
def resolve (h : HostFrame) (s : State) : Except Status (Option Byte × List Byte) :=
  match h.address with
  | .here => .ok (none, h.fields)
  | .badForm => .error .range
  | .position p =>
    if p.toNat = 0 ∨ 32 < p.toNat then .error .range
    else if !s.isSettled then .error .state
    else .ok (some p, h.fields)
  | .identity i =>
    if !s.isSettled then .error .state
    else (resolveIdentity i s).map fun p => (some p, h.fields)
  | .byAlias a =>
    if a = 0#8 then .error .range
    else if !s.isSettled then .error .state
    else match findAlias a s.req.aliases with
      | none => .error .absent
      | some e =>
        let fields := withStation h.kind h.fields e.station
        match e.vehicle with
        | .position p => .ok (some p, fields)
        | .identity i => (resolveIdentity i s).map fun p => (some p, fields)

/-- A resolved request is originated as a REQUEST frame, or delivered locally (R12, R106). -/
def originateRequest (destination tag kind : Byte) (fields : List Byte) (s : State) : State :=
  let f := buildFrame s Config.kindRequest destination tag (kind :: fields)
  if destination.toNat = s.position then deliverRequest f s
  else route { frame := f, mark := .plain } s

/-- A cab frame read from the mailbox is taken (R103, R104, R199). -/
def takeHostFrame (bytes : List Byte) (s : State) : State :=
  match readHostFrame bytes with
  | none => requestDropped s
  | some h =>
    match resolve h s with
    | .error st => offerCabReply h.tag (statusCode st) 0#8 [] .plain s
    | .ok (none, fields) => executeRequest (.cab h.tag) h.kind fields s
    | .ok (some p, fields) => originateRequest p h.tag h.kind fields s

end Sys2Proof.Machine
end

