-- ==== Sys2Proof/Machine/BusOutcome.lean ====
section
/-! DEFINITION. How coach bus attempts end: valid answers and the reply timeout, the outcomes of the modes,
the walk, poll results, cab service transfers, and what each outcome does at its owner (R80 to R83, R90 to
R96, R98, R113, R114, R133, R166). -/

namespace Sys2Proof.Machine

open Sys2Proof

/-- The outcome of one attempt (R80). -/
inductive Attempt
  | done (data : List Byte)
  | notReady
  | noAnswer
  deriving DecidableEq, Repr

/-- The outcome of a transaction, as its owner is given it (R86, R87, R88). -/
inductive BusOutcome
  | done (data : List Byte)
  | notReady (value : Option (List Byte × Nat))
  | noAnswer
  | timeout
  | roster (entries : List RosterEntry)
  deriving DecidableEq, Repr

/-! ## Owners (R113, R114, R133, R166) -/

/-- The status and payload of the reply to a remote request (R113). -/
def remoteReply (op : BusOp) : BusOutcome → Status × List Byte
  | .done data =>
    match op with
    | .read _ _ => (.ok, counted data)
    | .write _ _ _ | .walk _ _ _ _ => (.ok, [])
  | .notReady (some (value, age)) => (.notReady, counted value ++ [byteOf age])
  | .notReady none => (.notReady, [])
  | .noAnswer => (.noAnswer, [])
  | .timeout => (.timeout, [])
  | .roster entries => (.ok, rosterBytes entries)

/-- Whether the reply of a pending entry is stale (R114). -/
def remoteIsStale (e : RemoteEntry) (s : State) : Bool :=
  fromLine e.source && !s.settledIn e.generation

/-- A class 4 transaction has ended: its pending entry leaves the table and the reply is sent, unless it is
late or stale (R113, R114). -/
def remoteEnds (src : ReqSource) (outcome : BusOutcome) (s : State) : State :=
  match s.req.remotes.find? fun e => decide (e.source = src) with
  | none => s
  | some e =>
    let s := s.modReq fun r =>
      { r with remotes := r.remotes.filter fun x => decide (x.source ≠ src) }
    if e.deadline = 0 then s.modReq fun r => { r with remoteLate := satInc r.remoteLate }
    else if remoteIsStale e s then
      s.modReq fun r => { r with remoteStale := satInc r.remoteStale }
    else
      let (st, payload) := remoteReply e.op outcome
      answer src st payload .plain s

/-- The outcome of a class queue entry is handed to its owner (R84). -/
def tellOwner (e : QueueEntry) (outcome : BusOutcome) (s : State) : State :=
  match e.owner, outcome with
  | .leaf k, .done _ => doorWriteDone k e.current s
  | .leaf k, .timeout => doorWriteFailed k s
  | .group g, .done _ => heatWriteDone g e.current s
  | .group g, .timeout => heatWriteFailed g s
  | .remote src, outcome => remoteEnds src outcome s
  | _, _ => s

/-! ## Class queue entries (R81, R82, R83) -/

/-- A class queue without its entry in flight, and that entry with its place. -/
def takeInFlight : List QueueEntry → Option (QueueEntry × Nat)
  | [] => none
  | e :: rest =>
    if e.phase = .inFlight then some (e, 0)
    else (takeInFlight rest).map fun (found, i) => (found, i + 1)

/-- An entry leaves its queue. -/
def removeEntry (cls : QueueClass) (place : Nat) (s : State) : State :=
  s.modBus fun b => b.withQueue cls ((b.queue cls).eraseIdx place)

/-- An entry is changed in its place. -/
def changeEntry (cls : QueueClass) (place : Nat) (f : QueueEntry → QueueEntry) (s : State) : State :=
  s.modBus fun b => b.withQueue cls ((b.queue cls).modify place f)

/-- One more persist timeout (R82, R101). -/
def countTimeout (s : State) : State :=
  s.modBus fun b => { b with persistTimeouts := satInc b.persistTimeouts }

/-- A transaction ends: its entry leaves the queue and its owner is told (R84). -/
def endEntry (cls : QueueClass) (place : Nat) (e : QueueEntry) (outcome : BusOutcome) (s : State) :
    State :=
  let s := if outcome = .timeout then countTimeout s else s
  tellOwner e outcome (removeEntry cls place s)

/-- The value an ACCEPT READ answers with on NOT-READY: the status record of the first poll entry that
names the same station and item (R81; a record without a value gives none, assumption 27). -/
def acceptValue (station item : Byte) (s : State) : Option (List Byte × Nat) :=
  match s.store.content.polls.find? fun p => decide (p.station = station ∧ p.item = item) with
  | none => none
  | some p =>
    match s.record p.dest with
    | none => none
    | some r => r.value.map fun v => (v, r.age)

/-- The NOT-READY outcome of a transaction in ONCE or ACCEPT (R81). -/
def notReadyOutcome (e : QueueEntry) (s : State) : BusOutcome :=
  match e.mode, e.op with
  | .accept, .read station item => .notReady (acceptValue station item s)
  | _, _ => .notReady none

/-- The working roster after one READ of a walk (R83). -/
def walkRoster (station : Byte) (roster : List RosterEntry) : Attempt → List RosterEntry
  | .done data =>
    roster ++
      [{ station := station, identification := if data.length = 8 then some data else none }]
  | .notReady => roster ++ [{ station := station, identification := none }]
  | .noAnswer => roster

/-- One READ of a walk has ended (R83). -/
def walkEnds (cls : QueueClass) (place : Nat) (e : QueueEntry) (next last : Byte)
    (roster : List RosterEntry) (a : Attempt) (s : State) : State :=
  let roster := walkRoster next roster a
  if next = last then
    endEntry cls place e (.roster roster) (s.modBus fun b => { b with roster := roster })
  else
    changeEntry cls place
      (fun e => { e with phase := .waiting, op := .walk (next + 1#8) last true roster }) s

/-- An attempt of a PERSIST entry that was not DONE (R82). -/
def persistFails (cls : QueueClass) (place : Nat) (e : QueueEntry) (s : State) : State :=
  if e.persist = .expired then endEntry cls place e .timeout s
  else changeEntry cls place (fun e => { e with phase := .retryWait Config.retryWaitMs }) s

/-- The attempt of a class queue entry has ended (R81, R82, R83). -/
def entryEnds (cls : QueueClass) (place : Nat) (e : QueueEntry) (a : Attempt) (s : State) : State :=
  match e.op, a, e.mode with
  | .walk next last _ roster, a, _ => walkEnds cls place e next last roster a s
  | _, .done data, _ => endEntry cls place e (.done data) s
  | _, _, .persist _ => persistFails cls place e s
  | _, .notReady, _ => endEntry cls place e (notReadyOutcome e s) s
  | _, .noAnswer, _ => endEntry cls place e .noAnswer s

/-! ## Poll entries (R90 to R94) -/

/-- The result of a poll entry on its status record (R92). -/
inductive PollResult
  | value (data : List Byte)
  | kept
  | withdrawn
  deriving DecidableEq, Repr

/-- What a poll result does to the status record (R92). -/
def PollResult.apply (p : PollResult) (r : StatusRecord) : StatusRecord :=
  match p with
  | .value data => { r with value := some data, age := 0 }
  | .kept => r
  | .withdrawn => { r with age := 255 }

/-- STATION-CHANGE, where a notice-on-change read finds a new value (R93). -/
def stationChange (e : PollEntry) (number : Nat) (data : List Byte) (s : State) : State :=
  match e.dest, s.record .noticeOnChange with
  | .noticeOnChange, some r =>
    match r.value with
    | some old =>
      if old ≠ data then raise .stationChange (byteOf number) (data.headD 0#8).toNat s else s
    | none => s
  | _, _ => s

/-- The unit of a destination is told that a poll read has ended (R94). -/
def tellPollOwner (d : PollDest) (fromRead : Bool) (s : State) : State :=
  match d with
  | .leafStatus k => leafStatusTold k fromRead s
  | .groupRequest _ | .groupFeedback _ | .noticeOnChange => s

/-- The result of a poll entry is applied (R92, R93, R94). -/
def applyPoll (e : PollEntry) (number : Nat) (p : PollResult) (s : State) : State :=
  let s := match p with
    | .value data => stationChange e number data s
    | .kept | .withdrawn => s
  let s := s.modBus fun b =>
    { b with records := b.records.map fun r => if r.dest = e.dest then p.apply r else r }
  tellPollOwner e.dest (match p with | .value _ => true | _ => false) s

/-- The pointer moves to the next entry (R90). -/
def advancePointer (s : State) : State :=
  finishRound (s.modBus fun b =>
    { b with
      pointer := b.pointer.map (· + 1)
      pollRetry := none
      pollPersist := .unstarted })

/-- What the end of a poll attempt means: a result, or a further attempt after a retry wait (R81, R82,
R92). -/
def pollVerdict (e : PollEntry) (persist : Persist) (a : Attempt) : Option PollResult :=
  match a, e.mode with
  | .done data, _ => some (.value data)
  | .notReady, .accept => some .kept
  | _, .persist => if persist = .expired then some .withdrawn else none
  | _, _ => some .withdrawn

/-- A failed PERSIST poll read whose timeout has run out is counted (R82, R101). -/
def countPollTimeout (e : PollEntry) (p : PollResult) (s : State) : State :=
  if e.mode = .persist ∧ p = .withdrawn then countTimeout s else s

/-- A poll read in flight has ended (R90, R91, R100; assumption 23). -/
def pollEnds (e : PollEntry) (number : Nat) (use : PollUse) (a : Attempt) (s : State) : State :=
  let persist := s.bus.pollPersist
  match use with
  | .discarded => s.modBus fun b => { b with pollPersist := .unstarted }
  | .overrun =>
    let s := s.modBus fun b => { b with pollPersist := .unstarted }
    match pollVerdict e persist a with
    | some p => applyPoll e number p (countPollTimeout e p s)
    | none => s
  | .current =>
    match pollVerdict e persist a with
    | some p => applyPoll e number p (advancePointer (countPollTimeout e p s))
    | none => s.modBus fun b => { b with pollRetry := some Config.retryWaitMs }

/-! ## Cab service (R95, R96, R98, R99) -/

/-- The cab service of the round ends and its outcome is taken (R96, R98, R99). -/
def endCabService (s : State) : State :=
  match s.bus.cab with
  | none => s
  | some c => finishRound (takeCabOutcome c.tally (s.modBus fun b => { b with cab := none }))

/-- A writing phase without a frame, or without a write left, ends the cab service (R96, R98). -/
def checkCabEnd (s : State) : State :=
  match s.bus.cab with
  | some c =>
    if c.writing ∧ (s.bus.outbound = [] ∨ c.writesLeft = 0) then endCabService s else s
  | none => s

/-- A tally with one more ended transfer (R99). -/
def CabTally.count (a : Attempt) (t : CabTally) : CabTally where
  ended := true
  answered := t.answered || decide (a ≠ .noAnswer)

/-- What a mailbox transfer leaves of the cab service entry, before the frame is handed over (R96,
R98). -/
def CabEntry.after (t : CabTransfer) (a : Attempt) (c : CabEntry) : CabEntry :=
  let c := { c with tally := c.tally.count a }
  match t, a with
  | .read, .done (_ :: _) =>
    { c with readsLeft := c.readsLeft - 1, writing := decide (c.readsLeft ≤ 1) }
  | .read, .done [] | .read, .notReady => { c with writing := true }
  | .write, .done _ => { c with writesLeft := c.writesLeft - 1 }
  | .read, .noAnswer | .write, .notReady | .write, .noAnswer => c

/-- Whether a mailbox transfer ends the cab service at once (R96, R98). -/
def transferFails : CabTransfer → Attempt → Bool
  | .read, .noAnswer | .write, .notReady | .write, .noAnswer => true
  | .read, .done _ | .read, .notReady | .write, .done _ => false

/-- What a mailbox transfer moves: a host frame to the Request Unit, or the oldest frame out of the cab
outbound queue (R96, R98). -/
def transferMoves (t : CabTransfer) (a : Attempt) (s : State) : State :=
  match t, a with
  | .read, .done (b :: bs) => takeHostFrame (b :: bs) s
  | .write, .done _ =>
    match s.bus.outbound with
    | f :: rest => cabFrameGone f (s.modBus fun b => { b with outbound := rest })
    | [] => s
  | _, _ => s

/-- A mailbox transfer has ended, in class 3 or outside it (R95, R96, R98, R99). -/
def cabEnds (t : CabTransfer) (detached : Option CabTally) (a : Attempt) (s : State) : State :=
  match detached with
  | some tally => takeCabOutcome (tally.count a) (transferMoves t a s)
  | none =>
    let s := s.modBus fun b => { b with cab := b.cab.map (CabEntry.after t a) }
    if transferFails t a then endCabService s else checkCabEnd (transferMoves t a s)

/-! ## The end of an attempt (R80, R85) -/

/-- An attempt that was not DONE is counted (R80, R101). -/
def countAttempt (a : Attempt) (b : Bus) : Bus :=
  match a with
  | .done _ => b
  | .notReady => { b with notReady := satInc b.notReady }
  | .noAnswer => { b with noAnswer := satInc b.noAnswer }

/-- The attempt in flight has ended: its outcome is applied and the arbiter starts the next transaction
(R80, R85). -/
def attemptEnds (f : Flight) (a : Attempt) (s : State) : State :=
  let s := s.modBus fun b => { countAttempt a b with flight := none, replyTimer := none }
  let s := match f with
    | .queue cls =>
      match takeInFlight (s.bus.queue cls) with
      | some (e, place) => entryEnds cls place e a s
      | none => s
    | .cab t detached => cabEnds t detached a s
    | .poll e number use => pollEnds e number use a s
  arbitrate s

/-- Whether the transaction in flight reads, and the station and item it names (R80); a mailbox transfer
carries a cab frame, which the limit of 16 bytes does not bind. -/
def flightAddress (f : Flight) (s : State) : Option (Byte × Byte × Bool) :=
  match f with
  | .queue cls =>
    (takeInFlight (s.bus.queue cls)).map fun (e, _) =>
      (e.op.address.1, e.op.address.2, match e.op with | .write _ _ _ => false | _ => true)
  | .cab _ _ => some (31#8, 1#8, false)
  | .poll e _ _ => some (e.station, e.item, true)

/-- Whether a station answer is valid for the transaction in flight (R80). DESIGN CHOICE: a mailbox read
answered with more than the 720 bytes of a cab frame is valid (assumption 52). -/
def answerValid (f : Flight) (station item : Byte) (ready : Bool) (data : List Byte) (s : State) : Bool :=
  match flightAddress f s with
  | none => false
  | some (st, it, reads) =>
    decide (station = st) && decide (item = it)
      && (!(reads && ready) || decide (1 ≤ data.length ∧ data.length ≤ 16))

/-- A station answers (R80); an answer that is not valid is ignored. -/
def stationAnswers (station item : Byte) (ready : Bool) (data : List Byte) (s : State) : State :=
  match s.bus.flight with
  | none => s
  | some f =>
    if answerValid f station item ready data s then
      attemptEnds f (if ready then .done data else .notReady) s
    else s

/-- The reply timeout runs out (R80). -/
def replyTimesOut (s : State) : State :=
  match s.bus.flight with
  | none => s
  | some f => attemptEnds f .noAnswer s

/-! ## Retry waits and persist timeouts (R82) -/

/-- An entry stands at the front of its queue, behind a walk that has started and so stands first (R82, R83;
assumption 24). -/
def toFront (e : QueueEntry) : List QueueEntry → List QueueEntry
  | [] => [e]
  | x :: rest =>
    match x.op with
    | .walk _ _ true _ => x :: e :: rest
    | _ => e :: x :: rest

/-- The class queue of a retry class. -/
def classQueue : BusClass → Option QueueClass
  | .door => some .door
  | .heat => some .heat
  | .remote => some .remote
  | .poll => none

/-- The retry wait of a queued entry ends (R82). -/
def entryRetryEnds (cls : QueueClass) (place : Nat) (s : State) : State :=
  match (s.bus.queue cls)[place]? with
  | some e =>
    if e.inRetryWait then
      arbitrate (s.modBus fun b =>
        b.withQueue cls (toFront { e with phase := .waiting } ((b.queue cls).eraseIdx place)))
    else s
  | none => s

/-- A retry wait ends (R82, R85). -/
def retryEnds (c : BusClass) (place : Nat) (s : State) : State :=
  match classQueue c with
  | some cls => entryRetryEnds cls place s
  | none =>
    if s.bus.pollRetry.isSome then arbitrate (s.modBus fun b => { b with pollRetry := none }) else s

/-- A persist timeout that runs. -/
def Persist.isRunning : Persist → Bool
  | .running _ => true
  | _ => false

/-- The persist timeout of a queued entry runs out: in flight it is marked, else the transaction ends
TIMEOUT (R82; assumption 22). -/
def entryPersistEnds (cls : QueueClass) (place : Nat) (s : State) : State :=
  match (s.bus.queue cls)[place]? with
  | some e =>
    if !e.persist.isRunning then s
    else if e.phase = .inFlight then changeEntry cls place (fun e => { e with persist := .expired }) s
    else arbitrate (endEntry cls place e .timeout s)
  | none => s

/-- Whether a poll read is in flight. -/
def pollInFlight (s : State) : Bool :=
  match s.bus.flight with
  | some (.poll _ _ _) => true
  | _ => false

/-- The persist timeout of the poll entry runs out (R82, R90, R92). -/
def pollPersistEnds (s : State) : State :=
  if !s.bus.pollPersist.isRunning then s
  else if pollInFlight s then s.modBus fun b => { b with pollPersist := .expired }
  else match s.bus.pointer.bind fun i => (s.store.content.polls[i]?).map fun e => (e, i + 1) with
    | some (e, number) =>
      arbitrate (applyPoll e number .withdrawn (advancePointer (countTimeout s)))
    | none => s.modBus fun b => { b with pollPersist := .unstarted }

/-- A persist timeout runs out (R82). -/
def persistEnds (c : BusClass) (place : Nat) (s : State) : State :=
  match classQueue c with
  | some cls => entryPersistEnds cls place s
  | none => pollPersistEnds s

end Sys2Proof.Machine
end

