-- ==== Sys2Proof/Machine/Receive.lean ====
section
/-! DEFINITION. Received frames: the port by its link state (R3, R29, R35), the Relay Unit's header,
acceptance, payload and direction checks (R4, R5, R6, R198), delivery and forwarding (R7 to R11), and the
command that received bytes stand for. -/

namespace Sys2Proof.Machine

open Sys2Proof

/-! ## The header check (R4) -/

/-- The destination class of each kind that reaches the Relay Unit (R2). -/
def destinationOk (kind destination : Byte) : Bool :=
  if kind = Config.kindChange ∨ kind = Config.kindDoorRelease ∨ kind = Config.kindDoorClose then
    decide (destination = 255#8)
  else if kind = Config.kindRequest ∨ kind = Config.kindReply then
    decide (1 ≤ destination.toNat ∧ destination.toNat ≤ 32)
  else if kind = Config.kindNotice then decide (destination = 1#8)
  else decide (destination = 0#8)

/-- The kinds of R2 that reach the Relay Unit. -/
def relayKinds : List Byte :=
  [Config.kindChange, Config.kindCount, Config.kindRoll, Config.kindConfirm, Config.kindSweepOut,
   Config.kindSweepBack, Config.kindDoorRelease, Config.kindDoorClose, Config.kindRequest,
   Config.kindReply, Config.kindNotice]

/-- The header check of the Relay Unit (R4). -/
def headerOk (f : Frame) : Bool :=
  decide (f.kind ∈ relayKinds)
    && decide (f.header.flags.getLsbD 0 = !isNormalKind f.kind)
    && destinationOk f.kind f.header.destination
    && decide (f.header.source.toNat ≤ 32)

/-- A header error, of the header or of a payload the Relay Unit checks (R4, R198). -/
def headerError (s : State) : State :=
  s.modRelay fun r => { r with headerError := satInc r.headerError }

/-! ## Acceptance (R5) -/

/-- The kinds that need the node SETTLED in the frame's generation (R5). -/
def needsGeneration (kind : Byte) : Bool :=
  decide (kind ∈ [Config.kindRequest, Config.kindReply, Config.kindNotice, Config.kindDoorRelease,
    Config.kindSweepOut, Config.kindSweepBack])

/-- The generation-refusal counter of a kind (R5, R20). -/
def Relay.refuseKind (kind : Byte) (r : Relay) : Relay :=
  if kind = Config.kindRequest then { r with refusedRequest := satInc r.refusedRequest }
  else if kind = Config.kindReply then { r with refusedReply := satInc r.refusedReply }
  else if kind = Config.kindNotice then { r with refusedNotice := satInc r.refusedNotice }
  else if kind = Config.kindDoorRelease then { r with refusedRelease := satInc r.refusedRelease }
  else if kind = Config.kindSweepOut then { r with refusedSweepOut := satInc r.refusedSweepOut }
  else if kind = Config.kindSweepBack then { r with refusedSweepBack := satInc r.refusedSweepBack }
  else r

/-- A frame that came on the wrong port (R6). -/
def wrongDirection (s : State) : State :=
  s.modRelay fun r => { r with wrongDirection := satInc r.wrongDirection }

/-- A repeat that is not delivered (R10, R11). -/
def countRepeat (s : State) : State := s.modRelay fun r => { r with repeats := satInc r.repeats }

/-! ## Delivery and forwarding (R7 to R11) -/

/-- A broadcast goes on as it was received through the other port, where that carries it (R9). -/
def forward (p : PortId) (f : Frame) (s : State) : State := offerIfCarrying p.other f s

/-- A CHANGE (R9, R10, R43, R198). -/
def relayChange (p : PortId) (f : Frame) (s : State) : State :=
  match readChange f.payload with
  | none => headerError s
  | some id =>
    let s := forward p f s
    if s.relay.knows id then countRepeat s
    else applyChange (s.modRelay (Relay.enterChange id))

/-- A DOOR-RELEASE (R6, R9, R11, R120, R198). -/
def relayRelease (p : PortId) (f : Frame) (s : State) : State :=
  match readRelease f.payload with
  | none => headerError s
  | some r =>
    if p ≠ s.headPort then wrongDirection s
    else
      let s := forward p f s
      if s.relay.lastSerial = some r.serial then countRepeat s
      else
        applyRelease r f.header.generation
          (s.modRelay fun y => { y with lastSerial := some r.serial })

/-- A DOOR-CLOSE (R9, R117, R123, R198). -/
def relayClose (p : PortId) (f : Frame) (s : State) : State :=
  match readClose f.payload with
  | none => headerError s
  | some c =>
    let usable := if s.settledIn f.header.generation then s.orientation else none
    applyClose c usable (forward p f s)

/-- One more sweep mismatch (R78, R198). -/
def sweepMismatch (s : State) : State :=
  s.modSweep fun w => { w with mismatch := satInc w.mismatch }

/-- A SWEEP-OUT (R6, R69, R198). -/
def relaySweepOut (p : PortId) (f : Frame) (s : State) : State :=
  if p ≠ s.headPort then wrongDirection s
  else match readSweepOut f.payload with
    | none => sweepMismatch s
    | some w => if s.actsAsHead then sweepMismatch s else sweepOutward w s

/-- A SWEEP-BACK (R6, R71, R72, R198). -/
def relaySweepBack (p : PortId) (f : Frame) (s : State) : State :=
  if p ≠ s.tailPort then wrongDirection s
  else match readSweepBack f.payload with
    | none => sweepMismatch s
    | some w =>
      if s.actsAsHead then headReturn w s
      else if s.sweep.matchesReturn w.sequence then matchedReturn w s
      else unmatchedReturn w f.payload s

/-- A REQUEST, REPLY or NOTICE: delivered at its position, else routed (R8). -/
def relayAddressed (deliver : Frame → State → State) (f : Frame) (s : State) : State :=
  if f.header.destination.toNat = s.position then deliver f s
  else route { frame := f, mark := .plain } s

/-- A frame that has passed R4 and R5, by its kind (R7, R8, R9). -/
def relayAccepted (p : PortId) (f : Frame) (s : State) : State :=
  if f.kind = Config.kindChange then relayChange p f s
  else if f.kind = Config.kindCount then takeCount p f s
  else if f.kind = Config.kindRoll then takeRoll p f s
  else if f.kind = Config.kindConfirm then takeConfirm f s
  else if f.kind = Config.kindSweepOut then relaySweepOut p f s
  else if f.kind = Config.kindSweepBack then relaySweepBack p f s
  else if f.kind = Config.kindDoorRelease then relayRelease p f s
  else if f.kind = Config.kindDoorClose then relayClose p f s
  else if f.kind = Config.kindRequest then relayAddressed deliverRequest f s
  else if f.kind = Config.kindReply then relayAddressed (fun f => deliverReply f .plain) f s
  else relayAddressed deliverNotice f s

/-- A frame a port passes to the Relay Unit (R4, R5). -/
def relayFrame (p : PortId) (f : Frame) (s : State) : State :=
  if !headerOk f then headerError s
  else if needsGeneration f.kind && !s.settledIn f.header.generation then
    s.modRelay (Relay.refuseKind f.kind)
  else relayAccepted p f s

/-! ## The port (R3, R25, R27, R35) -/

/-- A frame that fails R3, by the link state (R3, R25, R29, R35). DESIGN CHOICE: in TEST it is counted as
errored and is no arrival of a TEST frame, so a running quiet time runs on (R36; assumption 59). -/
def erroredFrame (p : PortId) (s : State) : State :=
  match (s.port p).link with
  | .up => countErrored p s
  | .settling => s.modPort p fun q => { q with settle := { q.settle with candidate := none, count := 0 } }
  | .test =>
    s.modPort p fun q =>
      { q with run := q.run.map fun r => { r with errored := r.errored + 1 } }
  | .down | .glitch => s

/-- The valid HELLO a frame carries (R24). -/
def validHello (f : Frame) (s : State) : Option (Neighbour × HelloVariant) :=
  match readHello f.payload with
  | some (who, v) => if helloHeaderOk s f.header who then some (who, v) else none
  | none => none

/-- A frame that passes R3 in UP (R3, R7, R27). -/
def upFrame (p : PortId) (f : Frame) (s : State) : State :=
  let s := s.modPort p Port.countGood
  if f.kind = Config.kindHello then
    match validHello f s with
    | some (who, v) => supervise p who v s
    | none => s
  else if f.kind = Config.kindTest then s
  else relayFrame p f s

/-- A frame that passes R3 in SETTLING: a valid HELLO acts on the settle progress (R3, R25). -/
def settlingFrame (p : PortId) (f : Frame) (s : State) : State :=
  if f.kind = Config.kindHello then
    match validHello f s with
    | some (who, _) => settleHello p who s
    | none => s
  else s

/-- A frame arrives at a port (R3). -/
def receive (p : PortId) (f : Frame) (s : State) : State :=
  if !payloadPasses f then erroredFrame p s
  else match (s.port p).link with
    | .up => upFrame p f s
    | .settling => settlingFrame p f s
    | .test => if f.kind = Config.kindTest then testArrives p f.payload s else s
    | .down | .glitch => s

/-! ## The command received bytes stand for -/

/-- The command of a HELLO by its variant byte (section 12.2). -/
def helloCommand (p : PortId) (h : Header) (payload : List Byte) : Instr :=
  match (payload.getD 8 0#8).toNat with
  | 1 => .testOffer p h payload
  | 2 => .testAccept p h payload
  | 3 => .testRefused p h payload
  | _ => .hello p h payload

/-- The command of a frame by its kind (section 12.2). -/
def frameCommand (p : PortId) (f : Frame) : Instr :=
  match f.kind.toNat with
  | 0x01 => helloCommand p f.header f.payload
  | 0x02 => .test p f.header f.payload
  | 0x03 => .change p f.header f.payload
  | 0x04 => .count p f.header f.payload
  | 0x05 => .roll p f.header f.payload
  | 0x06 => .confirm p f.header f.payload
  | 0x07 => .sweepOut p f.header f.payload
  | 0x08 => .sweepBack p f.header f.payload
  | 0x09 => .doorReleaseFrame p f.header f.payload
  | 0x0A => .doorCloseFrame p f.header f.payload
  | 0x0B => .request p f.header f.payload
  | 0x0C => .reply p f.header f.payload
  | 0x0D => .notice p f.header f.payload
  | _ => .frameUnknownKind p f.kind f.header f.payload

/-- The command the bytes of one received frame stand for: FRAME_ERRORED where they fail R3. -/
def wireCommand (p : PortId) (bytes : List Byte) : Instr :=
  match wireFrame bytes with
  | some f => frameCommand p f
  | none => .frameErrored p

end Sys2Proof.Machine
end

