-- ==== Sys2Proof/Machine/Resets.lean ====
section
/-! DEFINITION. Power and reset: what every block takes at power-on and at a node reset, the end of power,
and the ends of store writes, which may hold a reset back (R21, R37, R63, R173, R175, R183 to R185,
R196). -/

namespace Sys2Proof.Machine

open Sys2Proof

/-- A line port after a node reset: as after power-on, with the drop interval running and the neighbour's
signal as it is (R21, R22). -/
def Port.resetNode (q : Port) : Port :=
  { Port.reset with signal := q.signal, dropInterval := some Config.dropIntervalMs }

/-- The blocks that start from the live content take it as loaded (R79, R92, R115, R136, R150, R151). -/
def startBlocks (s : State) : State :=
  let c := s.store.content
  let s := s.modBus fun b => { b with records := freshRecords c.polls }
  let s := s.modDoor fun d =>
    { d with
      leaves := c.leaves.map fun _ => Leaf.fresh c
      headless := .running (c.headlessDelay * 1000) }
  commandAllOff (s.modHeat fun h => { h with groups := c.groups.map fun _ => Group.fresh })

/-- Every block takes its values after power-on or node reset, and the stored record is loaded; the
ports, the change counter and the protection mode are as given (R37, R65, R79, R102, R115, R140, R150,
R173, R175, R186). -/
def resetBlocks (lp1 lp2 : Port) (changeCounter : Byte) (mode : Protection) (s : State) : State :=
  let s :=
    { s with
      proven := false
      lp1 := lp1
      lp2 := lp2
      relay := Relay.reset
      consist := { Consist.reset with changeCounter := changeCounter }
      sweep := Sweep.reset
      bus := Bus.reset
      req := Req.reset
      door := Door.reset
      heat := Heat.reset
      store := { s.store with mode := mode } }
  startBlocks (loadRecord s)

/-- The node after the end of power: a record write in progress is left torn, a setting write leaves the
setting unreadable (R183, R185). -/
def losePower (s : State) : State :=
  let n := s.freeCount
  let s :=
    match s.store.state with
    | .writing =>
      (s.modStore fun r =>
        { r with
          stored := tornImage n
          storedMark := .whole }).drawFree
    | .setting => s.modStore fun r => { r with storedSetting := none }
    | .idle | .awaitingDoors => s
  { s with powered := false, proven := false }

/-- Power-on (R175, R184). Power-on of a node that has power is the end of its power first
(assumption 5). -/
def gainPower (pins : Pins) (s : State) : State :=
  let s := if s.powered then losePower s else s
  let s := { s with powered := true, pins := pins }
  driveProven (resetBlocks Port.reset Port.reset 0#8 (settingOf s.store.storedSetting) s)

/-- The protection mode after a node reset (R184). -/
def modeAfterReset (r : Store) : Protection := if r.mode = .held then .held else settingOf r.storedSetting

/-- A node reset takes place (R63, R175, R196). -/
def resetNow (s : State) : State :=
  resetBlocks s.lp1.resetNode s.lp2.resetNode s.consist.changeCounter (modeAfterReset s.store) s

/-- A node reset is due: held back while the store writes (R183, R185, R196). -/
def resetWhenDue (s : State) : State :=
  if !s.req.resetPending then s
  else if s.store.state = .writing ∨ s.store.state = .setting then
    s.modReq fun r => { r with resetHeld := true }
  else resetNow s

/-- The record write ends (R181); with a reset held back it takes place without the read-back (R183). -/
def recordWriteEnds (readBack : List Byte) (s : State) : State :=
  if s.store.state = .writing then
    if s.req.resetHeld then
      resetNow (s.modStore fun r => { r with stored := toImage readBack, storedMark := .whole })
    else writeEnds readBack s
  else s

/-- The setting write ends (R185); a reset held back takes place. -/
def settingWriteEnds (s : State) : State :=
  if s.store.state = .setting then
    let s := s.modStore fun r =>
      { r with storedSetting := some r.mode, state := .idle, writeTimer := none }
    if s.req.resetHeld then resetNow s else s
  else s

end Sys2Proof.Machine
end

