-- ==== Sys2Proof/Machine/Time.lean ====
section
/-! DEFINITION. Time in the model (assumptions 1, 6, 16, 34): one idle millisecond of every timer, and the
command of the first event that is due. Each run-out is one of the commands of the table. -/

namespace Sys2Proof.Machine

open Sys2Proof

/-! ## One millisecond -/

/-- A timer after one millisecond. -/
def tickTimer (t : Option Nat) : Option Nat := t.map (· - 1)

/-- The offer timer after one millisecond. -/
def Offer.tick : Offer → Offer
  | .pending n t => .pending n (tickTimer t)
  | o => o

/-- The timers of a port after one millisecond. -/
def Port.tick (q : Port) : Port :=
  { q with
    dropInterval := tickTimer q.dropInterval
    contactHoldoff := tickTimer q.contactHoldoff
    settle := { q.settle with time := tickTimer q.settle.time }
    silence := tickTimer q.silence
    helloTimer := tickTimer q.helloTimer
    glitchTimer := tickTimer q.glitchTimer
    offer := q.offer.tick
    run := q.run.map fun r => { r with quiet := tickTimer r.quiet }
    dropHoldoff := tickTimer q.dropHoldoff }

/-- The life of the change-id list after one millisecond. -/
def Relay.tick (r : Relay) : Relay :=
  { r with changeIds := r.changeIds.map fun e => { e with left := e.left - 1 } }

/-- The timers of the Consist Unit after one millisecond. -/
def Consist.tick (c : Consist) : Consist :=
  { c with
    copies := c.copies.map fun x => { x with timer := x.timer - 1 }
    wait := match c.wait with
      | .running n => .running (n - 1)
      | w => w
    rollTimer := tickTimer c.rollTimer
    holdTimer := tickTimer c.holdTimer
    retryTimer := tickTimer c.retryTimer }

/-- The timers of the Sweep Unit after one millisecond. -/
def Sweep.tick (w : Sweep) : Sweep :=
  { w with periodTimer := tickTimer w.periodTimer, freshness := tickTimer w.freshness }

/-- A persist timeout after one millisecond. -/
def Persist.tick : Persist → Persist
  | .running n => .running (n - 1)
  | p => p

/-- A queue entry after one millisecond. -/
def QueueEntry.tick (e : QueueEntry) : QueueEntry :=
  { e with
    phase := match e.phase with
      | .retryWait n => .retryWait (n - 1)
      | p => p
    persist := e.persist.tick }

/-- The timers of the Coach Bus Controller after one millisecond. -/
def Bus.tick (b : Bus) : Bus :=
  { b with
    doorQueue := b.doorQueue.map QueueEntry.tick
    heatQueue := b.heatQueue.map QueueEntry.tick
    remoteQueue := b.remoteQueue.map QueueEntry.tick
    pollRetry := tickTimer b.pollRetry
    pollPersist := b.pollPersist.tick
    replyTimer := tickTimer b.replyTimer
    roundTimer := tickTimer b.roundTimer
    overrunHoldoff := tickTimer b.overrunHoldoff }

/-- The timers of the Request Unit after one millisecond. -/
def Req.tick (r : Req) : Req :=
  { r with
    remotes := r.remotes.map fun e => { e with deadline := e.deadline - 1 }
    spacing := tickTimer r.spacing
    resetTimer := tickTimer r.resetTimer }

/-- The timers of the Door Unit after one millisecond. -/
def Door.tick (d : Door) : Door :=
  { d with
    leaves := d.leaves.map fun l => { l with timer := tickTimer l.timer }
    headless := match d.headless with
      | .running n => .running (n - 1)
      | h => h }

/-- A phase of the pending increase after one millisecond. -/
def IncreasePhase.tick : IncreasePhase → IncreasePhase
  | .waiting n => .waiting (n - 1)
  | .staggering n => .staggering (n - 1)

/-- The timers of the Heat Unit after one millisecond. -/
def Heat.tick (h : Heat) : Heat :=
  { h with
    increase := h.increase.map fun i => { i with phase := i.phase.tick }
    hold := tickTimer h.hold }

/-- The node after one millisecond in which no event is taken. -/
def tick (s : State) : State :=
  { s with
    lp1 := s.lp1.tick
    lp2 := s.lp2.tick
    relay := s.relay.tick
    consist := s.consist.tick
    sweep := s.sweep.tick
    bus := s.bus.tick
    req := s.req.tick
    door := s.door.tick
    heat := s.heat.tick
    store := { s.store with writeTimer := tickTimer s.store.writeTimer } }

/-! ## What is due -/

/-- A timer that has run out gives its command. -/
def dueAt (t : Option Nat) (i : Instr) : Option Instr := if t = some 0 then some i else none

/-- The events of a port that are due. -/
def portDue (p : PortId) (q : Port) : List (Option Instr) :=
  [dueAt q.contactHoldoff (.contactHoldoffEnd p),
   dueAt q.dropInterval (.dropIntervalEnd p),
   dueAt q.settle.time (.settleTimeReached p),
   dueAt q.silence (.silenceTimeout p),
   dueAt q.glitchTimer (.glitchToleranceExpiry p),
   (match q.offer with
    | .pending _ t => dueAt t (.offerTimeout p)
    | _ => none),
   dueAt (q.run.bind TestRun.quiet) (.testQuietTimeout p),
   dueAt q.dropHoldoff (.queueDropHoldoffEnd p),
   dueAt q.helloTimer (.helloTimer p),
   (if q.testDue ∧ q.link = .up ∧ q.transmitter = none then some (.testEntry p) else none)]

/-- The events of the Relay and Consist Units that are due. -/
def consistDue (s : State) : List (Option Instr) :=
  s.relay.changeIds.map (fun e => dueAt (some e.left) (.changeIdExpiry e.id))
    ++ s.consist.copies.map (fun c => dueAt (some c.timer) (.changeRepeat c.counter))
    ++ [(match s.consist.wait with
         | .running 0 => some .censusWaitExpiry
         | _ => none),
        dueAt s.consist.rollTimer .rollTimeout,
        dueAt s.consist.holdTimer .censusHoldTimeout,
        dueAt s.consist.retryTimer .retryTimeout]

/-- What is left of an entry's retry wait. -/
def EntryPhase.left : EntryPhase → Option Nat
  | .retryWait n => some n
  | _ => none

/-- What is left of a persist timeout. -/
def Persist.left : Persist → Option Nat
  | .running n => some n
  | _ => none

/-- The retry waits and persist timeouts of a queue that are due. -/
def queueDue (c : BusClass) (q : List QueueEntry) : List (Option Instr) :=
  (q.mapIdx fun i e =>
    [dueAt e.persist.left (.persistTimeout c i), dueAt e.phase.left (.retryWaitEnd c i)]).flatten

/-- The events of the Coach Bus Controller that are due. -/
def busDue (b : Bus) : List (Option Instr) :=
  [dueAt b.replyTimer .busReplyTimeout]
    ++ queueDue .door b.doorQueue ++ queueDue .heat b.heatQueue ++ queueDue .remote b.remoteQueue
    ++ [dueAt b.pollPersist.left (.persistTimeout .poll 0), dueAt b.pollRetry (.retryWaitEnd .poll 0),
        dueAt b.overrunHoldoff .roundOverrunHoldoffEnd, dueAt b.roundTimer .roundTimerRunout]

/-- The run-out of a leaf timer by the leaf's state (R127, R128, R130). -/
def leafDue (k : Nat) (l : Leaf) : Option Instr :=
  match l.state with
  | .warning => dueAt l.timer (.warningTimeEnd k)
  | .closing => dueAt l.timer (.closeConfirmTimeout k)
  | .reopening => dueAt l.timer (.reopenDwellEnd k)
  | .start | .closed | .released | .fault | .isolated => none

/-- The events of the Door and Heat Units that are due. -/
def doorHeatDue (s : State) : List (Option Instr) :=
  s.door.leaves.mapIdx (fun i l => leafDue (i + 1) l)
    ++ [(match s.door.headless with
         | .running 0 => some .headlessCloseDelayExpiry
         | _ => none),
        (match s.heat.increase with
         | some { targets := _, phase := .waiting 0 } => some .increaseWaitExpiry
         | some { targets := _, phase := .staggering 0 } => some .staggerDelayEnd
         | _ => none),
        dueAt s.heat.hold .heatHoldExpiry]

/-- The events of the Record Store and of a pending reset that are due. The end of a write is due at the
latest time the rules give it, and then finds in the store what was written (assumption 16). -/
def storeDue (s : State) : List (Option Instr) :=
  [(match s.store.state with
    | .writing => dueAt s.store.writeTimer (.recordWriteEnd s.store.edit)
    | .setting => dueAt s.store.writeTimer .settingWriteEnd
    | .awaitingDoors => if doorsAtRest s then some .recordLive else none
    | .idle => none),
   (if s.req.resetPending ∧ !s.req.resetHeld ∧ (s.req.resetDue ∨ s.req.resetTimer = some 0) then
      some .nodeReset
    else none)]

/-- Every event that is due, in a fixed order (assumption 34). -/
def dueList (s : State) : List (Option Instr) :=
  storeDue s ++ portDue .lp1 s.lp1 ++ portDue .lp2 s.lp2 ++ busDue s.bus ++ doorHeatDue s
    ++ consistDue s
    ++ [dueAt s.sweep.freshness .freshnessExpiry, dueAt s.sweep.periodTimer .periodTimerRunout,
        dueAt s.req.spacing .noticeSpacingEnd]

/-- The first event that is due. -/
def dueCommand (s : State) : Option Instr := (dueList s).findSome? id

/-- What the node does while no command waits: the first event that is due is commanded, else one
millisecond passes; without power nothing happens (assumption 1). -/
def idle (s : State) : State :=
  if s.powered then
    match dueCommand s with
    | some i => { s with pending := [i] }
    | none => tick s
  else s

end Sys2Proof.Machine
end

