-- ==== Sys2Proof/Machine/Live.lean ====
section
/-! DEFINITION. What every command of a node with power shares: its effect, then one look at notice
forwarding (R193; assumption 11) and the PROVEN output following its source (R148). Without power only
POWER_ON acts (assumption 5). -/

namespace Sys2Proof.Machine

open Sys2Proof

/-- The end of a command (R148, R193). -/
def finish (s : State) : State := driveProven (forwardNotices s)

/-- The state after a command of a node that may be without power. -/
def liveState (f : State → State) (s : State) : State := if s.powered then finish (f s) else s

/-- A command of a node that may be without power. -/
def live (f : State → State) (s : State) : Host.Outcome State Fault Refusal := .next (liveState f s)

/-- A command whose event cannot occur while the condition fails has no effect then (assumption 4). -/
def onlyIf (c : Bool) (f : State → State) (s : State) : State := if c then f s else s

end Sys2Proof.Machine
end

