-- ==== Sys2Proof/Machine/BusCommands.lean ====
section
/-! DEFINITION. The events of the coach bus (R80, R82, R89, R91). -/

namespace Sys2Proof.Machine

open Sys2Proof

/-- The round timer runs out (R89). -/
def roundTimerEnds (s : State) : State :=
  onlyIf s.bus.roundTimer.isSome (roundStart Config.roundTimerMs) s

/-- The overrun holdoff ends (R91). -/
def overrunHoldoffEnds (s : State) : State := s.modBus fun b => { b with overrunHoldoff := none }

/-- BUS_ANSWER (R80): a station answers. -/
def execBusAnswer (station item : Byte) (ready : Bool) (data : List Byte) (s : State) :
    Host.Outcome State Fault Refusal :=
  live (stationAnswers station item ready data) s

/-- BUS_REPLY_TIMEOUT (R80). -/
def execBusReplyTimeout (s : State) : Host.Outcome State Fault Refusal :=
  live replyTimesOut s

/-- RETRY_WAIT_END (R82). -/
def execRetryWaitEnd (cls : BusClass) (place : Nat) (s : State) :
    Host.Outcome State Fault Refusal :=
  live (retryEnds cls place) s

/-- PERSIST_TIMEOUT (R82). -/
def execPersistTimeout (cls : BusClass) (place : Nat) (s : State) :
    Host.Outcome State Fault Refusal :=
  live (persistEnds cls place) s

/-- ROUND_TIMER_RUNOUT (R89). -/
def execRoundTimerRunout (s : State) : Host.Outcome State Fault Refusal :=
  live roundTimerEnds s

/-- ROUND_OVERRUN_HOLDOFF_END (R91). -/
def execRoundOverrunHoldoffEnd (s : State) : Host.Outcome State Fault Refusal :=
  live overrunHoldoffEnds s

end Sys2Proof.Machine
end

