-- ==== Sys2Proof/Machine/ConsistCommands.lean ====
section
/-! DEFINITION. The timers of the Relay, Consist and Sweep Units (R10, R42, R44, R54, R55, R59, R68, R74). -/

namespace Sys2Proof.Machine

open Sys2Proof

/-- An entry reaches 10 seconds in the change-id list (R10). -/
def changeIdEnds (id : ChangeId) (s : State) : State :=
  s.modRelay fun r => { r with changeIds := r.changeIds.filter fun e => decide (e.id ≠ id) }

/-- The copies still to be sent once one of a counter has been (R42). -/
def sentCopy (counter : Byte) (copies : List ChangeCopies) : List ChangeCopies :=
  (copies.map fun c =>
      if c.counter = counter then { c with copies := c.copies - 1, timer := Config.changeRepeatMs } else c)
    |>.filter fun c => decide (0 < c.copies)

/-- A further copy of a CHANGE is handed to the Relay Unit (R42). -/
def repeatChange (counter : Byte) (s : State) : State :=
  onlyIf (s.consist.copies.any fun c => decide (c.counter = counter))
    (fun s =>
      broadcast (changeFrame s counter)
        (s.modConsist fun c => { c with copies := sentCopy counter c.copies })) s

/-- The roll timer runs out in COUNTING (R54). -/
def rollEnds (s : State) : State :=
  onlyIf s.consist.rollTimer.isSome
    (fun s =>
      let s := s.modConsist fun c => { c with rollTimer := none }
      if s.consist.phase = .counting then failCensus .ok s else s) s

/-- The hold timer runs out in AWAITING-ROLL or HOLDING (R59). -/
def holdEnds (s : State) : State :=
  onlyIf s.consist.holdTimer.isSome
    (fun s =>
      let s := s.modConsist fun c => { c with holdTimer := none }
      if s.consist.phase = .awaitingRoll ∨ s.consist.phase = .holding then
        leaveCensus (s.modConsist fun c => { c with phase := .none })
      else s) s

/-- The census wait runs out (R44). -/
def waitEnds (s : State) : State :=
  match s.consist.wait, s.consist.state with
  | .running _, .stale => enterUnknown s
  | .running _, .pending => s.modConsist fun c => { c with wait := .expired }
  | .running _, .settled | .running _, .unknown => s.modConsist fun c => { c with wait := .stopped }
  | .stopped, _ | .expired, _ => s

/-- The retry timer runs out (R55). -/
def retryTimerEnds (s : State) : State :=
  onlyIf s.consist.retryTimer.isSome
    (fun s =>
      let s := s.modConsist fun c => { c with retryTimer := none }
      if s.actsAsHead && !s.consist.conflictHold then startCensus s else s) s

/-- The period timer runs out (R68, R73). -/
def periodEnds (s : State) : State :=
  onlyIf s.sweep.periodTimer.isSome
    (fun s =>
      if s.confirmedHead then periodRunsOut s
      else s.modSweep fun w => { w with periodTimer := none }) s

/-- The freshness timer runs out: the latched bits are stale (R74). -/
def freshnessEnds (s : State) : State := s.modSweep fun w => { w with freshness := none }

/-- CHANGE_ID_EXPIRY (R10). -/
def execChangeIdExpiry (id : ChangeId) (s : State) : Host.Outcome State Fault Refusal :=
  live (changeIdEnds id) s

/-- CHANGE_REPEAT (R42). -/
def execChangeRepeat (counter : Byte) (s : State) : Host.Outcome State Fault Refusal :=
  live (repeatChange counter) s

/-- ROLL_TIMEOUT (R54). -/
def execRollTimeout (s : State) : Host.Outcome State Fault Refusal :=
  live rollEnds s

/-- CENSUS_HOLD_TIMEOUT (R59). -/
def execCensusHoldTimeout (s : State) : Host.Outcome State Fault Refusal :=
  live holdEnds s

/-- CENSUS_WAIT_EXPIRY (R44). -/
def execCensusWaitExpiry (s : State) : Host.Outcome State Fault Refusal :=
  live waitEnds s

/-- RETRY_TIMEOUT (R55). -/
def execRetryTimeout (s : State) : Host.Outcome State Fault Refusal :=
  live retryTimerEnds s

/-- PERIOD_TIMER_RUNOUT (R68, R73). -/
def execPeriodTimerRunout (s : State) : Host.Outcome State Fault Refusal :=
  live periodEnds s

/-- FRESHNESS_EXPIRY (R74). -/
def execFreshnessExpiry (s : State) : Host.Outcome State Fault Refusal :=
  live freshnessEnds s

end Sys2Proof.Machine
end

