-- ==== Sys2Proof/Machine/DoorHeatCommands.lean ====
section
/-! DEFINITION. The timers of the Door and Heat Units (R126 to R130, R162, R163, R165). -/

namespace Sys2Proof.Machine

open Sys2Proof

/-- Whether leaf `k` is in a state with its timer running (R118). -/
def leafTimerRuns (k : Nat) (st : LeafState) (s : State) : Bool :=
  match s.leaf k with
  | some l => decide (l.state = st) && l.timer.isSome
  | none => false

/-- The warning time runs out (R127). -/
def warningEnds (k : Nat) (s : State) : State :=
  onlyIf (leafTimerRuns k .warning s) (enterLeaf k .closing) s

/-- The close confirm time runs out (R128, R129). -/
def closeConfirmEnds (k : Nat) (s : State) : State :=
  onlyIf (leafTimerRuns k .closing s) (closeFailed k) s

/-- The reopen dwell runs out (R130). -/
def dwellEnds (k : Nat) (s : State) : State :=
  onlyIf (leafTimerRuns k .reopening s) (enterLeaf k .closing) s

/-- The headless close delay runs out (R126). -/
def headlessEnds (s : State) : State :=
  match s.door.headless with
  | .running _ => warnReleased (s.modDoor fun d => { d with headless := .expired })
  | .stopped | .expired => s

/-- The WAITING timer of the pending increase runs out (R163). -/
def increaseWaitEnds (s : State) : State :=
  match s.heat.increase with
  | some { targets := _, phase := .waiting _ } => discardIncrease s
  | _ => s

/-- The stagger delay ends (R162). -/
def staggerEnds (s : State) : State :=
  match s.heat.increase with
  | some { targets := _, phase := .staggering _ } => applyIncrease s
  | _ => s

/-- The hold timer runs out (R165). -/
def heatHoldEnds (s : State) : State :=
  onlyIf s.heat.hold.isSome
    (fun s => if s.heat.allotted then holdRunsOut s else s.modHeat fun h => { h with hold := none }) s

/-- WARNING_TIME_END (R127). -/
def execWarningTimeEnd (leaf : Nat) (s : State) : Host.Outcome State Fault Refusal :=
  live (warningEnds leaf) s

/-- CLOSE_CONFIRM_TIMEOUT (R128, R129). -/
def execCloseConfirmTimeout (leaf : Nat) (s : State) : Host.Outcome State Fault Refusal :=
  live (closeConfirmEnds leaf) s

/-- REOPEN_DWELL_END (R130). -/
def execReopenDwellEnd (leaf : Nat) (s : State) : Host.Outcome State Fault Refusal :=
  live (dwellEnds leaf) s

/-- HEADLESS_CLOSE_DELAY_EXPIRY (R126). -/
def execHeadlessCloseDelayExpiry (s : State) : Host.Outcome State Fault Refusal :=
  live headlessEnds s

/-- INCREASE_WAIT_EXPIRY (R163). -/
def execIncreaseWaitExpiry (s : State) : Host.Outcome State Fault Refusal :=
  live increaseWaitEnds s

/-- STAGGER_DELAY_END (R162). -/
def execStaggerDelayEnd (s : State) : Host.Outcome State Fault Refusal :=
  live staggerEnds s

/-- HEAT_HOLD_EXPIRY (R165). -/
def execHeatHoldExpiry (s : State) : Host.Outcome State Fault Refusal :=
  live heatHoldEnds s

end Sys2Proof.Machine
end

