-- ==== Sys2Proof/Machine/FrameCommands.lean ====
section
/-! DEFINITION. Received frames: one command for each kind of frame, and for each variant of HELLO (chapter 1;
R24, R35). -/

namespace Sys2Proof.Machine

open Sys2Proof

/-- FRAME_ERRORED (R3): a frame that fails the check. -/
def execFrameErrored (p : PortId) (s : State) : Host.Outcome State Fault Refusal :=
  live (erroredFrame p) s

/-- FRAME_UNKNOWN_KIND (R4): a frame that passes R3, of a kind the table of R2 does not have. -/
def execFrameUnknownKind (p : PortId) (kind : Byte) (h : Header) (payload : List Byte) (s : State) :
    Host.Outcome State Fault Refusal :=
  live (receive p { kind := kind, header := h, payload := payload }) s

/-- HELLO (R25, R27): a plain HELLO. -/
def execHello (p : PortId) (h : Header) (payload : List Byte) (s : State) :
    Host.Outcome State Fault Refusal :=
  live (receive p { kind := Config.kindHello, header := h, payload := payload }) s

/-- TEST_OFFER (R33): a HELLO with variant TEST-OFFER. -/
def execTestOffer (p : PortId) (h : Header) (payload : List Byte) (s : State) :
    Host.Outcome State Fault Refusal :=
  live (receive p { kind := Config.kindHello, header := h, payload := payload }) s

/-- TEST_ACCEPT (R32): a HELLO with variant TEST-ACCEPT. -/
def execTestAccept (p : PortId) (h : Header) (payload : List Byte) (s : State) :
    Host.Outcome State Fault Refusal :=
  live (receive p { kind := Config.kindHello, header := h, payload := payload }) s

/-- TEST_REFUSED (R32): a HELLO with variant TEST-REFUSED. -/
def execTestRefused (p : PortId) (h : Header) (payload : List Byte) (s : State) :
    Host.Outcome State Fault Refusal :=
  live (receive p { kind := Config.kindHello, header := h, payload := payload }) s

/-- TEST (R35). -/
def execTest (p : PortId) (h : Header) (payload : List Byte) (s : State) :
    Host.Outcome State Fault Refusal :=
  live (receive p { kind := Config.kindTest, header := h, payload := payload }) s

/-- CHANGE (R10, R43). -/
def execChange (p : PortId) (h : Header) (payload : List Byte) (s : State) :
    Host.Outcome State Fault Refusal :=
  live (receive p { kind := Config.kindChange, header := h, payload := payload }) s

/-- COUNT (R49 to R51). -/
def execCount (p : PortId) (h : Header) (payload : List Byte) (s : State) :
    Host.Outcome State Fault Refusal :=
  live (receive p { kind := Config.kindCount, header := h, payload := payload }) s

/-- ROLL (R52 to R54). -/
def execRoll (p : PortId) (h : Header) (payload : List Byte) (s : State) :
    Host.Outcome State Fault Refusal :=
  live (receive p { kind := Config.kindRoll, header := h, payload := payload }) s

/-- CONFIRM (R57, R58). -/
def execConfirm (p : PortId) (h : Header) (payload : List Byte) (s : State) :
    Host.Outcome State Fault Refusal :=
  live (receive p { kind := Config.kindConfirm, header := h, payload := payload }) s

/-- SWEEP_OUT (R69). -/
def execSweepOut (p : PortId) (h : Header) (payload : List Byte) (s : State) :
    Host.Outcome State Fault Refusal :=
  live (receive p { kind := Config.kindSweepOut, header := h, payload := payload }) s

/-- SWEEP_BACK (R71, R72). -/
def execSweepBack (p : PortId) (h : Header) (payload : List Byte) (s : State) :
    Host.Outcome State Fault Refusal :=
  live (receive p { kind := Config.kindSweepBack, header := h, payload := payload }) s

/-- DOOR_RELEASE_FRAME (R11, R120). -/
def execDoorReleaseFrame (p : PortId) (h : Header) (payload : List Byte) (s : State) :
    Host.Outcome State Fault Refusal :=
  live (receive p { kind := Config.kindDoorRelease, header := h, payload := payload }) s

/-- DOOR_CLOSE_FRAME (R123). -/
def execDoorCloseFrame (p : PortId) (h : Header) (payload : List Byte) (s : State) :
    Host.Outcome State Fault Refusal :=
  live (receive p { kind := Config.kindDoorClose, header := h, payload := payload }) s

/-- REQUEST (R8, R109). -/
def execRequest (p : PortId) (h : Header) (payload : List Byte) (s : State) :
    Host.Outcome State Fault Refusal :=
  live (receive p { kind := Config.kindRequest, header := h, payload := payload }) s

/-- REPLY (R8, R110). -/
def execReply (p : PortId) (h : Header) (payload : List Byte) (s : State) :
    Host.Outcome State Fault Refusal :=
  live (receive p { kind := Config.kindReply, header := h, payload := payload }) s

/-- NOTICE (R8, R192). -/
def execNotice (p : PortId) (h : Header) (payload : List Byte) (s : State) :
    Host.Outcome State Fault Refusal :=
  live (receive p { kind := Config.kindNotice, header := h, payload := payload }) s

end Sys2Proof.Machine
end

