-- ==== Sys2Proof/Machine/LinkCommands.lean ====
section
/-! DEFINITION. Link supervision: lock, port timers, the link test and the transmitter (chapter 2; R14, R18). -/

namespace Sys2Proof.Machine

open Sys2Proof

/-- The drop interval ends and lock may be taken (R22, R23). With the contact holdoff it ends with it. -/
def dropIntervalEnds (p : PortId) (s : State) : State :=
  onlyIf ((s.port p).dropInterval.isSome && (s.port p).contactHoldoff.isNone)
    (fun s => tryLock p (s.modPort p fun q => { q with dropInterval := none })) s

/-- The contact holdoff ends, and the drop interval with it (R22, R23, R29). -/
def contactHoldoffEnds (p : PortId) (s : State) : State :=
  onlyIf (s.port p).contactHoldoff.isSome
    (fun s => tryLock p (s.modPort p fun q => { q with dropInterval := none, contactHoldoff := none })) s

/-- The settle time is reached (R25). -/
def settleTimeEnds (p : PortId) (s : State) : State :=
  onlyIf (s.port p).settle.time.isSome
    (fun s => checkSettled p (s.modPort p fun q => { q with settle := { q.settle with time := none } })) s

/-- The HELLO timer falls due: a plain HELLO, and the timer again (R24). -/
def helloDue (p : PortId) (s : State) : State :=
  onlyIf (s.port p).helloTimer.isSome
    (fun s =>
      sendHello p .plain .plain
        (s.modPort p fun q =>
          { q with
            helloTimer :=
              some (if q.link = .settling then Config.helloSettlingMs else Config.helloUpMs) })) s

/-- The silence timer runs out in UP or GLITCH (R27). -/
def silenceEnds (p : PortId) (s : State) : State :=
  onlyIf ((s.port p).silence.isSome && (s.port p).carries) (portDown p .silent false) s

/-- The glitch tolerance runs out (R28). -/
def glitchEnds (p : PortId) (s : State) : State :=
  onlyIf (decide ((s.port p).link = .glitch)) (portDown p .uncoupled false) s

/-- The offer timer runs out (R32). -/
def offerEnds (p : PortId) (s : State) : State :=
  refuseOffer p s

/-- TEST is due, the port is UP and its transmitter is free: the port enters TEST (R34). -/
def testDueEnters (p : PortId) (s : State) : State :=
  let q := s.port p
  if q.testDue = true ∧ q.link = .up ∧ q.transmitter = none then
    match q.offer.frames with
    | some n => enterTest p n s
    | none => pump p (s.modPort p fun q => { q with testDue := false })
  else s

/-- The quiet time after the last own TEST frame runs out (R36). -/
def testQuietEnds (p : PortId) (s : State) : State :=
  match (s.port p).run with
  | some r => if r.quiet.isSome then finishTest p r .complete s else s
  | none => s

/-- The transmitter finishes a frame and the arbiter hands it the next (R14). The end of a TEST frame is
TEST_FRAME_SENT. -/
def transmitEnds (p : PortId) (s : State) : State :=
  match (s.port p).link, (s.port p).transmitter with
  | .test, _ => s
  | _, some e => pump p (laneFrameGone p e (s.modPort p fun q => { q with transmitter := none }))
  | _, none => s

/-- The QUEUE-DROP holdoff ends (R18). -/
def dropHoldoffEnds (p : PortId) (s : State) : State :=
  s.modPort p fun q => { q with dropHoldoff := none }

/-- LOCK_GAINED (R23, R28). -/
def execLockGained (p : PortId) (s : State) : Host.Outcome State Fault Refusal :=
  live (gainLock p) s

/-- LOCK_LOST (R25, R28, R36). -/
def execLockLost (p : PortId) (s : State) : Host.Outcome State Fault Refusal :=
  live (loseLock p) s

/-- DROP_INTERVAL_END (R22, R23). -/
def execDropIntervalEnd (p : PortId) (s : State) : Host.Outcome State Fault Refusal :=
  live (dropIntervalEnds p) s

/-- CONTACT_HOLDOFF_END (R29, R23). -/
def execContactHoldoffEnd (p : PortId) (s : State) : Host.Outcome State Fault Refusal :=
  live (contactHoldoffEnds p) s

/-- SETTLE_TIME_REACHED (R25). -/
def execSettleTimeReached (p : PortId) (s : State) : Host.Outcome State Fault Refusal :=
  live (settleTimeEnds p) s

/-- HELLO_TIMER (R24). -/
def execHelloTimer (p : PortId) (s : State) : Host.Outcome State Fault Refusal :=
  live (helloDue p) s

/-- SILENCE_TIMEOUT (R27). -/
def execSilenceTimeout (p : PortId) (s : State) : Host.Outcome State Fault Refusal :=
  live (silenceEnds p) s

/-- GLITCH_TOLERANCE_EXPIRY (R28). -/
def execGlitchToleranceExpiry (p : PortId) (s : State) : Host.Outcome State Fault Refusal :=
  live (glitchEnds p) s

/-- OFFER_TIMEOUT (R32). -/
def execOfferTimeout (p : PortId) (s : State) : Host.Outcome State Fault Refusal :=
  live (offerEnds p) s

/-- TEST_ENTRY (R34). -/
def execTestEntry (p : PortId) (s : State) : Host.Outcome State Fault Refusal :=
  live (testDueEnters p) s

/-- TEST_FRAME_SENT (R35, R36). -/
def execTestFrameSent (p : PortId) (s : State) : Host.Outcome State Fault Refusal :=
  live (testSent p) s

/-- TEST_QUIET_TIMEOUT (R36). -/
def execTestQuietTimeout (p : PortId) (s : State) : Host.Outcome State Fault Refusal :=
  live (testQuietEnds p) s

/-- QUEUE_DROP_HOLDOFF_END (R18). -/
def execQueueDropHoldoffEnd (p : PortId) (s : State) : Host.Outcome State Fault Refusal :=
  live (dropHoldoffEnds p) s

/-- TRANSMIT_END (R14). -/
def execTransmitEnd (p : PortId) (s : State) : Host.Outcome State Fault Refusal :=
  live (transmitEnds p) s

end Sys2Proof.Machine
end

