-- ==== Sys2Proof/Machine/Power.lean ====
section
/-! DEFINITION. The supplies, the reset and the input pins: POWER_ON, POWER_FAIL, NODE_RESET, STANDSTILL_FALL,
SUPPLY_FALL (R124, R163, R175, R183, R196). -/

namespace Sys2Proof.Machine

open Sys2Proof

/-- POWER_ON (R175): the supplies become valid, with the input levels as they are. -/
def execPowerOn (pins : Pins) (s : State) : Host.Outcome State Fault Refusal :=
  .next (gainPower pins s)

/-- POWER_FAIL (R183, R185). -/
def execPowerFail (s : State) : Host.Outcome State Fault Refusal :=
  .next (if s.powered then losePower s else s)

/-- NODE_RESET (R196, R183, R185). -/
def execNodeReset (s : State) : Host.Outcome State Fault Refusal :=
  live resetWhenDue s

/-- The STANDSTILL input falls (R124). -/
def standstillFalls (s : State) : State :=
  onlyIf s.pins.standstill
    (fun s => warnReleased { s with pins := { s.pins with standstill := false } }) s

/-- The SUPPLY input falls (R163, R171). -/
def supplyFalls (s : State) : State :=
  onlyIf s.pins.supply
    (fun s => discardIncrease { s with pins := { s.pins with supply := false } }) s

/-- STANDSTILL_FALL (R124). -/
def execStandstillFall (s : State) : Host.Outcome State Fault Refusal :=
  live standstillFalls s

/-- SUPPLY_FALL (R163). -/
def execSupplyFall (s : State) : Host.Outcome State Fault Refusal :=
  live supplyFalls s

end Sys2Proof.Machine
end

