-- ==== Sys2Proof/Machine/RequestCommands.lean ====
section
/-! DEFINITION. Host frames, the notice spacing, and one command for each request at the node that executes it
(chapters 6 and 11 and the chapters that own the requests). -/

namespace Sys2Proof.Machine

open Sys2Proof

/-- The notice spacing timer runs out; the conditions of forwarding are looked at again at the end of the
command (R193). -/
def spacingEnds (s : State) : State := s.modReq fun r => { r with spacing := none }

/-- NOTICE_SPACING_END (R193). -/
def execNoticeSpacingEnd (s : State) : Host.Outcome State Fault Refusal :=
  live spacingEnds s

/-- HOST_REQUEST (R103 to R106). -/
def execHostRequest (frame : List Byte) (s : State) : Host.Outcome State Fault Refusal :=
  live (takeHostFrame frame) s

/-- HOST_FRAME_DISCARD (R199). -/
def execHostFrameDiscard (frame : List Byte) (s : State) : Host.Outcome State Fault Refusal :=
  live (takeHostFrame frame) s

/-- REQUEST_UNKNOWN_KIND (R187); a kind that the table of R187 has is executed as such. -/
def execRequestUnknownKind (src : ReqSource) (kind : Byte) (fields : List Byte) (s : State) :
    Host.Outcome State Fault Refusal :=
  live (executeRequest src kind fields) s

/-- IDENTIFY (R188). -/
def execIdentify (src : ReqSource) (s : State) : Host.Outcome State Fault Refusal :=
  live (handle src (doIdentify src)) s

/-- READ_STATUS (R188). -/
def execReadStatus (src : ReqSource) (s : State) : Host.Outcome State Fault Refusal :=
  live (handle src (doReadStatus src)) s

/-- READ_MAP (R189). -/
def execReadMap (src : ReqSource) (page : Byte) (s : State) : Host.Outcome State Fault Refusal :=
  live (handle src (doReadMap src page)) s

/-- READ_COUNTERS (R190). -/
def execReadCounters (src : ReqSource) (s : State) : Host.Outcome State Fault Refusal :=
  live (handle src (doReadCounters src)) s

/-- CLEAR_COUNTERS (R190). -/
def execClearCounters (src : ReqSource) (s : State) : Host.Outcome State Fault Refusal :=
  live (handle src (doClearCounters src)) s

/-- READ_NOTICES (R194). -/
def execReadNotices (src : ReqSource) (s : State) : Host.Outcome State Fault Refusal :=
  live (handle src (doReadNotices src)) s

/-- SET_NOTICE_FORWARDING (R193). -/
def execSetNoticeForwarding (src : ReqSource) (setting : Byte) (s : State) :
    Host.Outcome State Fault Refusal :=
  live (handle src (doSetForwarding src setting)) s

/-- RESET_ARM (R195). -/
def execResetArm (src : ReqSource) (s : State) : Host.Outcome State Fault Refusal :=
  live (handle src (doResetArm src)) s

/-- RESET_NODE (R196). -/
def execResetNode (src : ReqSource) (armTag : Byte) (s : State) :
    Host.Outcome State Fault Refusal :=
  live (envelope src (doResetNode src armTag)) s

/-- PORT_RESTART (R31). -/
def execPortRestart (src : ReqSource) (number : Byte) (s : State) :
    Host.Outcome State Fault Refusal :=
  live (handle src (doPortRestart src number)) s

/-- LINK_TEST (R32). -/
def execLinkTest (src : ReqSource) (number : Byte) (frames : Word16) (s : State) :
    Host.Outcome State Fault Refusal :=
  live (handle src (doLinkTest src number frames)) s

/-- LINK_RESULT (R36). -/
def execLinkResult (src : ReqSource) (number : Byte) (s : State) :
    Host.Outcome State Fault Refusal :=
  live (handle src (doLinkResult src number)) s

/-- LEAD_SET (R38). -/
def execLeadSet (src : ReqSource) (cabEnd : Byte) (s : State) : Host.Outcome State Fault Refusal :=
  live (handle src (doLeadSet src cabEnd)) s

/-- LEAD_CLEAR (R38). -/
def execLeadClear (src : ReqSource) (cabEnd : Byte) (s : State) :
    Host.Outcome State Fault Refusal :=
  live (handle src (doLeadClear src cabEnd)) s

/-- CENSUS_START (R62). -/
def execCensusStart (src : ReqSource) (s : State) : Host.Outcome State Fault Refusal :=
  live (handle src (doCensusStart src)) s

/-- SET_TRAIN_STATE (R75). -/
def execSetTrainState (src : ReqSource) (bits : TrainBits) (period : Option Word16) (s : State) :
    Host.Outcome State Fault Refusal :=
  live (handle src (doSetTrainState src bits period)) s

/-- ALIAS_WRITE (R107). -/
def execAliasWrite (src : ReqSource) (number : Byte) (vehicle : VehicleRef) (station : Byte) (s : State) :
    Host.Outcome State Fault Refusal :=
  live (handle src (doAliasWrite src number vehicle station)) s

/-- ALIAS_CLEAR (R108). -/
def execAliasClear (src : ReqSource) (number : Byte) (s : State) :
    Host.Outcome State Fault Refusal :=
  live (handle src (doAliasClear src number)) s

/-- ALIAS_READ (R108). -/
def execAliasRead (src : ReqSource) (number : Byte) (s : State) :
    Host.Outcome State Fault Refusal :=
  live (handle src (doAliasRead src number)) s

/-- REMOTE_STATION_READ (R111, R112). -/
def execRemoteStationRead (src : ReqSource) (mode station item : Byte) (timeout : Word16) (s : State) :
    Host.Outcome State Fault Refusal :=
  live (handle src (doRemoteRead src mode station item timeout)) s

/-- REMOTE_STATION_WRITE (R111, R112). -/
def execRemoteStationWrite (src : ReqSource) (mode station item : Byte) (data : List Byte) (timeout : Word16) (s : State) :
    Host.Outcome State Fault Refusal :=
  live (handle src (doRemoteWrite src mode station item data timeout)) s

/-- REMOTE_STATION_WALK (R83, R112). -/
def execRemoteStationWalk (src : ReqSource) (first last : Byte) (s : State) :
    Host.Outcome State Fault Refusal :=
  live (handle src (doRemoteWalk src first last)) s

/-- REMOTE_STATION_ROSTER (R112). -/
def execRemoteStationRoster (src : ReqSource) (s : State) : Host.Outcome State Fault Refusal :=
  live (handle src (doRemoteRoster src)) s

/-- DOOR_RELEASE (R119). -/
def execDoorRelease (src : ReqSource) (side first last : Byte) (outside : Bool) (s : State) :
    Host.Outcome State Fault Refusal :=
  live (handle src (doDoorRelease src side first last outside)) s

/-- DOOR_CLOSE (R122). -/
def execDoorClose (src : ReqSource) (mask : Byte) (s : State) : Host.Outcome State Fault Refusal :=
  live (handle src (doDoorClose src mask)) s

/-- DOOR_ISOLATE (R134). -/
def execDoorIsolate (src : ReqSource) (leaf : Byte) (s : State) :
    Host.Outcome State Fault Refusal :=
  live (handle src (doDoorIsolate src leaf)) s

/-- DOOR_RESTORE (R135). -/
def execDoorRestore (src : ReqSource) (leaf : Byte) (s : State) :
    Host.Outcome State Fault Refusal :=
  live (handle src (doDoorRestore src leaf)) s

/-- SET_ALLOWANCE (R164). -/
def execSetAllowance (src : ReqSource) (allowance : Word16) (stagger : Option Word16) (s : State) :
    Host.Outcome State Fault Refusal :=
  live (handle src (doSetAllowance src allowance stagger)) s

/-- GROUP_RESET (R169). -/
def execGroupReset (src : ReqSource) (group : Byte) (s : State) :
    Host.Outcome State Fault Refusal :=
  live (handle src (doGroupReset src group)) s

/-- RECORD_EDIT (R177). -/
def execRecordEdit (src : ReqSource) (offset : Word16) (data : List Byte) (s : State) :
    Host.Outcome State Fault Refusal :=
  live (handle src (doRecordEdit src offset data)) s

/-- RECORD_EDIT_RESET (R178). -/
def execRecordEditReset (src : ReqSource) (s : State) : Host.Outcome State Fault Refusal :=
  live (handle src (doEditReset src)) s

/-- RECORD_READ (R179). -/
def execRecordRead (src : ReqSource) (image : Byte) (offset : Word16) (length : Byte) (s : State) :
    Host.Outcome State Fault Refusal :=
  live (handle src (doRecordRead src image offset length)) s

/-- RECORD_STORE (R180). -/
def execRecordStore (src : ReqSource) (s : State) : Host.Outcome State Fault Refusal :=
  live (handle src (doRecordStore src)) s

/-- SET_PROTECTION (R185). -/
def execSetProtection (src : ReqSource) (mode : Byte) (s : State) :
    Host.Outcome State Fault Refusal :=
  live (handle src (doSetProtection src mode)) s

end Sys2Proof.Machine
end

