-- ==== Sys2Proof/Machine/StoreCommands.lean ====
section
/-! DEFINITION. The events of the Record Store (R181 to R183, R185). -/

namespace Sys2Proof.Machine

open Sys2Proof

/-- RECORD_WRITE_END (R181, R183): the write ends, with what the store then holds. -/
def execRecordWriteEnd (readBack : List Byte) (s : State) : Host.Outcome State Fault Refusal :=
  live (recordWriteEnds readBack) s

/-- SETTING_WRITE_END (R185). -/
def execSettingWriteEnd (s : State) : Host.Outcome State Fault Refusal :=
  live settingWriteEnds s

/-- RECORD_LIVE (R182). -/
def execRecordLive (s : State) : Host.Outcome State Fault Refusal :=
  live recordLiveIfReady s

end Sys2Proof.Machine
end

