-- ==== Sys2Proof/Machine/Dispatch.lean ====
section
/-! DEFINITION. The effect of each command on everything but the queue: one arm for each row of
spec/opcode_table.json. -/

namespace Sys2Proof.Machine

open Sys2Proof

def exec (i : Instr) (s : State) : Host.Outcome State Fault Refusal :=
  match i with
  | .powerOn pins => Sys2Proof.Machine.execPowerOn pins s
  | .powerFail => Sys2Proof.Machine.execPowerFail s
  | .nodeReset => Sys2Proof.Machine.execNodeReset s
  | .standstillFall => Sys2Proof.Machine.execStandstillFall s
  | .supplyFall => Sys2Proof.Machine.execSupplyFall s
  | .lockGained port => Sys2Proof.Machine.execLockGained port s
  | .lockLost port => Sys2Proof.Machine.execLockLost port s
  | .dropIntervalEnd port => Sys2Proof.Machine.execDropIntervalEnd port s
  | .contactHoldoffEnd port => Sys2Proof.Machine.execContactHoldoffEnd port s
  | .settleTimeReached port => Sys2Proof.Machine.execSettleTimeReached port s
  | .helloTimer port => Sys2Proof.Machine.execHelloTimer port s
  | .silenceTimeout port => Sys2Proof.Machine.execSilenceTimeout port s
  | .glitchToleranceExpiry port => Sys2Proof.Machine.execGlitchToleranceExpiry port s
  | .offerTimeout port => Sys2Proof.Machine.execOfferTimeout port s
  | .testEntry port => Sys2Proof.Machine.execTestEntry port s
  | .testFrameSent port => Sys2Proof.Machine.execTestFrameSent port s
  | .testQuietTimeout port => Sys2Proof.Machine.execTestQuietTimeout port s
  | .queueDropHoldoffEnd port => Sys2Proof.Machine.execQueueDropHoldoffEnd port s
  | .transmitEnd port => Sys2Proof.Machine.execTransmitEnd port s
  | .frameErrored port => Sys2Proof.Machine.execFrameErrored port s
  | .frameUnknownKind port kind header payload => Sys2Proof.Machine.execFrameUnknownKind port kind header payload s
  | .hello port header payload => Sys2Proof.Machine.execHello port header payload s
  | .testOffer port header payload => Sys2Proof.Machine.execTestOffer port header payload s
  | .testAccept port header payload => Sys2Proof.Machine.execTestAccept port header payload s
  | .testRefused port header payload => Sys2Proof.Machine.execTestRefused port header payload s
  | .test port header payload => Sys2Proof.Machine.execTest port header payload s
  | .change port header payload => Sys2Proof.Machine.execChange port header payload s
  | .changeIdExpiry id => Sys2Proof.Machine.execChangeIdExpiry id s
  | .changeRepeat counter => Sys2Proof.Machine.execChangeRepeat counter s
  | .count port header payload => Sys2Proof.Machine.execCount port header payload s
  | .roll port header payload => Sys2Proof.Machine.execRoll port header payload s
  | .confirm port header payload => Sys2Proof.Machine.execConfirm port header payload s
  | .rollTimeout => Sys2Proof.Machine.execRollTimeout s
  | .censusHoldTimeout => Sys2Proof.Machine.execCensusHoldTimeout s
  | .censusWaitExpiry => Sys2Proof.Machine.execCensusWaitExpiry s
  | .retryTimeout => Sys2Proof.Machine.execRetryTimeout s
  | .periodTimerRunout => Sys2Proof.Machine.execPeriodTimerRunout s
  | .sweepOut port header payload => Sys2Proof.Machine.execSweepOut port header payload s
  | .sweepBack port header payload => Sys2Proof.Machine.execSweepBack port header payload s
  | .freshnessExpiry => Sys2Proof.Machine.execFreshnessExpiry s
  | .doorReleaseFrame port header payload => Sys2Proof.Machine.execDoorReleaseFrame port header payload s
  | .doorCloseFrame port header payload => Sys2Proof.Machine.execDoorCloseFrame port header payload s
  | .request port header payload => Sys2Proof.Machine.execRequest port header payload s
  | .reply port header payload => Sys2Proof.Machine.execReply port header payload s
  | .notice port header payload => Sys2Proof.Machine.execNotice port header payload s
  | .noticeSpacingEnd => Sys2Proof.Machine.execNoticeSpacingEnd s
  | .hostRequest frame => Sys2Proof.Machine.execHostRequest frame s
  | .hostFrameDiscard frame => Sys2Proof.Machine.execHostFrameDiscard frame s
  | .requestUnknownKind src kind fields => Sys2Proof.Machine.execRequestUnknownKind src kind fields s
  | .identify src => Sys2Proof.Machine.execIdentify src s
  | .readStatus src => Sys2Proof.Machine.execReadStatus src s
  | .readMap src page => Sys2Proof.Machine.execReadMap src page s
  | .readCounters src => Sys2Proof.Machine.execReadCounters src s
  | .clearCounters src => Sys2Proof.Machine.execClearCounters src s
  | .readNotices src => Sys2Proof.Machine.execReadNotices src s
  | .setNoticeForwarding src setting => Sys2Proof.Machine.execSetNoticeForwarding src setting s
  | .resetArm src => Sys2Proof.Machine.execResetArm src s
  | .resetNode src armTag => Sys2Proof.Machine.execResetNode src armTag s
  | .portRestart src number => Sys2Proof.Machine.execPortRestart src number s
  | .linkTest src number frames => Sys2Proof.Machine.execLinkTest src number frames s
  | .linkResult src number => Sys2Proof.Machine.execLinkResult src number s
  | .leadSet src cabEnd => Sys2Proof.Machine.execLeadSet src cabEnd s
  | .leadClear src cabEnd => Sys2Proof.Machine.execLeadClear src cabEnd s
  | .censusStart src => Sys2Proof.Machine.execCensusStart src s
  | .setTrainState src bits period => Sys2Proof.Machine.execSetTrainState src bits period s
  | .aliasWrite src number vehicle station => Sys2Proof.Machine.execAliasWrite src number vehicle station s
  | .aliasClear src number => Sys2Proof.Machine.execAliasClear src number s
  | .aliasRead src number => Sys2Proof.Machine.execAliasRead src number s
  | .remoteStationRead src mode station item timeout => Sys2Proof.Machine.execRemoteStationRead src mode station item timeout s
  | .remoteStationWrite src mode station item data timeout => Sys2Proof.Machine.execRemoteStationWrite src mode station item data timeout s
  | .remoteStationWalk src first last => Sys2Proof.Machine.execRemoteStationWalk src first last s
  | .remoteStationRoster src => Sys2Proof.Machine.execRemoteStationRoster src s
  | .doorRelease src side first last outside => Sys2Proof.Machine.execDoorRelease src side first last outside s
  | .doorClose src mask => Sys2Proof.Machine.execDoorClose src mask s
  | .doorIsolate src leaf => Sys2Proof.Machine.execDoorIsolate src leaf s
  | .doorRestore src leaf => Sys2Proof.Machine.execDoorRestore src leaf s
  | .setAllowance src allowance stagger => Sys2Proof.Machine.execSetAllowance src allowance stagger s
  | .groupReset src group => Sys2Proof.Machine.execGroupReset src group s
  | .recordEdit src offset data => Sys2Proof.Machine.execRecordEdit src offset data s
  | .recordEditReset src => Sys2Proof.Machine.execRecordEditReset src s
  | .recordRead src image offset length => Sys2Proof.Machine.execRecordRead src image offset length s
  | .recordStore src => Sys2Proof.Machine.execRecordStore src s
  | .setProtection src mode => Sys2Proof.Machine.execSetProtection src mode s
  | .recordWriteEnd readBack => Sys2Proof.Machine.execRecordWriteEnd readBack s
  | .settingWriteEnd => Sys2Proof.Machine.execSettingWriteEnd s
  | .recordLive => Sys2Proof.Machine.execRecordLive s
  | .busAnswer station item ready data => Sys2Proof.Machine.execBusAnswer station item ready data s
  | .busReplyTimeout => Sys2Proof.Machine.execBusReplyTimeout s
  | .retryWaitEnd cls place => Sys2Proof.Machine.execRetryWaitEnd cls place s
  | .persistTimeout cls place => Sys2Proof.Machine.execPersistTimeout cls place s
  | .roundTimerRunout => Sys2Proof.Machine.execRoundTimerRunout s
  | .roundOverrunHoldoffEnd => Sys2Proof.Machine.execRoundOverrunHoldoffEnd s
  | .warningTimeEnd leaf => Sys2Proof.Machine.execWarningTimeEnd leaf s
  | .closeConfirmTimeout leaf => Sys2Proof.Machine.execCloseConfirmTimeout leaf s
  | .reopenDwellEnd leaf => Sys2Proof.Machine.execReopenDwellEnd leaf s
  | .headlessCloseDelayExpiry => Sys2Proof.Machine.execHeadlessCloseDelayExpiry s
  | .increaseWaitExpiry => Sys2Proof.Machine.execIncreaseWaitExpiry s
  | .staggerDelayEnd => Sys2Proof.Machine.execStaggerDelayEnd s
  | .heatHoldExpiry => Sys2Proof.Machine.execHeatHoldExpiry s

end Sys2Proof.Machine
end

