-- ==== Sys2Proof/Safety.lean ====
section
/-! DEFINITION. What claims about the node are stated with: the invariants of a run, when a request is
executed, what a port, a CHANGE, a return without allotment and the outward pass of a sweep have done, the bytes of
consist entries, the node after a reset, and what the end of a command leaves alone. -/

namespace Sys2Proof.Machine

open Sys2Proof

/-! ## Invariants -/

/-- The PROVEN output of a node with power stands at its source (R148). -/
def ProvenFollows (s : State) : Prop := s.powered = true → s.proven = provenSource s

/-- A node in UNKNOWN holds no map, and its active generation is 0 (R44, R45, R58, R61). -/
def UnknownIsEmpty (s : State) : Prop :=
  s.consist.state = .unknown → s.consist.activeMap = [] ∧ s.consist.generation = 0#8

/-- The lanes of a port hold no more than 8 urgent and 16 normal frames (R13). -/
def LanesBounded (q : Port) : Prop := q.urgent.length ≤ 8 ∧ q.normal.length ≤ 16

/-- No queue or table holds more than its capacity (R10, R13, R84, R97, R102, R191). -/
def Capacities (s : State) : Prop :=
  LanesBounded s.lp1 ∧ LanesBounded s.lp2
    ∧ s.relay.changeIds.length ≤ 8
    ∧ s.bus.doorQueue.length ≤ 16 ∧ s.bus.remoteQueue.length ≤ 8 ∧ s.bus.outbound.length ≤ 16
    ∧ s.req.aliases.length ≤ 16 ∧ s.req.remotes.length ≤ 8 ∧ s.req.notices.length ≤ 32

/-- The heat writes waiting or in flight stay within class 2 (R84, R87, R151): at most 4 groups, every write
owned by one of them, at most two for a group, and one in flight only while the bus carries it. -/
def HeatWritesBounded (s : State) : Prop :=
  s.store.content.groups.length ≤ 4 ∧ s.heat.groups.length ≤ 4
    ∧ (∀ e ∈ s.bus.heatQueue, ∃ g, 1 ≤ g ∧ g ≤ 4 ∧ e.owner = .group g)
    ∧ (∀ g, s.bus.heatQueue.countP (fun e => decide (e.owner = .group g)) ≤ 2)
    ∧ s.bus.heatQueue.countP (fun e => decide (e.phase = .inFlight)) ≤
        (if s.bus.flight = some (.queue .heat) then 1 else 0)
    ∧ s.bus.heatQueue.length ≤ 8

/-- A roster below a station: the stations in order, each once, from 1 on, and so fewer than it (R83). -/
def RosterBelow (bound : Nat) (r : List RosterEntry) : Prop :=
  r.length < bound ∧ (r.map fun e => e.station.toNat).Pairwise (· < ·)
    ∧ ∀ e ∈ r, 1 ≤ e.station.toNat ∧ e.station.toNat < bound

/-- The stored roster and the working rosters of the walks hold at most 30 stations, in order (R83). -/
def RostersInOrder (s : State) : Prop :=
  RosterBelow 31 s.bus.roster
    ∧ ∀ cls, ∀ e ∈ s.bus.queue cls, ∀ next last started roster, e.op = .walk next last started roster →
        1 ≤ next.toNat ∧ next.toNat ≤ last.toNat ∧ last.toNat ≤ 30 ∧ RosterBelow next.toNat roster

/-- The active and the pending map hold at most 32 entries (R37, R49). -/
def MapsBounded (s : State) : Prop :=
  s.consist.activeMap.length ≤ 32 ∧ ∀ m, s.consist.pendingMap = some m → m.length ≤ 32

/-- Every record image has its 512 bytes (R173). -/
def ImagesWhole (s : State) : Prop :=
  s.store.stored.length = 512 ∧ s.store.live.length = 512 ∧ s.store.edit.length = 512
    ∧ ∀ img, s.store.awaiting = some img → img.length = 512

/-! ## Requests -/

/-- A request is executed: the node has power, no reset is pending (R187), and a request from the line has
a source position other than 0 (R109). -/
def Executable (src : ReqSource) (s : State) : Prop :=
  s.powered = true ∧ s.req.resetPending = false ∧ ∀ generation tag, src ≠ .line 0#8 generation tag

/-- The state a request that is not RESET-NODE finds: the reset arm is clear (R195). -/
def State.armCleared (s : State) : State := { s with req := { s.req with arm := none } }

/-! ## Received frames -/

/-- A frame arrives in UP and passes every check before its consumer: R3, the header check of R4 and the
acceptance of R5. -/
def Accepted (p : PortId) (kind : Byte) (h : Header) (payload : List Byte) (s : State) : Prop :=
  s.powered = true ∧ (s.port p).link = .up
    ∧ payloadPasses { kind := kind, header := h, payload := payload } = true
    ∧ headerOk { kind := kind, header := h, payload := payload } = true
    ∧ (needsGeneration kind = true → s.settledIn h.generation = true)

/-- The header of a link-local frame of the urgent lane (R1, R2). -/
def linkLocal (generation source : Byte) : Header where
  generation := generation
  flags := 1#8
  destination := 0#8
  source := source
  tag := 0#8

/-- The header of a broadcast of the urgent lane (R1, R2). -/
def broadcastHeader (generation source : Byte) : Header where
  generation := generation
  flags := 1#8
  destination := 255#8
  source := source
  tag := 0#8

/-- An urgent entry has been handed to a port: at one in UP or GLITCH with room in its urgent lane it joins the
lane at the newest end, and the oldest entry of the lane, the entry itself in an empty one, may have gone on to a
free transmitter (R13, R14). A port in any other state takes it not, and a full lane has rules of its own. -/
def JoinsLane (p : PortId) (e : LaneEntry) (s t : State) : Prop :=
  (s.port p).carries = true → (s.port p).urgent.length < 8 →
    let lane := (s.port p).urgent ++ [e]
    (t.port p).urgent = lane
      ∨ ∃ first, (t.port p).transmitter = some first ∧ lane = first :: (t.port p).urgent

/-- An urgent frame that nothing waits for has been handed to a port. -/
def JoinsUrgent (p : PortId) (f : Frame) (s t : State) : Prop :=
  JoinsLane p { frame := f, mark := .plain } s t

/-- What the outward pass of a SWEEP-OUT has done to the node before the proof tally (R69, R89, R125): the frame
is latched, a poll round has started for two periods, the vehicle proof stands by R141, and a clear STANDSTILL
bit has sent every RELEASED leaf to WARNING (CLOSING where the warning time is 0; FAULT only where class 1 could
run full), while a set one leaves them RELEASED. -/
def OutwardStarted (f : SweepOut) (s m : State) : Prop :=
  let period := max 50 (min 500 f.period) / 10 * 10
  m.sweep.latch = some { sequence := f.sequence, returned := false } ∧ m.sweep.bits = f.bits
    ∧ m.sweep.freshness = some (2 * period) ∧ m.sweep.latchedPeriod = some period
    ∧ m.sweep.latchedStagger = some (min f.stagger 500)
    ∧ m.bus.roundTimer = some (2 * period) ∧ m.bus.pointer = some 0
    ∧ m.store = s.store ∧ m.pins = s.pins ∧ m.identity = s.identity
    ∧ m.consist.activeMap = s.consist.activeMap
    ∧ (evalVehicleProof m).door.vehicleProof = m.door.vehicleProof
    ∧ (∀ k l, m.leaf k = some l → l.state = .released → f.bits.standstill = true ∧ s.leaf k = some l)
    ∧ (∀ k l, s.leaf k = some l → l.state = .released →
        (f.bits.standstill = true → m.leaf k = some l)
          ∧ (f.bits.standstill = false → ∃ l', m.leaf k = some l'
              ∧ (l'.state = (if s.store.content.warning = 0 then .closing else .warning)
                ∨ (l'.state = .fault ∧ 16 < s.bus.doorQueue.length + s.door.leaves.length))))

/-- A return that gave the node no allotment (R158, R160, R163): its take is 0, every group commanded above 0 is
commanded to 0 by a write of class 2 and every other is left, a pending increase is discarded and counted; the
return is counted, and neither the heat state nor the hold has moved. -/
def ShedsAll (s t : State) : Prop :=
  t.heat.take = 0 ∧ t.heat.increase = none
    ∧ t.heat.increaseDiscard =
        (if s.heat.increase = none then s.heat.increaseDiscard else satInc s.heat.increaseDiscard)
    ∧ t.heat.unlatchedReturn = satInc s.heat.unlatchedReturn
    ∧ t.heat.allotted = s.heat.allotted ∧ t.heat.hold = s.heat.hold
    ∧ t.heat.allowance = s.heat.allowance ∧ t.heat.groupFaults = s.heat.groupFaults
    ∧ ∀ g x c, s.group g = some x → s.groupConfig g = some c →
        (x.commanded = 0 → t.group g = some x)
          ∧ (0 < x.commanded →
              t.group g = some { commanded := 0, settled := false, mismatch := 0, fault := x.fault }
                ∧ ∃ e ∈ t.bus.heatQueue, e.owner = .group g ∧ e.current = true
                    ∧ e.op = .write c.commandStation c.commandItem [0#8])

/-- A consist entry whose fields lie in the ranges of R48 and R198. -/
def EntryInRange (e : ConsistEntry) : Prop :=
  e.weight.toNat ≤ 15 ∧ e.leavesA.toNat ≤ 8 ∧ e.leavesB.toNat ≤ 8 ∧ e.vehicleNumber.length ≤ 9
    ∧ ∀ c ∈ e.vehicleNumber, 0x20 ≤ c.toNat ∧ c.toNat ≤ 0x7E

/-- Bytes that R198 takes as so many consist entries and nothing after them: every entry with its weight, leaf
counts, claimed end and vehicle number in range. -/
def EntriesInRange : Nat → List Byte → Prop
  | 0, bs => bs = []
  | n + 1, bs =>
    ∃ (identity : Identity) (flags weight leavesA leavesB : Byte) (number rest : List Byte),
      bs = idBytes identity ++ [flags, weight, leavesA, leavesB, byteOf number.length] ++ number ++ rest
        ∧ (flags.getLsbD 4 && flags.getLsbD 5) = false
        ∧ weight.toNat ≤ 15 ∧ leavesA.toNat ≤ 8 ∧ leavesB.toNat ≤ 8 ∧ number.length ≤ 9
        ∧ (∀ c ∈ number, 0x20 ≤ c.toNat ∧ c.toNat ≤ 0x7E) ∧ EntriesInRange n rest

/-! ## CHANGE -/

/-- What a CHANGE makes of the Consist Unit before the census it starts at a head (the table of R43): the consist
state, the census wait and, at a head, the conflict hold. -/
def Consist.afterChange (c : Consist) : Consist :=
  let hold := if c.status = .valid then false else c.conflictHold
  match c.state with
  | .settled => { c with state := .stale, wait := .running 4000, conflictHold := hold }
  | .stale | .pending => { c with wait := .running 4000, conflictHold := hold }
  | .unknown => { c with conflictHold := hold }

/-- The Sweep and Door Units of a node that SETTLED has left, or whose claim status has left VALID: sweeping has
stopped and the train proof is withdrawn, nothing else of the two has moved (R66, R147). -/
def SweepingStopped (s t : State) : Prop :=
  t.sweep = { s.sweep with periodTimer := none, outstanding := none }
    ∧ t.door = { s.door with trainProof := false }

/-- A copy of a CHANGE of this node has been handed to every port in UP or GLITCH, and to no other (R1, R12). -/
def CopySent (counter : Byte) (s t : State) : Prop :=
  ∀ p, JoinsUrgent p
        { kind := 0x03#8, header := broadcastHeader s.consist.generation s.sourcePosition
          payload := changePayload (s.identity, counter) } s t
    ∧ ((s.port p).carries = false → t.port p = s.port p)

/-! ## After power-on and node reset -/

/-- Every block but the ports and the Consist Unit stands as power-on and a node reset leave it, and the stored
record is loaded (R20, R37, R65, R79, R92, R102, R115, R136, R140, R150, R151, R173, R175): the leaves in START,
the groups commanded to 0 by writes of class 2 (in record order: assumption 53), the oldest in flight, and
RECORD-INVALID raised where the verdict is no OK. -/
def StartsAfresh (t : State) : Prop :=
  let c := t.store.content
  let offs : List QueueEntry := c.groups.mapIdx fun i g =>
    QueueEntry.fresh (.write g.commandStation g.commandItem [0#8]) (.persist 200) (.group (i + 1))
  t.powered = true ∧ t.proven = false ∧ t.relay = Relay.reset ∧ t.sweep = Sweep.reset
    ∧ t.bus = { Bus.reset with
        records := (c.polls.map PollEntry.dest).dedup.map fun d => { dest := d, value := none, age := 255 }
        heatQueue :=
          (match offs with
            | [] => []
            | first :: rest => { first with phase := .inFlight, persist := .running 200 } :: rest)
        flight := if c.groups = [] then none else some (.queue .heat)
        replyTimer := if c.groups = [] then none else some 4 }
    ∧ t.req = { Req.reset with
        notices :=
          (match t.store.validity with
            | none => []
            | some why =>
              [{ kind := .recordInvalid, subject := 0#8
                 value := BitVec.ofNat 16 (checkCode (some why)).toNat, generation := 0#8 }]) }
    ∧ t.door = { Door.reset with
        leaves := c.leaves.map fun _ =>
          { state := .start, timer := none, attempts := c.reopenAttempts, closeMark := false }
        headless := .running (c.headlessDelay * 1000) }
    ∧ t.heat = { Heat.reset with
        groups := c.groups.map fun _ => { commanded := 0, settled := false, mismatch := 0, fault := none } }
    ∧ t.store.live = t.store.stored ∧ t.store.edit = t.store.stored
    ∧ c = (if t.store.validity = none then contentOf t.store.stored none else Content.defaults)
    ∧ t.store.state = .idle ∧ t.store.awaiting = none ∧ t.store.writeTimer = none

/-! ## The end of a command -/

/-- The parts of the node that the end of a command, the forwarding of a notice and the PROVEN output,
leaves alone: all but the PROVEN output, the ports, the Relay Unit, the notices and the cab outbound
queue. -/
def SameCore (s t : State) : Prop :=
  t.powered = s.powered ∧ t.identity = s.identity ∧ t.pins = s.pins ∧ t.consist = s.consist
    ∧ t.sweep = s.sweep ∧ t.door = s.door ∧ t.heat = s.heat ∧ t.store = s.store
    ∧ t.freeCount = s.freeCount ∧ t.pending = s.pending
    ∧ { t.bus with outbound := s.bus.outbound, cabDrop := s.bus.cabDrop } = s.bus
    ∧ { t.req with
          notices := s.req.notices, overflow := s.req.overflow, spacing := s.req.spacing,
          requestDrop := s.req.requestDrop, resetDue := s.req.resetDue } = s.req

/-- The link side of a port: everything but its lanes, its transmitter, its frames-dropped counter with
its holdoff, and whether TEST is due. -/
def Port.linkSide (q : Port) : Port :=
  { q with
    urgent := [], normal := [], transmitter := none, dropped := 0, dropHoldoff := none
    testDue := false }

/-! ## Time -/

/-- What is left of every timer of a port; `none` is a timer that stands still. -/
def Port.timers (q : Port) : List (Option Nat) :=
  [q.dropInterval, q.contactHoldoff, q.settle.time, q.silence, q.helloTimer, q.glitchTimer,
   (match q.offer with
    | .pending _ t => t
    | _ => none),
   q.run.bind TestRun.quiet, q.dropHoldoff]

/-- A port with what is left of its timers struck out. -/
def Port.untimed (q : Port) : Port :=
  { q with
    dropInterval := none, contactHoldoff := none, settle := { q.settle with time := none }
    silence := none, helloTimer := none, glitchTimer := none, dropHoldoff := none
    offer := match q.offer with
      | .pending n _ => .pending n none
      | o => o
    run := q.run.map fun r => { r with quiet := none } }

/-- What is left of the retry wait and the persist timeout of a queue entry. -/
def QueueEntry.timers (e : QueueEntry) : List (Option Nat) := [e.phase.left, e.persist.left]

/-- A persist timeout with what is left of it struck out. -/
def Persist.untimed : Persist → Persist
  | .running _ => .running 0
  | p => p

/-- A queue entry with what is left of its timers struck out. -/
def QueueEntry.untimed (e : QueueEntry) : QueueEntry :=
  { e with
    persist := e.persist.untimed
    phase := match e.phase with
      | .retryWait _ => .retryWait 0
      | p => p }

/-- What is left of every timer of the node, in a fixed order. -/
def State.timers (s : State) : List (Option Nat) :=
  s.lp1.timers ++ s.lp2.timers ++ s.relay.changeIds.map (fun e => some e.left)
    ++ s.consist.copies.map (fun c => some c.timer)
    ++ [(match s.consist.wait with
         | .running n => some n
         | _ => none),
        s.consist.rollTimer, s.consist.holdTimer, s.consist.retryTimer, s.sweep.periodTimer,
        s.sweep.freshness]
    ++ ((s.bus.doorQueue ++ s.bus.heatQueue ++ s.bus.remoteQueue).map QueueEntry.timers).flatten
    ++ [s.bus.pollRetry, s.bus.pollPersist.left, s.bus.replyTimer, s.bus.roundTimer, s.bus.overrunHoldoff]
    ++ s.req.remotes.map (fun e => some e.deadline) ++ [s.req.spacing, s.req.resetTimer]
    ++ s.door.leaves.map Leaf.timer
    ++ [(match s.door.headless with
         | .running n => some n
         | _ => none),
        s.heat.increase.map fun i => (match i.phase with
          | .waiting n | .staggering n => n),
        s.heat.hold, s.store.writeTimer]

/-- The node with what is left of its timers struck out. -/
def State.untimed (s : State) : State :=
  { s with
    lp1 := s.lp1.untimed
    lp2 := s.lp2.untimed
    relay := { s.relay with changeIds := s.relay.changeIds.map fun e => { e with left := 0 } }
    consist :=
      { s.consist with
        copies := s.consist.copies.map fun c => { c with timer := 0 }
        wait := match s.consist.wait with
          | .running _ => .running 0
          | w => w
        rollTimer := none, holdTimer := none, retryTimer := none }
    sweep := { s.sweep with periodTimer := none, freshness := none }
    bus :=
      { s.bus with
        doorQueue := s.bus.doorQueue.map QueueEntry.untimed
        heatQueue := s.bus.heatQueue.map QueueEntry.untimed
        remoteQueue := s.bus.remoteQueue.map QueueEntry.untimed
        pollRetry := none, pollPersist := s.bus.pollPersist.untimed
        replyTimer := none, roundTimer := none, overrunHoldoff := none }
    req :=
      { s.req with
        remotes := s.req.remotes.map fun e => { e with deadline := 0 }
        spacing := none, resetTimer := none }
    door :=
      { s.door with
        leaves := s.door.leaves.map fun l => { l with timer := none }
        headless := match s.door.headless with
          | .running _ => .running 0
          | h => h }
    heat :=
      { s.heat with
        increase := s.heat.increase.map fun i =>
          { i with
            phase := match i.phase with
              | .waiting _ => .waiting 0
              | .staggering _ => .staggering 0 }
        hold := none }
    store := { s.store with writeTimer := none } }

end Sys2Proof.Machine
end

