-- ==== Sys2Proof/WellFormed.lean ====
section
/-! DEFINITION. Which commands are well-formed: operands that the outside, or the node's own timers, can
send with that row of the table. A command that is not well-formed still has an effect (assumption 36). -/

namespace Sys2Proof

open Sys2Proof.Machine

/-- A request that comes from the line has passed R4, so its source position is at most 32. -/
def ReqSource.wellFormed : ReqSource → Bool
  | .cab _ => true
  | .line position _ _ => decide (position.toNat ≤ 32)

/-- A received frame command carries a frame that passes R3. -/
def frameWellFormed (kind : Byte) (h : Header) (payload : List Byte) : Bool :=
  payloadPasses { kind := kind, header := h, payload := payload }

/-- A HELLO command carries the variant its row names (section 12.2): 0 plain, 1 TEST-OFFER,
2 TEST-ACCEPT, 3 TEST-REFUSED; an unknown variant belongs to the plain row. -/
def helloWellFormed (row : Nat) (h : Header) (payload : List Byte) : Bool :=
  let variant := (payload.getD 8 0#8).toNat
  frameWellFormed Config.kindHello h payload
    && decide ((if variant = 1 ∨ variant = 2 ∨ variant = 3 then variant else 0) = row)

/-- A leaf number of the leaf table (R116). -/
def leafWellFormed (leaf : Nat) : Bool := decide (1 ≤ leaf ∧ leaf ≤ 8)

/-- A place in a class queue within its capacity (R84), or the one poll entry at the pointer (R90). -/
def placeWellFormed : BusClass → Nat → Bool
  | .door, place => decide (place < Config.doorQueueSize)
  | .heat, place => decide (place < 8)
  | .remote, place => decide (place < Config.remoteQueueSize)
  | .poll, place => decide (place = 0)

/-- A list of bytes that one count byte can precede (R197). -/
def countable (data : List Byte) : Bool := decide (data.length ≤ 255)

/-- A mode of REMOTE-STATION other than WALK, which has a row of its own (R111). -/
def modeWellFormed (mode : Byte) : Bool := decide (mode ≠ 4#8)

/-- A command whose operands its row admits. -/
def Instr.wellFormed : Instr → Bool
  | .powerOn _ | .powerFail | .nodeReset | .standstillFall | .supplyFall => true
  | .lockGained _ | .lockLost _ | .dropIntervalEnd _ | .contactHoldoffEnd _ => true
  | .settleTimeReached _ | .helloTimer _ | .silenceTimeout _ | .glitchToleranceExpiry _ => true
  | .offerTimeout _ | .testEntry _ | .testFrameSent _ | .testQuietTimeout _ => true
  | .queueDropHoldoffEnd _ | .transmitEnd _ | .frameErrored _ => true
  | .frameUnknownKind _ kind h payload =>
    frameWellFormed kind h payload && decide (kind.toNat = 0 ∨ 0x0D < kind.toNat)
  | .hello _ h payload => helloWellFormed 0 h payload
  | .testOffer _ h payload => helloWellFormed 1 h payload
  | .testAccept _ h payload => helloWellFormed 2 h payload
  | .testRefused _ h payload => helloWellFormed 3 h payload
  | .test _ h payload => frameWellFormed Config.kindTest h payload
  | .change _ h payload => frameWellFormed Config.kindChange h payload
  | .changeIdExpiry _ | .changeRepeat _ => true
  | .count _ h payload => frameWellFormed Config.kindCount h payload
  | .roll _ h payload => frameWellFormed Config.kindRoll h payload
  | .confirm _ h payload => frameWellFormed Config.kindConfirm h payload
  | .rollTimeout | .censusHoldTimeout | .censusWaitExpiry | .retryTimeout | .periodTimerRunout => true
  | .sweepOut _ h payload => frameWellFormed Config.kindSweepOut h payload
  | .sweepBack _ h payload => frameWellFormed Config.kindSweepBack h payload
  | .freshnessExpiry => true
  | .doorReleaseFrame _ h payload => frameWellFormed Config.kindDoorRelease h payload
  | .doorCloseFrame _ h payload => frameWellFormed Config.kindDoorClose h payload
  | .request _ h payload => frameWellFormed Config.kindRequest h payload
  | .reply _ h payload => frameWellFormed Config.kindReply h payload
  | .notice _ h payload => frameWellFormed Config.kindNotice h payload
  | .noticeSpacingEnd => true
  | .hostRequest frame => (readHostFrame frame).isSome
  | .hostFrameDiscard frame => (readHostFrame frame).isNone
  | .requestUnknownKind src kind _ =>
    src.wellFormed && decide (kind.toNat = 0 ∨ 30 < kind.toNat)
  | .identify src | .readStatus src | .readMap src _ | .readCounters src => src.wellFormed
  | .clearCounters src | .readNotices src | .setNoticeForwarding src _ => src.wellFormed
  | .resetArm src | .resetNode src _ | .portRestart src _ | .linkTest src _ _ => src.wellFormed
  | .linkResult src _ | .leadSet src _ | .leadClear src _ | .censusStart src => src.wellFormed
  | .setTrainState src _ _ | .aliasWrite src _ _ _ | .aliasClear src _ => src.wellFormed
  | .aliasRead src _ => src.wellFormed
  | .remoteStationRead src mode _ _ _ => src.wellFormed && modeWellFormed mode
  | .remoteStationWrite src _ _ _ data _ => src.wellFormed && countable data
  | .remoteStationWalk src _ _ | .remoteStationRoster src => src.wellFormed
  | .doorRelease src _ _ _ _ | .doorClose src _ | .doorIsolate src _ => src.wellFormed
  | .doorRestore src _ | .setAllowance src _ _ | .groupReset src _ => src.wellFormed
  | .recordEdit src _ data => src.wellFormed && countable data
  | .recordEditReset src | .recordRead src _ _ _ | .recordStore src => src.wellFormed
  | .setProtection src _ => src.wellFormed
  | .recordWriteEnd readBack => decide (readBack.length = Config.imageSize)
  | .settingWriteEnd | .recordLive => true
  | .busAnswer _ _ _ _ | .busReplyTimeout => true
  | .retryWaitEnd cls place => placeWellFormed cls place
  | .persistTimeout cls place => placeWellFormed cls place
  | .roundTimerRunout | .roundOverrunHoldoffEnd => true
  | .warningTimeEnd leaf => leafWellFormed leaf
  | .closeConfirmTimeout leaf => leafWellFormed leaf
  | .reopenDwellEnd leaf => leafWellFormed leaf
  | .headlessCloseDelayExpiry | .increaseWaitExpiry | .staggerDelayEnd | .heatHoldExpiry => true

end Sys2Proof
end

