-- ==== Sys2Proof/Certificates/Slice0/Obligations.lean ====
section
/-! DEFINITION. The statements for the provers, block by block in the order of the manual. A statement
whose next state is `finish t` gives in `t` all the command does, and leaves to two statements what every
command does at its end: one look at notice forwarding (`ManagementRequests`), and the PROVEN output
(`EveryStepKeepsProvenAtItsSource`). What `arbitrate` does is said by `ArbiterTakesTheClassesInOrder`, what
`tellOwner` does by `PersistWriteRetries` and `RemoteRequestsArePending`. -/

open Sys2Proof Sys2Proof.Machine

/-! ## The queue -/

/-- A step runs the command at the front of the queue on the queue's rest. -/
def Obligations.StepRunsTheFrontCommand : Prop :=
  ∀ (c : Instr) (rest : List Instr) (s : State),
    s.pending = c :: rest → step s = exec c { s with pending := rest }

/-- On an empty queue a node with power commands the first event that is due, else lives through one
millisecond; without power nothing happens. One millisecond lowers what is left of every running timer by 1,
never below 0, and changes nothing else. The model's own (assumption 1). -/
def Obligations.EmptyQueueCommandsWhatIsDue : Prop :=
  (∀ s : State, s.pending = [] →
    (∀ c, s.powered = true → dueCommand s = some c → step s = .next { s with pending := [c] })
      ∧ (s.powered = true → dueCommand s = none → step s = .next (tick s))
      ∧ (s.powered = false → step s = .next s))
    ∧ (∀ s : State, (tick s).timers = s.timers.map (fun t => t.map fun left => left - 1)
        ∧ (tick s).untimed = s.untimed)

/-! ## Power and reset -/

/-- Power-on over a blank store, whatever the rest of the node held, gives the state the model starts from.
The blank store, the setting OPEN and the identity 0 are the model's own (assumption 2). -/
def Obligations.PowerOnOfABlankNodeGivesReset : Prop :=
  ∀ s : State, s.powered = false → s.identity = 0#48 → s.freeCount = 0 → s.pending = [] →
    s.store.stored = blankImage → s.store.storedMark = .whole →
    s.store.storedSetting = some .unlocked →
    exec (.powerOn { standstill := false, supply := false, workshop := false }) s = .next State.reset

/-- Power-on loads the stored record: its fields where it passes the check, else the defaults with the check
reason and RECORD-INVALID; the edit buffer takes a copy, the protection mode the stored setting, and every block
its values after power-on (R20, R21, R37, R65, R79, R92, R102, R115, R140, R150, R151, R173, R175, R176, R184).
That the operand holds the levels of the inputs, and that a port starts with its signal cleared, are the model's
(assumption 3), as is that a record left by a failed read-back is invalid whatever its bytes are, with a free
reason where they pass (assumption 12), and that the writes of 0 join class 2 in record order (assumption 53). -/
def Obligations.PowerOnLoadsTheStoredRecord : Prop :=
  ∀ (pins : Pins) (s : State), s.powered = false →
    ∃ t, exec (.powerOn pins) s = .next t ∧ StartsAfresh t ∧ t.pins = pins
      ∧ t.identity = s.identity ∧ t.pending = s.pending
      ∧ t.lp1 = Port.reset ∧ t.lp2 = Port.reset ∧ t.consist = Consist.reset
      ∧ t.store.stored = s.store.stored ∧ t.store.storedMark = s.store.storedMark
      ∧ t.store.storedSetting = s.store.storedSetting
      ∧ t.store.mode = s.store.storedSetting.getD .keyed
      ∧ (s.store.storedMark = .whole →
          t.store.validity = checkImage s.store.stored ∧ t.freeCount = s.freeCount)
      ∧ (s.store.storedMark = .failedReadBack →
          t.store.validity ≠ none
            ∧ ∀ why, checkImage s.store.stored = some why → t.store.validity = some why)

/-- The end of power: outside a store write PROVEN is deasserted and everything else stands as data, which is
the model's reading of a node without power (assumption 5), so nothing kept is lost; in WRITING the record is
left partly written, with bytes that fail the check and that nothing else constrains (assumption 12), and the
next power-on finds it invalid; in SETTING the stored setting is left unreadable, and the next power-on takes
KEYED (R183, R184, R185). -/
def Obligations.PowerFailureMeetsAStore : Prop :=
  ∀ (pins : Pins) (s : State), s.powered = true →
    ((s.store.state = .idle ∨ s.store.state = .awaitingDoors) →
        exec .powerFail s = .next { s with powered := false, proven := false })
      ∧ (s.store.state = .writing →
          ∃ t u, exec .powerFail s = .next t ∧ t.powered = false ∧ t.proven = false
            ∧ checkImage t.store.stored ≠ none
            ∧ exec (.powerOn pins) t = .next u ∧ u.store.validity ≠ none
            ∧ u.store.edit = t.store.stored
            ∧ u.store.content = Content.defaults ∧ ∃ n ∈ u.req.notices, n.kind = .recordInvalid)
      ∧ (s.store.state = .setting →
          ∃ t u, exec .powerFail s = .next t ∧ t.powered = false ∧ t.store.storedSetting = none
            ∧ t.store.stored = s.store.stored
            ∧ exec (.powerOn pins) t = .next u ∧ u.store.mode = .keyed)

/-- A node reset that takes place brings every block to its node reset values: the claims, the map, the aliases,
the queues, the notices, the latches and the allowance are lost, the leaves stand in START with no vehicle proof
and the headless close delay running, every group is commanded to 0; the change counter, the stored record, a
mode HELD and the input levels are kept, and both ports are DOWN with the drop interval running (R21, R37, R63,
R65, R79, R102, R115, R140, R150, R173, R184, R196). In WRITING and SETTING it is held back (R183, R185). The
model's choices: the copies of a CHANGE go with the reset (assumption 33), the levels of the inputs and of the
neighbours' signals stay (assumption 3), a reset that is held back is noted (assumption 6), a record left by
a failed read-back is invalid whatever its bytes are (assumption 12), and the writes of 0 join class 2 in record
order (assumption 53). -/
def Obligations.NodeResetTakesPlaceOrIsHeldBack : Prop :=
  ∀ s : State, s.powered = true → s.req.resetPending = true →
    ((s.store.state = .idle ∨ s.store.state = .awaitingDoors) →
        ∃ t, exec .nodeReset s = .next t ∧ StartsAfresh t
          ∧ t.lp1 = { Port.reset with signal := s.lp1.signal, dropInterval := some 200 }
          ∧ t.lp2 = { Port.reset with signal := s.lp2.signal, dropInterval := some 200 }
          ∧ t.consist = { Consist.reset with changeCounter := s.consist.changeCounter }
          ∧ t.store.stored = s.store.stored ∧ t.store.storedMark = s.store.storedMark
          ∧ t.store.storedSetting = s.store.storedSetting
          ∧ t.store.mode =
              (if s.store.mode = .held then .held else s.store.storedSetting.getD .keyed)
          ∧ (s.store.storedMark = .whole → t.store.validity = checkImage s.store.stored)
          ∧ (s.store.storedMark = .failedReadBack →
              t.store.validity ≠ none
                ∧ ∀ why, checkImage s.store.stored = some why → t.store.validity = some why)
          ∧ t.identity = s.identity ∧ t.pins = s.pins ∧ t.pending = s.pending)
      ∧ ((s.store.state = .writing ∨ s.store.state = .setting) →
          exec .nodeReset s = .next (finish { s with req := { s.req with resetHeld := true } }))

/-- When the STANDSTILL input falls every leaf in RELEASED enters WARNING (CLOSING where the warning time is
0; FAULT only where class 1 could run full), a leaf in another state is left as it is, and nothing of the
consist, the sweep, the heating or the record changes (R124, R127, R133). With room in class 1 the headless
close delay running out does the same and becomes expired (R126). -/
def Obligations.FallsAndDelaysCloseReleasedLeaves : Prop :=
  (∀ s : State, s.powered = true → s.pins.standstill = true →
     ∃ t, exec .standstillFall s = .next t ∧ t.pins = { s.pins with standstill := false }
       ∧ t.door.leaves.length = s.door.leaves.length
       ∧ (∀ k l, s.leaf k = some l → l.state ≠ .released → t.leaf k = some l)
       ∧ (∀ k l, s.leaf k = some l → l.state = .released →
           ∃ l', t.leaf k = some l'
             ∧ (l'.state = (if s.store.content.warning = 0 then .closing else .warning)
               ∨ (l'.state = .fault ∧ 16 < s.bus.doorQueue.length + s.door.leaves.length)))
       ∧ t.consist = s.consist ∧ t.sweep = s.sweep ∧ t.heat = s.heat ∧ t.store = s.store)
    ∧ (∀ (left : Nat) (s : State), s.powered = true → s.door.headless = .running left →
         s.bus.doorQueue.length + s.door.leaves.length ≤ 16 →
         ∃ t, exec .headlessCloseDelayExpiry s = .next t ∧ t.door.headless = .expired
           ∧ (∀ k l, s.leaf k = some l → l.state ≠ .released → t.leaf k = some l)
           ∧ (∀ k l, s.leaf k = some l → l.state = .released →
               (t.leaf k).map Leaf.state =
                 some (if s.store.content.warning = 0 then .closing else .warning))
           ∧ t.consist = s.consist ∧ t.heat = s.heat ∧ t.sweep = s.sweep)

/-! ## Line ports -/

/-- LOCK_GAINED at a port in DOWN with no drop interval and no holdoff, and the end of the last of the two
with the signal present, take the port to SETTLING with its settle progress cleared, the settle time at
1500 ms and the HELLO timer at 100 ms; the first plain HELLO goes to the free transmitter of an empty port.
While one of the two runs, the signal is only noted (R22, R23, R24, R25). -/
def Obligations.LockTakesAPortFromDownToSettling : Prop :=
  ∀ (p : PortId) (s : State), s.powered = true → (s.port p).link = .down →
    let Settles (t : State) : Prop :=
      (t.port p).link = .settling ∧ (t.port p).signal = true
        ∧ (t.port p).settle = { candidate := none, count := 0, time := some 1500 }
        ∧ (t.port p).helloTimer = some 100 ∧ (t.port p).dropInterval = none
        ∧ (t.port p).contactHoldoff = none ∧ (t.port p).lastDown = (s.port p).lastDown
        ∧ ((s.port p).urgent = [] → (s.port p).transmitter = none → (s.port p).testDue = false →
            ∃ e, (t.port p).transmitter = some e ∧ e.frame.kind = 0x01#8
              ∧ e.frame.payload = helloPayload s.identity p.cabEnd s.consist.generation .plain)
    ((s.port p).dropInterval = none → (s.port p).contactHoldoff = none →
        ∃ t, exec (.lockGained p) s = .next t ∧ Settles t)
      ∧ ((s.port p).dropInterval ≠ none → (s.port p).contactHoldoff = none →
          (s.port p).signal = true → ∃ t, exec (.dropIntervalEnd p) s = .next t ∧ Settles t)
      ∧ ((s.port p).contactHoldoff ≠ none → (s.port p).signal = true →
          ∃ t, exec (.contactHoldoffEnd p) s = .next t ∧ Settles t)
      ∧ ((s.port p).dropInterval ≠ none ∨ (s.port p).contactHoldoff ≠ none →
          exec (.lockGained p) s =
            .next (finish (s.modPort p fun q => { q with signal := true })))

/-- A loss of lock in UP enters GLITCH for 120 ms, with the frame in transmission lost and the lanes held;
a return of lock in GLITCH returns to UP. Neither changes the neighbour record, the frames received and
errored or the error window, nor anything of the Consist Unit (R17, R28). -/
def Obligations.LockLostInUpIsAGlitch : Prop :=
  ∀ (p : PortId) (s : State), s.powered = true →
    ((s.port p).link = .up →
        ∃ (t : State) (u : Port), exec (.lockLost p) s = .next (finish t) ∧ SameCore s t
          ∧ t.port p = { u with
              link := .glitch, signal := false, glitchTimer := some 120, transmitter := none
              urgent := (s.port p).urgent, normal := (s.port p).normal }
          ∧ u.linkSide = (s.port p).linkSide
          ∧ u.dropped =
              (if (s.port p).transmitter = none then (s.port p).dropped else satInc (s.port p).dropped)
          ∧ t.port p.other = s.port p.other ∧ t.relay = s.relay)
      ∧ ((s.port p).link = .glitch →
          ∃ t, exec (.lockGained p) s = .next (finish t) ∧ SameCore s t
            ∧ (t.port p).linkSide =
                { (s.port p).linkSide with link := .up, signal := true, glitchTimer := none }
            ∧ t.port p.other = s.port p.other ∧ t.relay = s.relay)

/-- The silence timer running out in UP or GLITCH (SILENT), the glitch tolerance running out (UNCOUPLED), the
eighth errored frame of a block (CONTACT, with the holdoff of 5000 ms) and, in UP, a HELLO of any variant from
another identity or end than the recorded neighbour's (NEIGHBOUR-CHANGED) are port down events: the port enters
DOWN with its reason, without a neighbour, its lanes and transmitter empty and every frame counted, the signal
withheld, a pending offer ended with outcome ABORTED; then the Consist Unit is told and PORT-DOWN raised (R17,
R22, R27, R28, R29, R30, R32). It originates a CHANGE and takes the claim status by the new link states; where
the lead validity changes with it, which of the two CHANGEs comes first is a free value (R40, R41, R42;
assumption 8). -/
def Obligations.PortDownEvents : Prop :=
  (∀ (p : PortId) (s : State), s.powered = true →
    let Falls (c : Instr) (reason : DownReason) (holdoff : Option Nat) (interval : Nat) : Prop :=
      ∃ t, exec c s =
          .next (finish (raise .portDown (portNumber p) (downCode reason).toNat (tellPortEvent t)))
        ∧ (t.port p).link = .down ∧ (t.port p).lastDown = reason ∧ (t.port p).neighbour = none
        ∧ (t.port p).silence = none ∧ (t.port p).helloTimer = none
        ∧ (t.port p).dropInterval = some interval ∧ (t.port p).contactHoldoff = holdoff
        ∧ (t.port p).urgent = [] ∧ (t.port p).normal = [] ∧ (t.port p).transmitter = none
        ∧ (t.port p).dropped =
            min 65535
              ((s.port p).dropped + (s.port p).urgent.length + (s.port p).normal.length
                + (s.port p).transmitter.toList.length)
        ∧ (t.port p).offer = .none ∧ (t.port p).testDue = false
        ∧ (t.port p).result =
            (match (s.port p).offer with
              | .pending n _ => some { frames := n, sent := 0, received := 0, errored := 0, missing := 0
                                       outcome := .aborted }
              | _ => (s.port p).result)
        ∧ (t.port p.other).linkSide = (s.port p.other).linkSide ∧ t.consist = s.consist
        ∧ t.sweep = s.sweep ∧ t.door = s.door ∧ t.heat = s.heat ∧ t.store = s.store
    (s.port p).dropped ≤ 65535 →
      ((s.port p).silence ≠ none → ((s.port p).link = .up ∨ (s.port p).link = .glitch) →
          Falls (.silenceTimeout p) .silent (s.port p).contactHoldoff 200)
        ∧ ((s.port p).link = .glitch →
            Falls (.glitchToleranceExpiry p) .uncoupled (s.port p).contactHoldoff 200)
        ∧ ((s.port p).link = .up → (s.port p).windowErrors = 7 →
            Falls (.frameErrored p) .contact (some 5000) 5000)
        ∧ (∀ (h : Header) (old who : Neighbour) (v : HelloVariant), (s.port p).link = .up →
            h.destination = 0#8 → h.flags.getLsbD 0 = true → who.identity ≠ s.identity →
            (∀ n, v = .testOffer n → 16 ≤ n ∧ n ≤ 4096) → (s.port p).neighbour = some old →
            (old.identity ≠ who.identity ∨ old.farEnd ≠ who.farEnd) →
            Falls (helloCommand p h (helloPayload who.identity who.farEnd who.generation v))
              .neighbourChanged (s.port p).contactHoldoff 200))
    ∧ (∀ s : State,
        let drawn : State := { s with freeCount := s.freeCount + 1 }
        ((claimStatusNow s = .valid ↔ s.consist.status = .valid) →
            tellPortEvent s = originateChange (evalClaims s))
          ∧ (¬(claimStatusNow s = .valid ↔ s.consist.status = .valid) →
              tellPortEvent s = evalClaims (originateChange drawn)
                ∨ tellPortEvent s = originateChange (evalClaims drawn)))

/-- The settle time reached with the count at 3 takes the port to UP as one step: the neighbour record, the
counters and the window, the silence timer at 3000 ms, the HELLO timer at 1000 ms; then the Consist Unit is
told and PORT-UP raised; with the count below 3 only the settle time is reached (R25, R26). The HELLO timer
due sends one plain HELLO, with this node's identity, sending end and active generation, and runs again for
100 ms in SETTLING, else 1000 ms (R24). -/
def Obligations.SettlingEndsInUpAndHelloIsTimed : Prop :=
  (∀ (p : PortId) (s : State), s.powered = true → (s.port p).link = .settling →
     (s.port p).settle.time ≠ none →
     (∀ who, (s.port p).settle.candidate = some who → (s.port p).settle.count = 3 →
         exec (.settleTimeReached p) s =
           .next (finish (raise .portUp (portNumber p) (endCode who.farEnd).toNat (tellPortEvent
             (s.modPort p fun q =>
               { q with
                 link := .up, settle := { candidate := none, count := 0, time := none }
                 neighbour := some who, received := 0, errored := 0
                 windowFrames := 0, windowErrors := 0
                 silence := some 3000, helloTimer := some 1000 })))))
       ∧ ((s.port p).settle.count ≠ 3 →
           exec (.settleTimeReached p) s =
             .next (finish
               (s.modPort p fun q => { q with settle := { q.settle with time := none } }))))
    ∧ (∀ (p : PortId) (s : State), s.powered = true → (s.port p).helloTimer ≠ none →
         ((s.port p).link = .settling ∨ (s.port p).link = .up) → (s.port p).testDue = false →
         (s.port p).urgent = [] → (s.port p).transmitter = none →
         ∃ t e, exec (.helloTimer p) s = .next t ∧ (t.port p).transmitter = some e
           ∧ e.frame.kind = 0x01#8 ∧ e.frame.header.destination = 0#8 ∧ e.frame.header.flags = 1#8
           ∧ e.frame.header.generation = s.consist.generation
           ∧ e.frame.payload = helloPayload s.identity p.cabEnd s.consist.generation .plain
           ∧ (t.port p).helloTimer = some (if (s.port p).link = .settling then 100 else 1000)
           ∧ (t.port p).link = (s.port p).link ∧ t.consist = s.consist)

/-- A pending offer ends REFUSED, with nothing sent or received, when its timer runs out and when a
TEST-REFUSED comes from the recorded neighbour; TEST-ACCEPT makes TEST due instead, and the port stays UP
(R27, R32, R34). After a TEST-ACCEPT the port keeps its frame count with the offer timer stopped, no offer being
pending any longer: a TEST-ACCEPT or TEST-REFUSED then only restarts the silence timer (the model's choice,
assumption 18). TEST due, the port UP and its transmitter free: the port enters TEST, a port down event
with reason TEST-START, its lanes emptied, its offer gone, its counts at 0 and its first TEST frame in the
transmitter (built before the Consist Unit is told: the model's choice, assumption 58); then the Consist Unit is
told and PORT-DOWN raised (R30, R34). -/
def Obligations.OffersEndInRefusalOrTest : Prop :=
  (∀ (p : PortId) (n : Nat) (s : State), s.powered = true →
     let refused : TestResult :=
       { frames := n, sent := 0, received := 0, errored := 0, missing := 0, outcome := .refused }
     let Answered (h : Header) (who : Neighbour) : Prop :=
       (s.port p).link = .up ∧ (s.port p).neighbour = some who ∧ who.identity ≠ s.identity
         ∧ h.destination = 0#8 ∧ h.flags = 1#8
     let answer (who : Neighbour) (v : HelloVariant) : List Byte :=
       helloPayload who.identity who.farEnd who.generation v
     (∀ left, (s.port p).offer = .pending n (some left) →
         exec (.offerTimeout p) s =
             .next (finish (s.modPort p fun q => { q with offer := .none, result := some refused }))
           ∧ ∀ (h : Header) (who : Neighbour), Answered h who →
               exec (.testRefused p h (answer who .testRefused)) s =
                   .next (finish (s.modPort p fun q =>
                     { q.countGood with
                       silence := some 3000, offer := .none, result := some refused }))
                 ∧ exec (.testAccept p h (answer who .testAccept)) s =
                     .next (finish (s.modPort p fun q =>
                       { q.countGood with
                         silence := some 3000, offer := .pending n none, testDue := true })))
       ∧ (∀ (h : Header) (who : Neighbour), Answered h who → (s.port p).offer = .pending n none →
           let supervised : State := s.modPort p fun q => { q.countGood with silence := some 3000 }
           exec (.testRefused p h (answer who .testRefused)) s = .next (finish supervised)
             ∧ exec (.testAccept p h (answer who .testAccept)) s = .next (finish supervised)))
    ∧ (∀ (p : PortId) (n : Nat) (s : State), s.powered = true → (s.port p).testDue = true →
         (s.port p).link = .up → (s.port p).transmitter = none → (s.port p).offer.frames = some n →
         ∃ t, exec (.testEntry p) s =
             .next (finish (raise .portDown (portNumber p) 6 (tellPortEvent t)))
           ∧ (t.port p).link = .test ∧ (t.port p).lastDown = .testStart ∧ (t.port p).neighbour = none
           ∧ (t.port p).silence = none ∧ (t.port p).helloTimer = none ∧ (t.port p).offer = .none
           ∧ (t.port p).run = some { frames := n, sent := 0, received := 0, errored := 0, last := none
                                     quiet := none }
           ∧ (t.port p).urgent = [] ∧ (t.port p).normal = []
           ∧ (0 < n → (t.port p).transmitter.map (fun e => (e.frame.kind, e.frame.payload)) =
               some (0x02#8, testPayload 0))
           ∧ (t.port p).received = (s.port p).received ∧ (t.port p).errored = (s.port p).errored
           ∧ (t.port p).windowFrames = (s.port p).windowFrames
           ∧ (t.port p).windowErrors = (s.port p).windowErrors
           ∧ t.consist = s.consist ∧ t.door = s.door ∧ t.heat = s.heat)

/-- A link test that runs counts each own frame sent, its transmitter taking the next while frames remain and
the quiet time of 200 ms starting at the last. An exact TEST frame with a sequence below n and above the last
received is received; a TEST frame with another pattern or length, a sequence of n or above, or one not above
the last received is errored; each of them starts a running quiet time afresh. The frame n - 1 received and
every own frame sent, whichever comes last, or the quiet time run out, or a loss of lock, finishes the test
COMPLETE (ABORTED where own frames remain at a loss of lock): the result record, DOWN with reason TEST-END and
the drop interval (R22, R35, R36). An own TEST frame has the flags 0, the model's choice (assumption 30). -/
def Obligations.LinkTestCountsAndFinishes : Prop :=
  ∀ (p : PortId) (r : TestRun) (h : Header) (s : State), s.powered = true →
    (s.port p).link = .test → (s.port p).run = some r → 0 < r.frames →
    let own (i : Nat) : LaneEntry :=
      { frame :=
          { kind := 0x02#8
            header := { generation := s.consist.generation, flags := 0#8, destination := 0#8
                        source := s.sourcePosition, tag := 0#8 }
            payload := testPayload i }
        mark := .plain }
    let Finished (c : Instr) (r : TestRun) (outcome : TestOutcome) : Prop :=
      ∃ t, exec c s = .next (finish (evalClaims t)) ∧ (t.port p).link = .down
        ∧ (t.port p).lastDown = .testEnd ∧ (t.port p).dropInterval = some 200
        ∧ (t.port p).run = none ∧ t.consist = s.consist
        ∧ (t.port p).result = some { frames := r.frames, sent := r.sent, received := r.received
                                     errored := r.errored, missing := r.frames - r.received
                                     outcome := outcome }
    let Goes (c : Instr) (r : TestRun) : Prop :=
      exec c s = .next (finish (s.modPort p fun q => { q with run := some r }))
    let afresh : Option Nat := r.quiet.map fun _ => 200
    let lastHeard : Prop := r.last = some (r.frames - 1)
    let Above (i : Nat) : Prop := ∀ l, r.last = some l → l < i
    (r.sent + 1 < r.frames →
        exec (.testFrameSent p) s = .next (finish (s.modPort p fun q =>
          { q with
            run := some { r with sent := r.sent + 1, quiet := none }
            transmitter := some (own (r.sent + 1)) })))
      ∧ (r.sent + 1 = r.frames → ¬lastHeard →
          exec (.testFrameSent p) s = .next (finish (s.modPort p fun q =>
            { q with
              run := some { r with sent := r.sent + 1, quiet := some 200 }, transmitter := none })))
      ∧ (r.sent + 1 = r.frames → lastHeard →
          Finished (.testFrameSent p) { r with sent := r.sent + 1 } .complete)
      ∧ (∀ i, i < r.frames → i < 65536 → Above i →
          ((r.sent ≠ r.frames ∨ i + 1 ≠ r.frames) →
              Goes (.test p h (testPayload i))
                { r with received := r.received + 1, last := some i, quiet := afresh })
            ∧ (r.sent = r.frames → i + 1 = r.frames →
                Finished (.test p h (testPayload i)) { r with received := r.received + 1 } .complete))
      ∧ ((r.sent ≠ r.frames ∨ ¬lastHeard) →
          let errored : TestRun := { r with errored := r.errored + 1, quiet := afresh }
          (∀ payload, payload.length ≤ 720 → payload.length % 2 = 0 → (∀ i, payload ≠ testPayload i) →
              Goes (.test p h payload) errored)
            ∧ (∀ i, i < 65536 → (r.frames ≤ i ∨ ¬Above i) → Goes (.test p h (testPayload i)) errored))
      ∧ (r.quiet ≠ none → Finished (.testQuietTimeout p) r .complete)
      ∧ Finished (.lockLost p) r (if r.sent = r.frames then .complete else .aborted)

/-- When a transmitter finishes a frame, a port in UP or SETTLING takes the oldest urgent frame, else the oldest
normal frame, else nothing; once TEST is due it takes nothing, and in GLITCH nothing is handed out: a frame
offered there joins its lane at the newest end and waits (R13, R14, R34). The end of a TEST-ACCEPT, sent or lost,
makes TEST due while the offer is accepted (R33), that of the reply of a RESET-NODE makes a pending reset due
(R196; that a loss in transmission counts too is the model's, assumption 48). A lost frame is counted, saturating
at 65535; the first loss while the holdoff is not running raises QUEUE-DROP with the port and the new count and
starts the holdoff at 1000 ms, a loss while it runs raises nothing, and the end of the holdoff only stops it
(R18). -/
def Obligations.TransmittersAndDrops : Prop :=
  (∀ (p : PortId) (e : LaneEntry) (s : State), s.powered = true →
     (s.port p).transmitter = some e →
     let gone : State :=
       if e.mark = .resetReply ∧ s.req.resetPending = true then
         { s with req := { s.req with resetDue := true } }
       else s
     let testNow : Prop :=
       (s.port p).testDue = true ∨ (e.mark = .testAccept ∧ ∃ n, (s.port p).offer = .accepted n)
     let idles (due : Bool) : Prop :=
       exec (.transmitEnd p) s =
         .next (finish (gone.modPort p fun q => { q with transmitter := none, testDue := due }))
     (((s.port p).link = .up ∨ (s.port p).link = .settling) →
         (¬testNow →
             exec (.transmitEnd p) s = .next (finish (gone.modPort p fun q =>
               { q with
                 transmitter := (q.urgent ++ q.normal).head?
                 urgent := q.urgent.tail
                 normal := if q.urgent = [] then q.normal.tail else q.normal })))
           ∧ (testNow → idles true))
       ∧ ((s.port p).link = .glitch → (testNow → idles true) ∧ (¬testNow → idles false)))
    ∧ (∀ (p : PortId) (e : LaneEntry) (s : State), (s.port p).link = .glitch →
         let normal : Bool :=
           decide (e.frame.kind = 0x0B#8 ∨ e.frame.kind = 0x0C#8 ∨ e.frame.kind = 0x0D#8)
         (normal = false → (s.port p).urgent.length < 8 →
             offer p e s = s.modPort p fun q => { q with urgent := q.urgent ++ [e] })
           ∧ (normal = true → (s.port p).normal.length < 16 →
               offer p e s = s.modPort p fun q => { q with normal := q.normal ++ [e] }))
    ∧ (∀ (p : PortId) (s : State), s.powered = true →
         exec (.queueDropHoldoffEnd p) s =
           .next (finish (s.modPort p fun q => { q with dropHoldoff := none })))
    ∧ (∀ (p : PortId) (e : LaneEntry) (s : State),
         let t := dropFrame p e s
         (t.port p).dropped = satInc (s.port p).dropped
           ∧ t.port p.other = s.port p.other ∧ t.consist = s.consist
           ∧ ((t.port p).testDue = true ↔
               ((s.port p).testDue = true
                 ∨ (e.mark = .testAccept ∧ ∃ n, (s.port p).offer = .accepted n)))
           ∧ (t.req.resetDue = true ↔
               (s.req.resetDue = true ∨ (e.mark = .resetReply ∧ s.req.resetPending = true)))
           ∧ ((s.port p).dropHoldoff = none → (t.port p).dropHoldoff = some 1000)
           ∧ (s.consist.status ≠ .valid → s.req.notices.length < 32 → (s.port p).dropHoldoff = none →
               t.req.notices =
                 s.req.notices ++
                   [{ kind := .queueDrop, subject := portNumber p
                      value := BitVec.ofNat 16 (satInc (s.port p).dropped)
                      generation := s.consist.generation }])
           ∧ (∀ left, (s.port p).dropHoldoff = some left →
               (t.port p).dropHoldoff = some left ∧ t.req.notices = s.req.notices))

/-- R15 and R16: a sweep offered to a full urgent lane displaces the oldest sweep of its own kind, else it is
dropped; a DOOR-CLOSE there evicts the oldest entry of another kind, else it is dropped; any other urgent
frame at a full urgent lane, and any frame at a full normal lane, is dropped and the lane unchanged. Each
loss is one drop, and what the urgent lane loses is never made up in the normal lane. While the urgent lane
is not full, a frame joins at its newest end and nothing is dropped. -/
def Obligations.FullLaneRules : Prop :=
  (∀ (p : PortId) (e : LaneEntry) (s : State),
     (e.frame.kind = Config.kindSweepOut ∨ e.frame.kind = Config.kindSweepBack) →
     8 ≤ (s.port p).urgent.length →
     (∀ before old after, (s.port p).urgent = before ++ old :: after →
         old.frame.kind = e.frame.kind → (∀ x ∈ before, x.frame.kind ≠ e.frame.kind) →
         ((joinUrgent p e s).port p).urgent = before ++ after ++ [e]
           ∧ ((joinUrgent p e s).port p).dropped = satInc (s.port p).dropped)
       ∧ ((∀ x ∈ (s.port p).urgent, x.frame.kind ≠ e.frame.kind) →
           ((joinUrgent p e s).port p).urgent = (s.port p).urgent
             ∧ ((joinUrgent p e s).port p).dropped = satInc (s.port p).dropped))
    ∧ (∀ (p : PortId) (e : LaneEntry) (s : State),
         ((s.port p).urgent.length < 8 →
             ((joinUrgent p e s).port p).urgent = (s.port p).urgent ++ [e]
               ∧ ((joinUrgent p e s).port p).dropped = (s.port p).dropped)
           ∧ (8 ≤ (s.port p).urgent.length → e.frame.kind = Config.kindDoorClose →
             (∀ before old after, (s.port p).urgent = before ++ old :: after →
                 old.frame.kind ≠ Config.kindDoorClose →
                 (∀ x ∈ before, x.frame.kind = Config.kindDoorClose) →
                 ((joinUrgent p e s).port p).urgent = before ++ after ++ [e]
                   ∧ ((joinUrgent p e s).port p).dropped = satInc (s.port p).dropped)
             ∧ ((∀ x ∈ (s.port p).urgent, x.frame.kind = Config.kindDoorClose) →
                 ((joinUrgent p e s).port p).urgent = (s.port p).urgent
                   ∧ ((joinUrgent p e s).port p).dropped = satInc (s.port p).dropped))
           ∧ (8 ≤ (s.port p).urgent.length →
               e.frame.kind ∉ [Config.kindDoorClose, Config.kindSweepOut, Config.kindSweepBack] →
               ((joinUrgent p e s).port p).urgent = (s.port p).urgent
                 ∧ ((joinUrgent p e s).port p).dropped = satInc (s.port p).dropped)
           ∧ (16 ≤ (s.port p).normal.length →
               ((joinNormal p e s).port p).normal = (s.port p).normal
                 ∧ ((joinNormal p e s).port p).dropped = satInc (s.port p).dropped)
           ∧ ((joinUrgent p e s).port p).normal = (s.port p).normal)

/-! ## Received frames and the Relay Unit -/

/-- A frame that passes R3 in UP is counted in frames received and in the error window, which starts afresh at
64, and goes to the Relay Unit; in every other state it is discarded uncounted (R3, R7, R19, R29). A HELLO acts
in UP and SETTLING alone and there only where R24 finds it valid, a TEST frame in TEST alone; elsewhere either
is counted in UP and discarded in the other states (R3, R7, R24, R35). A frame that fails R3 in UP is counted as
received and errored and in the window; in SETTLING it clears the candidate and the count, in TEST it is errored
in the test, in DOWN and GLITCH nothing is received (R3, R25, R29, R35). That an errored frame in TEST leaves a
running quiet time as it is, being no arrival of a TEST frame, is the model's choice (assumption 59). -/
def Obligations.FramesAreCountedAtThePort : Prop :=
  (∀ (p : PortId) (h : Header) (payload : List Byte) (s : State), s.powered = true →
     payload.length ≤ 720 →
     let rows : List (Byte × Instr) :=
       [(0x03#8, .change p h payload), (0x04#8, .count p h payload), (0x05#8, .roll p h payload),
        (0x06#8, .confirm p h payload), (0x07#8, .sweepOut p h payload), (0x08#8, .sweepBack p h payload),
        (0x09#8, .doorReleaseFrame p h payload), (0x0A#8, .doorCloseFrame p h payload),
        (0x0B#8, .request p h payload), (0x0C#8, .reply p h payload), (0x0D#8, .notice p h payload)]
     let counted : State := s.modPort p fun q =>
       { q with
         received := satInc q.received
         windowFrames := if 64 ≤ q.windowFrames + 1 then 0 else q.windowFrames + 1
         windowErrors := if 64 ≤ q.windowFrames + 1 then 0 else q.windowErrors }
     (∀ r ∈ rows,
         ((s.port p).link = .up →
             exec r.2 s =
               .next (finish (relayFrame p { kind := r.1, header := h, payload := payload } counted)))
           ∧ ((s.port p).link ≠ .up → exec r.2 s = .next (finish s)))
       ∧ (∀ kind, kind ∉ rows.map Prod.fst → kind ≠ 0x01#8 → kind ≠ 0x02#8 →
           ((s.port p).link = .up →
               exec (.frameUnknownKind p kind h payload) s =
                 .next (finish (counted.modRelay fun r =>
                   { r with headerError := satInc r.headerError })))
             ∧ ((s.port p).link ≠ .up →
                 exec (.frameUnknownKind p kind h payload) s = .next (finish s)))
       ∧ (∀ i ∈ ([.hello p h payload, .testOffer p h payload, .testAccept p h payload
                 , .testRefused p h payload] : List Instr),
           let frames := 256 * (payload.getD 9 0#8).toNat + (payload.getD 10 0#8).toNat
           let Invalid : Prop :=
             payload.length ≠ 11 ∨ (payload.getD 6 0#8 ≠ 1#8 ∧ payload.getD 6 0#8 ≠ 2#8)
               ∨ 3 < (payload.getD 8 0#8).toNat
               ∨ (payload.getD 8 0#8 = 1#8 ∧ (frames < 16 ∨ 4096 < frames))
               ∨ h.destination ≠ 0#8 ∨ h.flags.getLsbD 0 = false ∨ payload.take 6 = idBytes s.identity
           (((s.port p).link = .down ∨ (s.port p).link = .glitch ∨ (s.port p).link = .test) →
               exec i s = .next (finish s))
             ∧ (Invalid → (s.port p).link = .up → exec i s = .next (finish counted))
             ∧ (Invalid → (s.port p).link = .settling → exec i s = .next (finish s)))
       ∧ (payload.length % 2 = 0 →
           ((s.port p).link = .up → exec (.test p h payload) s = .next (finish counted))
             ∧ ((s.port p).link ≠ .up → (s.port p).link ≠ .test →
                 exec (.test p h payload) s = .next (finish s))))
    ∧ (∀ (p : PortId) (s : State), s.powered = true →
         ((s.port p).link = .up → (s.port p).windowErrors < 7 →
             exec (.frameErrored p) s = .next (finish (s.modPort p fun q =>
               { q with
                 received := satInc q.received, errored := satInc q.errored
                 windowFrames := if 64 ≤ q.windowFrames + 1 then 0 else q.windowFrames + 1
                 windowErrors := if 64 ≤ q.windowFrames + 1 then 0 else q.windowErrors + 1 })))
           ∧ ((s.port p).link = .settling →
               exec (.frameErrored p) s = .next (finish (s.modPort p fun q =>
                 { q with settle := { q.settle with candidate := none, count := 0 } })))
           ∧ (∀ r, (s.port p).link = .test → (s.port p).run = some r →
               exec (.frameErrored p) s = .next (finish (s.modPort p fun q =>
                 { q with run := some { r with errored := r.errored + 1 } })))
           ∧ (((s.port p).link = .down ∨ (s.port p).link = .glitch) →
               exec (.frameErrored p) s = .next (finish s)))

/-- R4: a frame of an unknown kind, with the other lane's flag, with a destination outside its kind's class
or a source position above 32 only increments the header-error counter; any other goes on to acceptance. -/
def Obligations.HeaderCheck : Prop :=
  ∀ (p : PortId) (f : Frame) (s : State),
    let k := f.kind.toNat
    let d := f.header.destination.toNat
    let Sound : Prop :=
      (0x03 ≤ k ∧ k ≤ 0x0D)
        ∧ (f.header.flags.getLsbD 0 = true ↔ k < 0x0B)
        ∧ ((k = 0x03 ∨ k = 0x09 ∨ k = 0x0A) → d = 255)
        ∧ ((0x04 ≤ k ∧ k ≤ 0x08) → d = 0)
        ∧ ((k = 0x0B ∨ k = 0x0C) → 1 ≤ d ∧ d ≤ 32)
        ∧ (k = 0x0D → d = 1)
        ∧ f.header.source.toNat ≤ 32
    (¬Sound → relayFrame p f s =
        { s with relay := { s.relay with headerError := satInc s.relay.headerError } })
      ∧ (Sound → relayFrame p f s =
          if needsGeneration f.kind && !s.settledIn f.header.generation then
            { s with relay := s.relay.refuseKind f.kind }
          else relayAccepted p f s)

/-- A REQUEST, REPLY, NOTICE, DOOR-RELEASE, SWEEP-OUT or SWEEP-BACK at a node that is not SETTLED in its
generation is dropped: only the refusal counter of its kind moves, neither a lane nor any other unit. CHANGE,
COUNT, ROLL, CONFIRM and DOOR-CLOSE are taken in every consist state and generation (R5). -/
def Obligations.GenerationAcceptance : Prop :=
  ∀ (p : PortId) (f : Frame) (s : State), headerOk f = true →
    ((s.consist.state ≠ .settled ∨ f.header.generation ≠ s.consist.generation) →
        let r := s.relay
        (f.kind = 0x0B#8 → relayFrame p f s =
            { s with relay := { r with refusedRequest := satInc r.refusedRequest } })
          ∧ (f.kind = 0x0C#8 → relayFrame p f s =
              { s with relay := { r with refusedReply := satInc r.refusedReply } })
          ∧ (f.kind = 0x0D#8 → relayFrame p f s =
              { s with relay := { r with refusedNotice := satInc r.refusedNotice } })
          ∧ (f.kind = 0x09#8 → relayFrame p f s =
              { s with relay := { r with refusedRelease := satInc r.refusedRelease } })
          ∧ (f.kind = 0x07#8 → relayFrame p f s =
              { s with relay := { r with refusedSweepOut := satInc r.refusedSweepOut } })
          ∧ (f.kind = 0x08#8 → relayFrame p f s =
              { s with relay := { r with refusedSweepBack := satInc r.refusedSweepBack } }))
      ∧ ((s.consist.state = .settled ∧ f.header.generation = s.consist.generation) →
          relayFrame p f s = relayAccepted p f s)
      ∧ (f.kind ∈ [0x03#8, 0x04#8, 0x05#8, 0x06#8, 0x0A#8] → relayFrame p f s = relayAccepted p f s)

/-- R8: an accepted REQUEST, REPLY or NOTICE is delivered at its own position, forwarded head-ward below it
and tail-ward above it, and dropped at the tail, counted as beyond-tail; a port that is DOWN, SETTLING or
TEST drops it, counted as no-route. (What a delivery does is said by `AnswersGoBackToTheSource` and
`ManagementRequests`.) -/
def Obligations.AddressedFramesAreRouted : Prop :=
  ∀ (p : PortId) (h : Header) (payload : List Byte) (s : State), s.powered = true →
    (s.port p).link = .up → payload.length ≤ 720 → s.settledIn h.generation = true →
    h.source.toNat ≤ 32 → h.flags.getLsbD 0 = false → h.destination.toNat ≤ 32 →
    let s' : State := s.modPort p Port.countGood
    let rows : List (Byte × Instr × (Frame → State → State)) :=
      [(0x0B#8, .request p h payload, deliverRequest),
       (0x0C#8, .reply p h payload, fun f => deliverReply f .plain),
       (0x0D#8, .notice p h payload, deliverNotice)]
    ∀ r ∈ rows,
      let f : Frame := { kind := r.1, header := h, payload := payload }
      let e : LaneEntry := { frame := f, mark := .plain }
      let d := h.destination.toNat
      1 ≤ d → (r.1 = 0x0D#8 → d = 1) →
      (d = s.position → exec r.2.1 s = .next (finish (r.2.2 f s')))
        ∧ (d < s.position → exec r.2.1 s = .next (finish (offer s.headPort e s')))
        ∧ (s.position < d → s.position < s.n →
            exec r.2.1 s = .next (finish (offer s.tailPort e s')))
        ∧ (s.position < d → s.position = s.n →
            exec r.2.1 s = .next (finish (s'.modRelay fun y =>
              { y with beyondTail := satInc y.beyondTail })))
        ∧ (∀ q, ((s.port q).link = .down ∨ (s.port q).link = .settling ∨ (s.port q).link = .test) →
            offer q e s' = s'.modRelay fun y => { y with noRoute := satInc y.noRoute })

/-- A valid HELLO from the recorded neighbour in UP restarts the silence timer and renews the neighbour's
generation; a TEST-OFFER then is accepted, taking its count as the port's own, where the node is not SETTLED or
WORKSHOP is asserted and the port holds no offer; elsewhere it is refused by a TEST-REFUSED, the offer and the
result left as they are. In SETTLING a valid HELLO of the candidate raises the count to at most 3, another
becomes the candidate with count 1; where it raises the count to 3 and the settle time has been reached, the
port goes UP: the neighbour is that of this HELLO, the Consist Unit is told and PORT-UP raised (R25, R26, R27,
R33). -/
def Obligations.HelloSupervisesAndSettles : Prop :=
  ∀ (p : PortId) (h : Header) (who : Neighbour) (s : State), s.powered = true →
    h.destination = 0#8 → h.flags = 1#8 → who.identity ≠ s.identity →
    let plain := helloPayload who.identity who.farEnd who.generation .plain
    (∀ old, (s.port p).link = .up → (s.port p).neighbour = some old → old.identity = who.identity →
        old.farEnd = who.farEnd →
        exec (.hello p h plain) s = .next (finish (s.modPort p fun q =>
          { q.countGood with neighbour := some who, silence := some 3000 }))
        ∧ (∀ n, 16 ≤ n → n ≤ 4096 → (s.consist.state ≠ .settled ∨ s.pins.workshop = true) →
            (s.port p).offer = .none →
            ∃ t, exec (.testOffer p h
                  (helloPayload who.identity who.farEnd who.generation (.testOffer n))) s =
                .next (finish t)
              ∧ (t.port p).link = .up ∧ (t.port p).offer = .accepted n ∧ (t.port p).result = none
              ∧ (t.port p).silence = some 3000 ∧ (t.port p).neighbour = some who
              ∧ SameCore s t
              ∧ JoinsLane p
                  { frame :=
                      { kind := 0x01#8, header := linkLocal s.consist.generation s.sourcePosition
                        payload := helloPayload s.identity p.cabEnd s.consist.generation .testAccept }
                    mark := .testAccept } s t)
        ∧ (∀ n, 16 ≤ n → n ≤ 4096 →
            ((s.consist.state = .settled ∧ s.pins.workshop = false) ∨ (s.port p).offer ≠ .none) →
            ∃ t, exec (.testOffer p h
                  (helloPayload who.identity who.farEnd who.generation (.testOffer n))) s =
                .next (finish t)
              ∧ (t.port p).link = .up ∧ (t.port p).offer = (s.port p).offer
              ∧ (t.port p).result = (s.port p).result ∧ (t.port p).silence = some 3000
              ∧ (t.port p).neighbour = some who ∧ SameCore s t
              ∧ JoinsUrgent p
                  { kind := 0x01#8, header := linkLocal s.consist.generation s.sourcePosition
                    payload := helloPayload s.identity p.cabEnd s.consist.generation .testRefused }
                  s t))
      ∧ ((s.port p).link = .settling → ((s.port p).settle.time ≠ none ∨ (s.port p).settle.count < 2) →
          (∀ c, (s.port p).settle.candidate = some c → c.identity = who.identity →
              c.farEnd = who.farEnd → (s.port p).settle.count < 3 →
              exec (.hello p h plain) s = .next (finish (s.modPort p fun q =>
                { q with
                  settle := { q.settle with candidate := some who, count := q.settle.count + 1 } })))
          ∧ ((∀ c, (s.port p).settle.candidate = some c →
                c.identity ≠ who.identity ∨ c.farEnd ≠ who.farEnd) →
              exec (.hello p h plain) s = .next (finish (s.modPort p fun q =>
                { q with settle := { q.settle with candidate := some who, count := 1 } }))))
      ∧ ((s.port p).link = .settling →
          ∀ c, (s.port p).settle.candidate = some c → c.identity = who.identity → c.farEnd = who.farEnd →
            ((s.port p).settle.time = none → (s.port p).settle.count = 2 →
                exec (.hello p h plain) s =
                  .next (finish (raise .portUp (portNumber p) (endCode who.farEnd).toNat (tellPortEvent
                    (s.modPort p fun q =>
                      { q with
                        link := .up, settle := { candidate := none, count := 0, time := none }
                        neighbour := some who, received := 0, errored := 0
                        windowFrames := 0, windowErrors := 0
                        silence := some 3000, helloTimer := some 1000 })))))
              ∧ ((s.port p).settle.time ≠ none → (s.port p).settle.count = 3 →
                  exec (.hello p h plain) s = .next (finish s)))

/-- A CHANGE goes on unaltered through the other port, in UP and GLITCH; in DOWN, SETTLING and TEST it ends here
and nothing is counted. With a new id it is entered at the newest end of the list, the oldest of 8 making room,
and acts on the node by the table of R43, out of SETTLED with sweeping stopped and the train proof withdrawn
(R66, R147); at a head, whether confirmed or not, it then clears the conflict hold and starts a census. With an
id in the list only the repeats counter moves (R9, R10, R43, R46). That it goes on before it acts is the model's
(assumption 35). One of another length than 7 is a header error and goes nowhere (R198). A CHANGE the node
originates takes the next counter value, enters its id by the same rule, never twice, goes to every port in UP
or GLITCH with two copies to follow at 100 ms, and acts on the node itself in the same way (R10, R12, R42, R43).
The model's choice: its frame is built and offered before it acts (assumption 67). -/
def Obligations.ChangeActsOnce : Prop :=
  (∀ (p : PortId) (h : Header) (id : ChangeId) (s : State), Accepted p 0x03#8 h (changePayload id) s →
    let Passed (t : State) : Prop :=
      JoinsUrgent p.other { kind := 0x03#8, header := h, payload := changePayload id } s t
        ∧ ((s.port p.other).carries = false → t.port p.other = s.port p.other)
        ∧ t.port p = (s.port p).countGood
        ∧ t.door.leaves = s.door.leaves ∧ t.heat = s.heat ∧ t.store = s.store ∧ t.pins = s.pins
    ((∀ x ∈ s.relay.changeIds, x.id ≠ id) →
        ∃ t, exec (.change p h (changePayload id)) s =
            .next (finish (if s.consist.status = .valid then startCensus t else t))
          ∧ Passed t
          ∧ t.relay = { s.relay with
              changeIds :=
                (if 8 ≤ s.relay.changeIds.length then s.relay.changeIds.tail else s.relay.changeIds)
                  ++ [{ id := id, left := 10000 }] }
          ∧ t.consist = s.consist.afterChange
          ∧ (s.consist.state = .settled → SweepingStopped s t)
          ∧ (s.consist.state ≠ .settled → t.sweep = s.sweep ∧ t.door = s.door))
      ∧ ((∃ x ∈ s.relay.changeIds, x.id = id) →
          ∃ t, exec (.change p h (changePayload id)) s = .next (finish t) ∧ Passed t
            ∧ t.relay = { s.relay with repeats := satInc s.relay.repeats } ∧ t.consist = s.consist
            ∧ t.sweep = s.sweep ∧ t.door = s.door))
    ∧ (∀ (p : PortId) (h : Header) (payload : List Byte) (s : State),
        Accepted p 0x03#8 h payload s → payload.length ≠ 7 →
        exec (.change p h payload) s =
          .next (finish ((s.modPort p Port.countGood).modRelay fun r =>
            { r with headerError := satInc r.headerError })))
    ∧ (∀ s : State,
        let counter := s.consist.changeCounter + 1#8
        let id : ChangeId := (s.identity, counter)
        ∃ t, originateChange s = (if s.consist.status = .valid then startCensus t else t)
          ∧ CopySent counter s t
          ∧ ((∀ x ∈ s.relay.changeIds, x.id ≠ id) →
              t.relay = { s.relay with
                changeIds :=
                  (if 8 ≤ s.relay.changeIds.length then s.relay.changeIds.tail else s.relay.changeIds)
                    ++ [{ id := id, left := 10000 }] })
          ∧ ((∃ x ∈ s.relay.changeIds, x.id = id) → t.relay = s.relay)
          ∧ t.consist =
              { s.consist with
                changeCounter := counter
                copies := s.consist.copies ++ [{ counter := counter, copies := 2, timer := 100 }]
                : Consist }.afterChange
          ∧ (s.consist.state = .settled → SweepingStopped s t)
          ∧ (s.consist.state ≠ .settled → t.sweep = s.sweep ∧ t.door = s.door)
          ∧ t.heat = s.heat ∧ t.store = s.store ∧ t.pins = s.pins ∧ t.identity = s.identity)

/-! ## Lead and census -/

/-- A census starts at a head: the generation one above the larger of the last census generation and the tail
neighbour's, 1 after 255; with the tail-side port UP or GLITCH a COUNT with its own entry alone goes out there,
the phase is COUNTING, the roll timer at 1500 ms and, from a held consist, the state PENDING. With the tail-side
port in another state the head alone is the consist: it commits at once, raises CENSUS-DONE with value 1 and
starts sweeping (that order being the model's, assumption 45; a part it holds in another census is left as it
is, assumption 19). RETRY_TIMEOUT with the conflict hold clear starts one; with the hold set, or at a node that
is not head, only its timer stops (R46, R47, R48, R55, R66). -/
def Obligations.CensusStartsAtAHead : Prop :=
  ∀ s : State, s.powered = true →
    (let tail := s.censusTail
     let heard :=
       match (s.port tail).neighbour with
       | some n => n.generation.toNat
       | none => 0
     let m := max s.consist.lastGeneration.toNat heard
     let t := startCensus s
     let next (m : Nat) : Byte := BitVec.ofNat 8 (if m = 255 then 1 else m + 1)
     let own : ConsistEntry :=
       { identity := s.identity
         orientation := (match s.claimedEnd with | .end1 => .forward | .end2 => .reversed)
         recordValid := decide (s.store.validity = none)
         isHead := true, claimedEnd := some s.claimedEnd
         weight := BitVec.ofNat 8 s.store.content.weight
         leavesA := BitVec.ofNat 8 (leavesOf s.store.content .a)
         leavesB := BitVec.ofNat 8 (leavesOf s.store.content .b)
         vehicleNumber := s.store.content.vehicleNumber }
     (((s.port tail).link = .up ∨ (s.port tail).link = .glitch) →
       t.consist.censusGeneration.toNat = (if m = 255 then 1 else m + 1)
         ∧ t.consist.lastGeneration = t.consist.censusGeneration
         ∧ t.consist.phase = .counting ∧ t.consist.rollTimer = some 1500
         ∧ t.consist.retryTimer = none
         ∧ t.consist.state = (if s.consist.state = .unknown then .unknown else .pending)
         ∧ t.consist.activeMap = s.consist.activeMap ∧ t.consist.generation = s.consist.generation
         ∧ t.consist.wait = s.consist.wait ∧ t.consist.attempts = s.consist.attempts
         ∧ t.door.leaves = s.door.leaves ∧ t.heat = s.heat ∧ t.store = s.store
         ∧ JoinsUrgent tail
             { kind := 0x04#8, header := linkLocal (next m) s.sourcePosition, payload := entriesBytes [own] }
             s t)
       ∧ ((s.port tail).link ≠ .up → (s.port tail).link ≠ .glitch →
           let g := next s.consist.lastGeneration.toNat
           ∃ u, t = startSweeping (raise .censusDone 0#8 1 u)
             ∧ u.consist = { s.consist with
                 lastGeneration := g, censusGeneration := g, generation := g, activeMap := [own]
                 state := .settled, phase := .none, wait := .stopped, attempts := 0
                 retryTimer := none, rollTimer := none }
             ∧ u.door.headless = .stopped ∧ u.door.leaves = s.door.leaves
             ∧ u.lp1 = s.lp1 ∧ u.lp2 = s.lp2 ∧ u.store = s.store
             ∧ u.heat.groups = s.heat.groups))
      ∧ (s.consist.retryTimer ≠ none →
          let stopped : State := { s with consist := { s.consist with retryTimer := none } }
          (s.consist.status = .valid → s.consist.conflictHold = false →
              exec .retryTimeout s = .next (finish (startCensus stopped)))
            ∧ ((s.consist.status ≠ .valid ∨ s.consist.conflictHold = true) →
                exec .retryTimeout s = .next (finish stopped)))

/-- The census wait running out in STALE empties the map and takes generation 0, with the headless close
delay started; in PENDING it only becomes expired. The hold timer running out leaves the census: a PENDING
node returns to STALE, its wait running on, or to UNKNOWN where the wait had expired (R44, R45, R59, R126).
The roll timer running out in COUNTING fails the attempt as TIMEOUT: phase NONE, one more attempt, the retry
timer at 2000 ms, and the consist state by the same table (R45, R54). -/
def Obligations.CensusTimersBoundTrust : Prop :=
  (∀ s : State, s.powered = true →
     (∀ left, s.consist.wait = .running left →
         (s.consist.state = .stale →
             ∃ t, exec .censusWaitExpiry s = .next t ∧ t.consist.state = .unknown
               ∧ t.consist.activeMap = [] ∧ t.consist.generation = 0#8 ∧ t.consist.wait = .stopped
               ∧ t.door.headless = .running (s.store.content.headlessDelay * 1000)
               ∧ t.door.leaves = s.door.leaves ∧ t.heat.groups = s.heat.groups)
           ∧ (s.consist.state = .pending →
               exec .censusWaitExpiry s =
                 .next (finish { s with consist := { s.consist with wait := .expired } })))
       ∧ (s.consist.holdTimer ≠ none →
           (s.consist.phase = .awaitingRoll ∨ s.consist.phase = .holding) →
           ∃ t, exec .censusHoldTimeout s = .next t ∧ t.consist.phase = .none
             ∧ t.consist.pendingMap = none ∧ t.consist.holdTimer = none
             ∧ (∀ left, s.consist.state = .pending → s.consist.wait = .running left →
                 t.consist.state = .stale ∧ t.consist.wait = .running left
                   ∧ t.consist.activeMap = s.consist.activeMap)
             ∧ (s.consist.state = .pending → s.consist.wait = .expired →
                 t.consist.state = .unknown ∧ t.consist.activeMap = [])))
    ∧ (∀ s : State, s.powered = true → s.consist.rollTimer ≠ none → s.consist.phase = .counting →
         ∃ t, exec .rollTimeout s = .next t ∧ t.consist.phase = .none ∧ t.consist.rollTimer = none
           ∧ t.consist.pendingMap = none ∧ t.consist.retryTimer = some 2000
           ∧ t.consist.attempts = min (s.consist.attempts + 1) 255
           ∧ t.consist.conflictHold = s.consist.conflictHold
           ∧ (s.consist.state = .pending →
               (∀ left, s.consist.wait = .running left →
                   t.consist.state = .stale ∧ t.consist.wait = .running left)
                 ∧ (s.consist.wait = .stopped →
                     t.consist.state = .stale ∧ t.consist.wait = .running 4000)
                 ∧ (s.consist.wait = .expired →
                     t.consist.state = .unknown ∧ t.consist.activeMap = [] ∧ t.consist.generation = 0#8
                       ∧ t.consist.wait = .stopped))
           ∧ (s.consist.state = .unknown → t.consist.state = .unknown))

/-- A COUNT whose list R49 refuses, or whose bytes R198 does not take as entries, only moves the census-drop
counter; one taken draws a node that neither leads nor stands in CONFLICT into the census: position L + 1, the
COUNT's generation, the arrival port; it sends the COUNT with its own entry on and waits for the ROLL where its
other port carries, else it holds the list with its own entry as pending map and sends it back as a ROLL. A node
that leads or stands in CONFLICT, and a full list, are answered on the arrival port by a ROLL without a list,
LEAD-CONFLICT before TOO-LONG, and the node stays as it is (R49, R50, R51, R198). -/
def Obligations.CountDrawsANodeIn : Prop :=
  (∀ (p : PortId) (h : Header) (payload : List Byte) (s : State), Accepted p 0x04#8 h payload s →
    (¬∃ n rest, payload = n :: rest ∧ EntriesInRange n.toNat rest) →
    exec (.count p h payload) s =
      .next (finish ((s.modPort p Port.countGood).modConsist fun c =>
        { c with censusDrop := satInc c.censusDrop })))
    ∧ ∀ (p : PortId) (h : Header) (es : List ConsistEntry) (s : State),
    Accepted p 0x04#8 h (entriesBytes es) s → (∀ e ∈ es, EntryInRange e) → es.length < 256 →
    let Plausible : Prop :=
      es.length ≤ 32 ∧ (∃ e rest, es = e :: rest ∧ e.isHead = true) ∧ (es.map ConsistEntry.identity).Nodup
        ∧ ∀ e ∈ es, e.identity ≠ s.identity
    let joined : List ConsistEntry := es ++
      [{ identity := s.identity
         orientation := (match p with | .lp1 => .forward | .lp2 => .reversed)
         recordValid := decide (s.store.validity = none)
         isHead := false, claimedEnd := none
         weight := BitVec.ofNat 8 s.store.content.weight
         leavesA := BitVec.ofNat 8 (leavesOf s.store.content .a)
         leavesB := BitVec.ofNat 8 (leavesOf s.store.content .b)
         vehicleNumber := s.store.content.vehicleNumber }]
    (¬Plausible → exec (.count p h (entriesBytes es)) s =
        .next (finish ((s.modPort p Port.countGood).modConsist fun c =>
          { c with censusDrop := satInc c.censusDrop })))
      ∧ (Plausible → (s.consist.status = .valid ∨ s.consist.status = .conflict ∨ es.length = 32) →
          ∃ t, exec (.count p h (entriesBytes es)) s = .next (finish t) ∧ t.consist = s.consist
            ∧ t.door = s.door ∧ t.heat = s.heat ∧ t.sweep = s.sweep
            ∧ JoinsUrgent p
                { kind := 0x05#8, header := linkLocal h.generation s.sourcePosition
                  payload :=
                    rollPayload
                      (if s.consist.status = .valid ∨ s.consist.status = .conflict then .leadConflict
                       else .tooLong) [] } s t)
      ∧ (Plausible → s.consist.status ≠ .valid → s.consist.status ≠ .conflict → es.length < 32 →
          ∃ t, exec (.count p h (entriesBytes es)) s = .next (finish t)
            ∧ t.consist.censusGeneration = h.generation ∧ t.consist.arrival = some p
            ∧ t.consist.censusPosition = es.length + 1 ∧ t.consist.holdTimer = some 1500
            ∧ t.consist.state = (if s.consist.state = .unknown then .unknown else .pending)
            ∧ t.consist.wait = s.consist.wait ∧ t.consist.activeMap = s.consist.activeMap
            ∧ t.consist.generation = s.consist.generation
            ∧ ((s.port p.other).carries = true →
                t.consist.phase = .awaitingRoll ∧ t.consist.pendingMap = none
                  ∧ JoinsUrgent p.other
                      { kind := 0x04#8, header := linkLocal h.generation 0#8
                        payload := entriesBytes joined } s t)
            ∧ ((s.port p.other).carries = false →
                t.consist.phase = .holding ∧ t.consist.pendingMap = some joined
                  ∧ JoinsUrgent p
                      { kind := 0x05#8, header := linkLocal h.generation 0#8
                        payload := rollPayload .ok joined } s t))

/-- A ROLL at a node in AWAITING-ROLL, of its census and from the port opposite the arrival, becomes the pending
map where this node stands at its own position, and restarts the hold; a failure status takes the node out of
the census; either is sent on, generation, status and list unchanged, on the arrival port of its COUNT. At the
head a LEAD-CONFLICT or TOO-LONG of its census fails the attempt, and a list that starts with the head commits
it: a CONFIRM goes out, the node is SETTLED with that map in the census's generation, CENSUS-DONE is raised and
sweeping starts, in this order, which is the model's (assumption 45; a part it holds in another census is left
as it is, assumption 19). A failure status acts whatever list stands beside it and goes on with an empty one (the
model's, assumption 64). Every other ROLL only moves the census-drop counter: one whose bytes R198 does not take,
one out of phase, of another census or from another port, one with a list that is empty, above 32, holds an
identity twice or has this node at another place than its own (R52, R53, R54, R66, R198). -/
def Obligations.RollIsHeldOrEndsThePart : Prop :=
  (∀ (p : PortId) (h : Header) (payload : List Byte) (s : State), Accepted p 0x05#8 h payload s →
    let Dropped : Prop :=
      exec (.roll p h payload) s =
        .next (finish ((s.modPort p Port.countGood).modConsist fun c =>
          { c with censusDrop := satInc c.censusDrop }))
    ((¬∃ st n rest, payload = st :: n :: rest ∧ (st = 0#8 ∨ st = 2#8 ∨ st = 3#8)
          ∧ EntriesInRange n.toNat rest) → Dropped)
      ∧ (∀ st (es : List ConsistEntry), payload = rollPayload st es → (∀ e ∈ es, EntryInRange e) →
          es.length < 256 →
          (s.consist.status ≠ .valid →
              (s.consist.phase ≠ .awaitingRoll ∨ h.generation ≠ s.consist.censusGeneration
                ∨ s.consist.arrival ≠ some p.other) → Dropped)
            ∧ (s.consist.status = .valid →
                (s.consist.phase ≠ .counting ∨ h.generation ≠ s.consist.censusGeneration
                  ∨ p ≠ s.censusTail) → Dropped)
            ∧ (st = .ok →
                (es = [] ∨ 32 < es.length ∨ ¬(es.map ConsistEntry.identity).Nodup
                  ∨ positionIn s es ≠
                      (if s.consist.status = .valid then 1 else s.consist.censusPosition)) →
                Dropped)))
    ∧ ∀ (p : PortId) (h : Header) (es : List ConsistEntry) (s : State), (∀ e ∈ es, EntryInRange e) →
    1 ≤ es.length → es.length ≤ 32 → h.generation = s.consist.censusGeneration →
    (Accepted p 0x05#8 h (rollPayload .ok es) s → s.consist.status ≠ .valid →
        s.consist.phase = .awaitingRoll → s.consist.arrival = some p.other →
        (es.map ConsistEntry.identity).Nodup → positionIn s es = s.consist.censusPosition →
        ∃ t, exec (.roll p h (rollPayload .ok es)) s = .next (finish t)
          ∧ t.consist = { s.consist with
              pendingMap := some es, phase := .holding, holdTimer := some 1500 }
          ∧ t.door = s.door ∧ t.heat = s.heat
          ∧ JoinsUrgent p.other
              { kind := 0x05#8, header := linkLocal h.generation s.sourcePosition
                payload := rollPayload .ok es } s t)
      ∧ (∀ why beside, why ≠ RollStatus.ok → beside = [] ∨ beside = es →
          Accepted p 0x05#8 h (rollPayload why beside) s →
          (s.consist.status ≠ .valid → s.consist.phase = .awaitingRoll →
              s.consist.arrival = some p.other →
              ∃ t, exec (.roll p h (rollPayload why beside)) s = .next (finish t)
                ∧ t.consist.phase = .none ∧ t.consist.pendingMap = none
                ∧ t.consist.holdTimer = none
                ∧ JoinsUrgent p.other
                    { kind := 0x05#8, header := linkLocal h.generation s.sourcePosition
                      payload := rollPayload why [] } s t)
            ∧ (s.consist.status = .valid → s.consist.phase = .counting → p = s.censusTail →
                ∃ t, exec (.roll p h (rollPayload why beside)) s = .next t ∧ t.consist.phase = .none
                  ∧ t.consist.attempts = min (s.consist.attempts + 1) 255
                  ∧ t.consist.retryTimer = some 2000
                  ∧ t.consist.conflictHold =
                      (s.consist.conflictHold || decide (why = .leadConflict))))
      ∧ (Accepted p 0x05#8 h (rollPayload .ok es) s → s.consist.status = .valid →
          s.consist.phase = .counting → p = s.censusTail → (es.map ConsistEntry.identity).Nodup →
          positionIn s es = 1 →
          ∃ t, exec (.roll p h (rollPayload .ok es)) s =
              .next (finish (startSweeping (raise .censusDone 0#8 es.length t)))
            ∧ t.consist = { s.consist with
                activeMap := es, generation := h.generation, state := .settled, phase := .none
                wait := .stopped, attempts := 0, rollTimer := none }
            ∧ t.door.headless = .stopped ∧ t.door.leaves = s.door.leaves
            ∧ JoinsUrgent p
                { kind := 0x06#8, header := linkLocal h.generation s.sourcePosition
                  payload := [byteOf es.length] } s t)

/-- A CONFIRM at a node HOLDING its census commits it: the pending map becomes the active map in the census's
generation, the node is SETTLED, the last census generation follows, the timers and the headless close delay
stop and, where the generation changes, the last applied release serial, the sweep latches, the outward heat
latch and the pending increase go; at a position below N the CONFIRM goes on through the tail-side port of the
new map (R11, R57, R74, R126, R171). Any other, of another census or another N too, is counted in census-drop:
at a head and at a node SETTLED in its generation it does no more, at every other the node enters UNKNOWN and
originates a CHANGE (R58). So is one that is not a single byte N from 1 to 32, which does no more anywhere
(R198). -/
def Obligations.ConfirmCommits : Prop :=
  (∀ (p : PortId) (h : Header) (payload : List Byte) (s : State), Accepted p 0x06#8 h payload s →
    ((¬∃ n, payload = [n] ∧ 1 ≤ n.toNat ∧ n.toNat ≤ 32) ∨ s.consist.status = .valid) →
    exec (.confirm p h payload) s =
      .next (finish ((s.modPort p Port.countGood).modConsist fun c =>
        { c with censusDrop := satInc c.censusDrop })))
    ∧ ∀ (p : PortId) (h : Header) (n : Byte) (s : State), Accepted p 0x06#8 h [n] s → 1 ≤ n.toNat →
    n.toNat ≤ 32 → s.consist.status ≠ .valid →
    let Foreign : Prop :=
      s.consist.phase ≠ .holding ∨ h.generation ≠ s.consist.censusGeneration
        ∨ ∀ m, s.consist.pendingMap = some m → m.length ≠ n.toNat
    (∀ m, s.consist.phase = .holding → h.generation = s.consist.censusGeneration →
        s.consist.pendingMap = some m → m.length = n.toNat →
        ∃ t, exec (.confirm p h [n]) s = .next (finish t) ∧ t.consist.activeMap = m
          ∧ t.consist.generation = h.generation ∧ t.consist.state = .settled
          ∧ t.consist.phase = .none ∧ t.consist.pendingMap = none
          ∧ t.consist.lastGeneration = h.generation ∧ t.consist.holdTimer = none
          ∧ t.consist.wait = .stopped ∧ t.door.headless = .stopped ∧ t.door.leaves = s.door.leaves
          ∧ t.heat.groups = s.heat.groups ∧ t.heat.take = s.heat.take
          ∧ (h.generation ≠ s.consist.generation →
              t.relay.lastSerial = none ∧ t.sweep.latch = none ∧ t.sweep.freshness = none
                ∧ t.heat.latch = none ∧ t.heat.increase = none)
          ∧ (t.position < n.toNat →
              JoinsUrgent t.tailPort
                { kind := 0x06#8, header := linkLocal h.generation (byteOf t.position), payload := [n] } s t)
          ∧ (n.toNat ≤ t.position → t.lp1.urgent = s.lp1.urgent ∧ t.lp2.urgent = s.lp2.urgent))
      ∧ (Foreign → (s.consist.state = .settled ∧ h.generation = s.consist.generation) →
          exec (.confirm p h [n]) s =
            .next (finish ((s.modPort p Port.countGood).modConsist fun c =>
              { c with censusDrop := satInc c.censusDrop })))
      ∧ (Foreign → (s.consist.state ≠ .settled ∨ h.generation ≠ s.consist.generation) →
          ∃ t, exec (.confirm p h [n]) s = .next (finish t) ∧ t.consist.state = .unknown
            ∧ t.consist.activeMap = [] ∧ t.consist.generation = 0#8 ∧ t.consist.pendingMap = none
            ∧ t.consist.phase = .none ∧ t.consist.wait = .stopped ∧ t.consist.holdTimer = none
            ∧ t.consist.changeCounter = s.consist.changeCounter + 1#8
            ∧ ∃ u, t = originateChange u
                ∧ u.consist = { s.consist with
                    state := .unknown, activeMap := [], generation := 0#8, wait := .stopped
                    pendingMap := none, phase := .none, holdTimer := none
                    censusDrop := satInc s.consist.censusDrop }
                ∧ u.door.leaves = s.door.leaves ∧ u.door.vehicleProof = s.door.vehicleProof
                ∧ u.door.trainProof = (if s.consist.state = .settled then false else s.door.trainProof)
                ∧ u.lp1 = (s.modPort p Port.countGood).lp1 ∧ u.lp2 = (s.modPort p Port.countGood).lp2)

/-- The timers of the Relay and Consist Units that stand alone: an entry of the change-id list leaves it at 10
seconds (R10); a further copy of a CHANGE, among the copies of others, is handed over to every port in UP or
GLITCH, its id entered no second time, and one copy less remains, after the last none (R10, R42); the freshness
timer makes the latched bits stale and touches nothing else (R74); the spacing timer only stops (R193). -/
def Obligations.SmallTimers : Prop :=
  ∀ s : State, s.powered = true →
    (∀ id, exec (.changeIdExpiry id) s =
        .next (finish (s.modRelay fun r =>
          { r with changeIds := r.changeIds.filter fun e => decide (e.id ≠ id) })))
      ∧ (∀ before counter left timer after,
          s.consist.copies = before ++ { counter := counter, copies := left + 1, timer := timer } :: after →
          (∀ x ∈ before ++ after, x.counter ≠ counter ∧ 0 < x.copies) →
          ∃ t, exec (.changeRepeat counter) s = .next (finish t)
            ∧ t.consist = { s.consist with
                copies := before
                  ++ (if left = 0 then [] else [{ counter := counter, copies := left, timer := 100 }])
                  ++ after }
            ∧ t.relay = s.relay ∧ t.sweep = s.sweep ∧ t.door = s.door ∧ t.heat = s.heat
            ∧ ∀ p, JoinsUrgent p
                  { kind := 0x03#8, header := broadcastHeader s.consist.generation s.sourcePosition
                    payload := changePayload (s.identity, counter) } s t
                ∧ ((s.port p).carries = false → t.port p = s.port p))
      ∧ exec .freshnessExpiry s =
          .next (finish { s with sweep := { s.sweep with freshness := none } })
      ∧ exec .noticeSpacingEnd s = .next (finish { s with req := { s.req with spacing := none } })

/-! ## The train sweep -/

/-- A SWEEP-OUT at a node that is not head latches its sequence, bits, clamped period and stagger step, makes
the bits fresh for two periods and restarts the round timer at two periods; a clear STANDSTILL bit warns the
RELEASED leaves before the tally. The vehicle adds itself to the proof tally and the Heat Unit to the heat
tally; the frame goes on so through the tail-side port, with the received period and stagger step and the
allowance as read (assumption 56), or it is turned round, its latch RETURNED, at position N or where the
tail-side port does not carry it on: the Heat Unit takes its share of B, and a SWEEP-BACK with the tally and
with R = B less that take goes out head-ward. At a head, and on the tail-side port, it is dropped and counted;
one of another length than 19 is counted as a sweep mismatch, on the tail-side port as wrong direction (R6, R69,
R70, R71, R89, R125, R144, R154, R198). -/
def Obligations.SweepOutIsLatched : Prop :=
  (∀ (p : PortId) (h : Header) (payload : List Byte) (s : State), Accepted p 0x07#8 h payload s →
    payload.length ≠ 19 →
    (p = s.headPort → exec (.sweepOut p h payload) s =
        .next (finish ((s.modPort p Port.countGood).modSweep fun w =>
          { w with mismatch := satInc w.mismatch })))
      ∧ (p ≠ s.headPort → exec (.sweepOut p h payload) s =
          .next (finish ((s.modPort p Port.countGood).modRelay fun r =>
            { r with wrongDirection := satInc r.wrongDirection }))))
    ∧ ∀ (p : PortId) (h : Header) (f : SweepOut) (s : State),
    f.period < 65536 → f.stagger < 65536 →
    Accepted p 0x07#8 h (sweepOutPayload f) s →
    (p = s.headPort → s.consist.status ≠ .valid →
        let period := max 50 (min 500 f.period) / 10 * 10
        ∃ t, exec (.sweepOut p h (sweepOutPayload f)) s = .next (finish t)
          ∧ t.sweep.latch = some { sequence := f.sequence
                                   returned := decide (s.position = s.n)
                                     || !(s.port s.tailPort).carries }
          ∧ t.sweep.bits = f.bits ∧ t.sweep.freshness = some (2 * period)
          ∧ t.sweep.latchedPeriod = some period ∧ t.sweep.latchedStagger = some (min f.stagger 500)
          ∧ t.bus.roundTimer = some (2 * period) ∧ t.consist.state = s.consist.state
          ∧ t.consist.generation = s.consist.generation
          ∧ t.consist.activeMap = s.consist.activeMap
          ∧ (f.tally.visits < 256 → f.tally.firstUnproven < 256 → f.tally.unproven < 256 →
              f.tally.isolated < 65536 → f.tally.released < 256 → f.allowance < 65536 →
              f.dSum < 65536 → f.wSum < 65536 →
              let m := outwardStart f (s.modPort p Port.countGood)
              let read : SweepOut := { f with allowance := min f.allowance 2000 }
              let out := heatOutward { read with tally := tallyVehicle m f.tally } m
              let header := linkLocal s.consist.generation (byteOf s.position)
              OutwardStarted f s m ∧ t.door = m.door
                ∧ (s.position ≠ s.n → (s.port s.tailPort).carries = true →
                    t.heat = out.2.heat
                      ∧ JoinsUrgent s.tailPort
                          { kind := 0x07#8, header := header, payload := sweepOutPayload out.1 } s t)
                ∧ ((s.position = s.n ∨ (s.port s.tailPort).carries = false) →
                    ∃ l, out.2.heat.latch = some l ∧
                      let back := allottedReturn l read.allowance out.2
                      t.heat = back.2.heat ∧ back.1 + t.heat.take = read.allowance
                        ∧ JoinsUrgent s.headPort
                            { kind := 0x08#8, header := header
                              payload := sweepBackPayload
                                { sequence := f.sequence, tally := out.1.tally, allowance := back.1 } }
                            s t)))
      ∧ (p = s.headPort → s.consist.status = .valid →
          exec (.sweepOut p h (sweepOutPayload f)) s =
            .next (finish ((s.modPort p Port.countGood).modSweep fun w =>
              { w with mismatch := satInc w.mismatch })))
      ∧ (p ≠ s.headPort →
          exec (.sweepOut p h (sweepOutPayload f)) s =
            .next (finish ((s.modPort p Port.countGood).modRelay fun r =>
              { r with wrongDirection := satInc r.wrongDirection })))

/-- A SWEEP-BACK at the head: the outstanding one is taken, and the train proof is set exactly when proven-all
is set, the visit count is N and the tally is one that a consist of N vehicles could produce, with a train state
report that tells it and the leftover; any other is dropped, counted, and withdraws the train proof. Which
tallies those are is the model's reading of R143 and R144 (assumption 55). At another node one that matches the
latch makes it RETURNED and goes on head-ward with the same tally and with R less the take of the Heat Unit,
whose latch goes; where the Heat Unit holds no latch of that sequence R goes on as it is, the take is 0 and a
latch of another sequence goes (the model's choice, assumption 40). One that matches no latch passes with its R
and tally unchanged, counted, and leaves the node a take of 0. A return without allotment, of a head too, sheds
every group to 0 and discards the pending increase (R158, R160, R163). On the head-side port it is only counted
as wrong direction, and one of another length than 10 is only counted there or as a sweep mismatch (R6, R71,
R72, R146, R147, R155, R157, R158, R159, R198). -/
def Obligations.SweepBackIsTakenOrPassed : Prop :=
  (∀ (p : PortId) (h : Header) (payload : List Byte) (s : State), Accepted p 0x08#8 h payload s →
    payload.length ≠ 10 →
    (p = s.tailPort → exec (.sweepBack p h payload) s =
        .next (finish ((s.modPort p Port.countGood).modSweep fun w =>
          { w with mismatch := satInc w.mismatch })))
      ∧ (p ≠ s.tailPort → exec (.sweepBack p h payload) s =
          .next (finish ((s.modPort p Port.countGood).modRelay fun r =>
            { r with wrongDirection := satInc r.wrongDirection }))))
    ∧ ∀ (p : PortId) (h : Header) (f : SweepBack) (s : State),
    f.allowance ≤ 2000 → f.tally.visits < 256 → f.tally.firstUnproven < 256 → f.tally.unproven < 256 →
    f.tally.isolated < 65536 → f.tally.released < 256 →
    Accepted p 0x08#8 h (sweepBackPayload f) s →
    let returned (r : Nat) : Frame :=
      { kind := 0x08#8, header := linkLocal s.consist.generation (byteOf s.position)
        payload := sweepBackPayload { f with allowance := r } }
    (p ≠ s.tailPort →
        exec (.sweepBack p h (sweepBackPayload f)) s =
          .next (finish ((s.modPort p Port.countGood).modRelay fun r =>
            { r with wrongDirection := satInc r.wrongDirection })))
      ∧ (p = s.tailPort →
          (s.consist.status = .valid → s.sweep.outstanding = some f.sequence →
              ∃ t, exec (.sweepBack p h (sweepBackPayload f)) s = .next (finish t)
                ∧ t.sweep.outstanding = none ∧ t.sweep.mismatch = s.sweep.mismatch
                ∧ t.sweep.periodTimer = s.sweep.periodTimer
                ∧ t.door.trainProof =
                    (f.tally.provenAll && decide (f.tally.visits = s.n)
                      && decide (f.tally.firstUnproven = 0 ∧ f.tally.unproven = 0 ∧ f.tally.released = 0
                          ∧ f.tally.isolated ≤ 8 * s.n))
                ∧ t.door.leaves = s.door.leaves ∧ t.consist = s.consist
                ∧ ((∀ l, s.heat.latch = some l → l.sequence ≠ f.sequence) →
                    ShedsAll s t ∧ t.heat.latch = none)
                ∧ (s.cabServed = true → s.bus.outbound.length < 16 →
                    t.bus.outbound = s.bus.outbound ++
                      [{ bytes := [0x04#8, s.consist.generation, f.sequence
                                  , if t.door.trainProof then 1#8 else 0#8]
                                  ++ tallyBytes f.tally ++ [byteOf s.n]
                                  ++ be16 (f.allowance - t.heat.take) ++ be16 s.sweep.missed
                                  ++ [byteOf s.consist.attempts]
                         mark := .plain }]))
            ∧ (s.consist.status = .valid → s.sweep.outstanding ≠ some f.sequence →
                exec (.sweepBack p h (sweepBackPayload f)) s =
                  .next (finish
                    { s.modPort p Port.countGood with
                      sweep := { s.sweep with mismatch := satInc s.sweep.mismatch }
                      door := { s.door with trainProof := false } }))
            ∧ (s.consist.status ≠ .valid →
                (∀ l, s.sweep.latch = some l → l.sequence ≠ f.sequence ∨ l.returned = true) →
                ∃ t, exec (.sweepBack p h (sweepBackPayload f)) s = .next (finish t)
                  ∧ t.sweep = { s.sweep with mismatch := satInc s.sweep.mismatch }
                  ∧ ShedsAll s t ∧ t.heat.latch = s.heat.latch
                  ∧ t.door = s.door ∧ t.consist = s.consist
                  ∧ JoinsUrgent s.headPort (returned f.allowance) s t)
            ∧ (s.consist.status ≠ .valid →
                s.sweep.latch = some { sequence := f.sequence, returned := false } →
                let u := (s.modPort p Port.countGood).modSweep Sweep.markReturned
                ∃ t, exec (.sweepBack p h (sweepBackPayload f)) s = .next (finish t)
                  ∧ t.sweep = { s.sweep with latch := some { sequence := f.sequence, returned := true } }
                  ∧ t.heat.latch = none ∧ t.door = s.door ∧ t.consist = s.consist
                  ∧ (∀ l, s.heat.latch = some l → l.sequence = f.sequence →
                      let back := allottedReturn l f.allowance u
                      t.heat = back.2.heat ∧ back.1 + t.heat.take = f.allowance
                        ∧ JoinsUrgent s.headPort (returned back.1) s t)
                  ∧ ((∀ l, s.heat.latch = some l → l.sequence ≠ f.sequence) →
                      ShedsAll s t ∧ JoinsUrgent s.headPort (returned f.allowance) s t)))

/-- The period timer at a confirmed head: with no sweep outstanding the next is launched; with one outstanding
and N above 1 that sweep is missed, its latch RETURNED, the train proof withdrawn, a report MISSED offered, and
then the next is launched (R68, R147). At a node that is no confirmed head the timer only stops. The SWEEP-OUT a
head builds holds the next sequence, its settings, the STANDSTILL request only while the STANDSTILL input is
asserted, the allowance B and empty tallies; the next sequence wraps after 255 (R67). A launch takes the head's
own outward pass over it, adding its own tallies; with N above 1 it hands the frame so updated to the tail-side
port, no-route where that carries nothing, and makes its sequence the outstanding one; with N = 1 no frame
leaves: the return is completed here with R = B, with the train proof and a report that tells it and the
leftover, the latch not RETURNED (assumption 40; the tallies that prove it by assumption 55) (R73). Either
starts the period timer with the period carried. A head whose own round start in that pass costs it its cab
station, and so the lead, launches nothing more (the model's choice, assumption 20). The first sweep after a
commit is launched with the missed count at 0, none outstanding and no train proof (R66). -/
def Obligations.PeriodRunOutLaunchesWhatR67Builds : Prop :=
  (∀ s : State, s.powered = true → s.sweep.periodTimer ≠ none →
     let stopped : State := { s with sweep := { s.sweep with periodTimer := none } }
     (s.confirmedHead = true → (s.sweep.outstanding = none ∨ s.n = 1) →
         exec .periodTimerRunout s = .next (finish (launch stopped)))
       ∧ (∀ q, s.confirmedHead = true → s.sweep.outstanding = some q → 1 < s.n →
           ∃ t, exec .periodTimerRunout s = .next (finish (launch t))
             ∧ t.sweep = { s.sweep with
                 periodTimer := none, outstanding := none, missed := satInc s.sweep.missed
                 latch := s.sweep.latch.map fun l => { l with returned := true } }
             ∧ t.door = { s.door with trainProof := false } ∧ t.consist = s.consist
             ∧ t.heat = s.heat
             ∧ (s.cabServed = true → s.bus.outbound.length < 16 →
                 t.bus.outbound = s.bus.outbound ++
                   [{ bytes := [0x04#8, s.consist.generation, q, 2#8] ++ List.replicate 7 0#8
                               ++ [byteOf s.n, 0#8, 0#8] ++ be16 (satInc s.sweep.missed)
                               ++ [byteOf s.consist.attempts]
                      mark := .plain }]))
       ∧ (s.confirmedHead = false → exec .periodTimerRunout s = .next (finish stopped)))
    ∧ (∀ s : State,
         builtSweep s =
             { sequence := s.sweep.nextSequence, period := s.sweep.period, stagger := s.sweep.stagger
               bits := { standstill := s.sweep.request.standstill && s.pins.standstill
                         enableLeft := s.sweep.request.enableLeft
                         enableRight := s.sweep.request.enableRight }
               allowance := s.heat.allowance
               tally := { visits := 0, provenAll := true, firstUnproven := 0, unproven := 0, isolated := 0
                          released := 0 }
               dSum := 0, wSum := 0 }
           ∧ (useSequence s).sweep.nextSequence.toNat = (s.sweep.nextSequence.toNat + 1) % 256)
    ∧ (∀ s : State, s.confirmedHead = true →
         let built := builtSweep s
         let m := outwardStart built (useSequence s)
         let out := heatOutward { built with tally := tallyVehicle m built.tally } m
         let t := launch s
         OutwardStarted built s m ∧ t.door.leaves = m.door.leaves
           ∧ ((s.cabServed = false ∨ s.bus.cab = none ∨ s.bus.silence + 1 < 10 ∨ s.bus.cabState = .lost) →
               m.confirmedHead = true ∧ m.consist = s.consist ∧ m.relay = s.relay
                 ∧ m.sweep = { s.sweep with
                     nextSequence := s.sweep.nextSequence + 1#8
                     latch := m.sweep.latch, bits := m.sweep.bits, freshness := m.sweep.freshness
                     latchedPeriod := m.sweep.latchedPeriod
                     latchedStagger := m.sweep.latchedStagger })
           ∧ (m.confirmedHead = false → t = out.2)
           ∧ (m.confirmedHead = true → s.n ≠ 1 →
               t.sweep = { m.sweep with
                   outstanding := some s.sweep.nextSequence, periodTimer := some s.sweep.period }
                 ∧ t.heat = out.2.heat ∧ t.door = m.door ∧ t.consist = s.consist
                 ∧ JoinsUrgent s.tailPort
                     { kind := 0x07#8, header := linkLocal s.consist.generation (byteOf s.position)
                       payload := sweepOutPayload out.1 } s t
                 ∧ ((s.port s.tailPort).carries = false → t.relay.noRoute = satInc m.relay.noRoute))
           ∧ (m.confirmedHead = true → s.n = 1 →
               ∃ l, out.2.heat.latch = some l ∧
                 let back := allottedReturn l s.heat.allowance out.2
                 t.sweep = { m.sweep with periodTimer := some s.sweep.period }
                   ∧ t.heat = back.2.heat ∧ t.consist = s.consist ∧ t.lp1 = m.lp1 ∧ t.lp2 = m.lp2
                   ∧ t.door.trainProof =
                       (out.1.tally.provenAll && decide (out.1.tally.visits = 1)
                         && decide (out.1.tally.firstUnproven = 0 ∧ out.1.tally.unproven = 0
                             ∧ out.1.tally.released = 0 ∧ out.1.tally.isolated ≤ 8))
                   ∧ (s.cabServed = true → m.bus.outbound.length < 16 →
                       t.bus.outbound = m.bus.outbound ++
                         [{ bytes := [0x04#8, s.consist.generation, s.sweep.nextSequence
                                     , if t.door.trainProof then 1#8 else 0#8]
                                     ++ tallyBytes out.1.tally ++ [1#8] ++ be16 back.1
                                     ++ be16 s.sweep.missed ++ [byteOf s.consist.attempts]
                            mark := .plain }])))
    ∧ (∀ s : State, startSweeping s =
         launch { s with sweep := { s.sweep with missed := 0, outstanding := none }
                         door := { s.door with trainProof := false } })

/-! ## Doors and the closure proof -/

/-- A DOOR-RELEASE with a new serial is recorded and applied: a leaf of the table that meets every condition of
R120 enters RELEASED with every attempt (FAULT only where class 1 could run full), every other leaf is left as
it is; one more release is counted as applied or as void. A repeated serial is only counted. Either goes on as
received through the other port. On the tail-side port it is only counted as wrong direction. A payload that is
no release in range is a header error on either port, its layout being read first (assumption 21), and goes
nowhere (R6, R9, R11, R118, R120, R121, R198). -/
def Obligations.ReleaseActsOnQualifyingLeaves : Prop :=
  (∀ (p : PortId) (h : Header) (payload : List Byte) (s : State), Accepted p 0x09#8 h payload s →
    (∀ r : Release, 1 ≤ r.first → r.first ≤ r.last → r.last ≤ 32 → payload ≠ releasePayload r) →
    exec (.doorReleaseFrame p h payload) s =
      .next (finish ((s.modPort p Port.countGood).modRelay fun y =>
        { y with headerError := satInc y.headerError })))
    ∧ ∀ (p : PortId) (h : Header) (r : Release) (s : State),
    1 ≤ r.first → r.first ≤ r.last → r.last ≤ 32 →
    Accepted p 0x09#8 h (releasePayload r) s →
    let Qualifies (k : Nat) (l : Leaf) : Prop :=
      s.sweep.freshness ≠ none ∧ s.sweep.bits.standstill = true ∧ s.pins.standstill = true
        ∧ (match r.side with
            | .left => s.sweep.bits.enableLeft
            | .right => s.sweep.bits.enableRight) = true
        ∧ (if r.outside then s.position < r.first ∨ r.last < s.position
            else r.first ≤ s.position ∧ s.position ≤ r.last)
        ∧ (∃ c o, s.store.content.leaves[k - 1]? = some c ∧ s.orientation = some o
            ∧ c.side = vehicleSide o r.side)
        ∧ (l.state = .closed ∨ l.state = .warning ∨ l.state = .closing ∨ l.state = .reopening)
    (p = s.headPort → s.relay.lastSerial ≠ some r.serial →
        ∃ t, exec (.doorReleaseFrame p h (releasePayload r)) s = .next (finish t)
          ∧ t.relay.lastSerial = some r.serial
          ∧ (∀ k l, s.leaf k = some l → ¬Qualifies k l → t.leaf k = some l)
          ∧ (∀ k l, s.leaf k = some l → Qualifies k l →
              t.leaf k = some { state := .released, timer := none
                                attempts := s.store.content.reopenAttempts
                                closeMark := l.closeMark }
                ∨ ((t.leaf k).map Leaf.state = some .fault
                    ∧ 16 < s.bus.doorQueue.length + s.door.leaves.length))
          ∧ ((∃ k l, s.leaf k = some l ∧ Qualifies k l) →
              t.door.releasesApplied = satInc s.door.releasesApplied
                ∧ t.door.releasesVoid = s.door.releasesVoid)
          ∧ ((∀ k l, s.leaf k = some l → ¬Qualifies k l) →
              t.door.releasesVoid = satInc s.door.releasesVoid
                ∧ t.door.releasesApplied = s.door.releasesApplied)
          ∧ t.consist = s.consist ∧ t.sweep = s.sweep ∧ t.heat = s.heat
          ∧ JoinsUrgent p.other { kind := 0x09#8, header := h, payload := releasePayload r } s t)
      ∧ (p = s.headPort → s.relay.lastSerial = some r.serial →
          ∃ t, exec (.doorReleaseFrame p h (releasePayload r)) s = .next (finish t)
            ∧ t.door = s.door ∧ t.relay.repeats = satInc s.relay.repeats
            ∧ JoinsUrgent p.other { kind := 0x09#8, header := h, payload := releasePayload r } s t)
      ∧ (p ≠ s.headPort →
          exec (.doorReleaseFrame p h (releasePayload r)) s =
            .next (finish ((s.modPort p Port.countGood).modRelay fun y =>
              { y with wrongDirection := satInc y.wrongDirection })))

/-- With room in class 1, a DOOR-CLOSE acts in every consist state: on the vehicle sides its mask maps to where
the node is SETTLED in its generation, else on both. A covered leaf in RELEASED enters WARNING (CLOSING where
the warning time is 0) and one in REOPENING enters CLOSING with its attempts unchanged; every other leaf is left
as it is and the close is counted. The frame goes on as received through the other port (R9, R117, R123). One of
another length than 2, or whose mask sets neither bit 0 nor bit 1, is a header error and goes nowhere (R198). -/
def Obligations.CloseActsOnCoveredLeaves : Prop :=
  (∀ (p : PortId) (h : Header) (payload : List Byte) (s : State), Accepted p 0x0A#8 h payload s →
    (payload.length ≠ 2
      ∨ ((payload.getD 1 0#8).getLsbD 0 = false ∧ (payload.getD 1 0#8).getLsbD 1 = false)) →
    exec (.doorCloseFrame p h payload) s =
      .next (finish ((s.modPort p Port.countGood).modRelay fun y =>
        { y with headerError := satInc y.headerError })))
    ∧ ∀ (p : PortId) (h : Header) (c : Close) (s : State), (c.left = true ∨ c.right = true) →
    Accepted p 0x0A#8 h (closePayload c) s →
    s.bus.doorQueue.length + s.door.leaves.length ≤ 16 →
    let usable : Prop := s.consist.state = .settled ∧ h.generation = s.consist.generation
    let Covered (k : Nat) : Prop :=
      ∃ f, s.store.content.leaves[k - 1]? = some f
        ∧ (usable → ∀ o, s.orientation = some o →
            (c.left = true ∧ f.side = vehicleSide o .left)
              ∨ (c.right = true ∧ f.side = vehicleSide o .right))
    ∃ t, exec (.doorCloseFrame p h (closePayload c)) s = .next (finish t)
      ∧ t.door.closes = satInc s.door.closes
      ∧ (∀ k l, s.leaf k = some l → Covered k → l.state = .released →
          (t.leaf k).map Leaf.state =
            some (if s.store.content.warning = 0 then .closing else .warning))
      ∧ (∀ k l, s.leaf k = some l → Covered k → l.state = .reopening →
          t.leaf k = some { state := .closing, timer := some (s.store.content.closeConfirm * 1000)
                            attempts := l.attempts, closeMark := false })
      ∧ (∀ k l, s.leaf k = some l → (¬Covered k ∨ (l.state ≠ .released ∧ l.state ≠ .reopening)) →
          t.leaf k = some l)
      ∧ t.consist = s.consist ∧ t.sweep = s.sweep ∧ t.heat = s.heat ∧ t.store = s.store
      ∧ JoinsUrgent p.other { kind := 0x0A#8, header := h, payload := closePayload c } s t

/-- The leaf timers, with room in class 1: WARNING and REOPENING end in CLOSING with CLOSE written and the close
confirm time started; CLOSING unconfirmed goes to REOPENING with one attempt less, or to FAULT with none left,
where a LEAF-FAULT is counted. Every other leaf is left as it is (R118, R127, R128, R129, R130). A poll read of
a leaf's status acts by the leaf's state: START takes its first state from a known status (R136), CLOSED goes to
FAULT when seen OPEN or OBSTRUCTED (R131), CLOSING with its close mark set is confirmed by CLOSED-LOCKED and
fails by OBSTRUCTED (R128, R129), FAULT is left by CLOSED-LOCKED (R132); any other status, and any status in the
other states, changes no leaf. -/
def Obligations.LeafTimersDriveTheCloseSequence : Prop :=
  (∀ (k : Nat) (l : Leaf) (f : LeafConfig) (s : State), s.powered = true → s.leaf k = some l →
    s.store.content.leaves[k - 1]? = some f → l.timer ≠ none → s.bus.doorQueue.length < 16 →
    let c := s.store.content
    let Enters (i : Instr) (next : Leaf) (command : Byte) : Prop :=
      ∃ t e, exec i s = .next t ∧ t.leaf k = some next
        ∧ (∀ j, j ≠ k → t.leaf j = s.leaf j)
        ∧ t.bus.doorQueue.length = s.bus.doorQueue.length + 1
        ∧ t.bus.doorQueue.getLast? = some e
        ∧ e.op = .write f.station f.commandItem [command] ∧ e.mode = .persist 200
        ∧ e.owner = .leaf k ∧ e.current = true
        ∧ t.consist = s.consist ∧ t.heat = s.heat ∧ t.store = s.store
    let closing : Leaf := { state := .closing, timer := some (c.closeConfirm * 1000)
                            attempts := l.attempts, closeMark := false }
    (l.state = .warning → Enters (.warningTimeEnd k) closing 3#8)
      ∧ (l.state = .reopening → Enters (.reopenDwellEnd k) closing 3#8)
      ∧ (l.state = .closing → 0 < l.attempts →
          Enters (.closeConfirmTimeout k)
            { state := .reopening, timer := some (c.reopenDwell * 1000), attempts := l.attempts - 1
              closeMark := l.closeMark } 4#8)
      ∧ (l.state = .closing → l.attempts = 0 →
          ∃ t, exec (.closeConfirmTimeout k) s = .next t
            ∧ t.leaf k = some { l with state := .fault, timer := none }
            ∧ (∀ j, j ≠ k → t.leaf j = s.leaf j)
            ∧ t.door.leafFaults = satInc s.door.leafFaults
            ∧ t.bus.doorQueue.length = s.bus.doorQueue.length))
    ∧ (∀ (e : PollEntry) (i k : Nat) (l : Leaf) (f : LeafConfig) (b : Byte) (more : List Byte) (s : State),
        s.powered = true → s.bus.flight = some (.poll e (i + 1) .current) → s.bus.pointer = some i →
        e.dest = .leafStatus k → s.record (.leafStatus k) ≠ none → more.length ≤ 15 →
        s.leaf k = some l → s.store.content.leaves[k - 1]? = some f → s.bus.doorQueue.length < 16 →
        let c := s.store.content
        let Becomes (next : Leaf) (command : Option Byte) (faults : Nat) : Prop :=
          ∃ t, exec (.busAnswer e.station e.item true (b :: more)) s = .next t
            ∧ t.leaf k = some next ∧ (∀ j, j ≠ k → t.leaf j = s.leaf j)
            ∧ t.door.leafFaults = faults ∧ t.consist = s.consist ∧ t.heat = s.heat
            ∧ t.bus.doorQueue.length = s.bus.doorQueue.length + command.toList.length
            ∧ ∀ w, command = some w → ∃ x ∈ t.bus.doorQueue,
                x.op = .write f.station f.commandItem [w] ∧ x.owner = .leaf k ∧ x.current = true
        let Stays : Prop := Becomes l none s.door.leafFaults
        let resting (st : LeafState) : Leaf := { l with state := st, timer := none }
        let Faults : Prop := Becomes (resting .fault) none (satInc s.door.leafFaults)
        (l.state = .start →
            (b = 1#8 → Becomes (resting .closed) none s.door.leafFaults)
              ∧ ((b = 4#8 ∨ b = 5#8) → Becomes (resting .isolated) none s.door.leafFaults)
              ∧ ((b = 2#8 ∨ b = 3#8) → c.warning ≠ 0 →
                  Becomes { l with state := .warning, timer := some (c.warning * 1000)
                                   attempts := c.reopenAttempts } (some 2#8) s.door.leafFaults)
              ∧ ((b = 2#8 ∨ b = 3#8) → c.warning = 0 →
                  Becomes { state := .closing, timer := some (c.closeConfirm * 1000)
                            attempts := c.reopenAttempts, closeMark := false }
                    (some 3#8) s.door.leafFaults)
              ∧ ((b = 0#8 ∨ 5 < b.toNat) → Stays))
          ∧ (l.state = .closed →
              ((b = 2#8 ∨ b = 3#8) → Faults) ∧ ((b ≠ 2#8 ∧ b ≠ 3#8) → Stays))
          ∧ (l.state = .closing → l.closeMark = true →
              (b = 1#8 → Becomes (resting .closed) none s.door.leafFaults)
                ∧ (b = 3#8 → l.attempts = 0 → Faults)
                ∧ (b = 3#8 → 0 < l.attempts →
                    Becomes { l with state := .reopening, timer := some (c.reopenDwell * 1000)
                                     attempts := l.attempts - 1 } (some 4#8) s.door.leafFaults)
                ∧ ((b ≠ 1#8 ∧ b ≠ 3#8) → Stays))
          ∧ (l.state = .closing → l.closeMark = false → Stays)
          ∧ (l.state = .fault →
              (b = 1#8 → Becomes (resting .closed) none s.door.leafFaults) ∧ (b ≠ 1#8 → Stays))
          ∧ ((l.state = .released ∨ l.state = .warning ∨ l.state = .reopening ∨ l.state = .isolated) →
              Stays))

/-- R141: the vehicle is proven only if the live record is valid, every leaf outside ISOLATED is CLOSED with a
fresh CLOSED-LOCKED status and every leaf in ISOLATED has a fresh ISOLATED-LOCKED status. -/
def Obligations.VehicleProofConditions : Prop :=
  ∀ s : State,
    (evalVehicleProof s).door.vehicleProof = true ↔
      (s.store.validity = none
        ∧ ∀ k l, s.leaf k = some l →
            (l.state ≠ .isolated →
                l.state = .closed
                  ∧ ∃ r b rest, s.record (.leafStatus k) = some r ∧ r.age ≤ 2
                      ∧ r.value = some (b :: rest) ∧ b = 1#8)
              ∧ (l.state = .isolated →
                  ∃ r b rest, s.record (.leafStatus k) = some r ∧ r.age ≤ 2
                    ∧ r.value = some (b :: rest) ∧ b = 4#8))

/-- A vehicle adds itself to the proof tally of a SWEEP-OUT: one more visit; where it is not proven,
proven-all is cleared, the unproven count rises and the first unproven position is set once; its ISOLATED
leaves are added, and it counts as released where a leaf is outside CLOSED and ISOLATED (R143, R144). -/
def Obligations.TallyStepsOfAVehicle : Prop :=
  ∀ (s : State) (t : Tally),
    (tallyVehicle s t).visits = min (t.visits + 1) 255
      ∧ (s.door.vehicleProof = true →
          (tallyVehicle s t).provenAll = t.provenAll ∧ (tallyVehicle s t).unproven = t.unproven
            ∧ (tallyVehicle s t).firstUnproven = t.firstUnproven)
      ∧ (s.door.vehicleProof = false →
          (tallyVehicle s t).provenAll = false
            ∧ (tallyVehicle s t).unproven = min (t.unproven + 1) 255
            ∧ (tallyVehicle s t).firstUnproven =
                (if t.firstUnproven = 0 then s.position else t.firstUnproven))
      ∧ (tallyVehicle s t).isolated =
          min (t.isolated + s.door.leaves.countP fun l => decide (l.state = .isolated)) 65535
      ∧ ((∃ l ∈ s.door.leaves, l.state ≠ .closed ∧ l.state ≠ .isolated) →
          (tallyVehicle s t).released = min (t.released + 1) 255)
      ∧ ((∀ l ∈ s.door.leaves, l.state = .closed ∨ l.state = .isolated) →
          (tallyVehicle s t).released = t.released)

/-! ## Heat -/

/-- R152: the requested stage count of a group is the first byte of its fresh request, at most its stage
count, and 0 where the request is stale or empty or the group is in group fault. -/
def Obligations.RequestedStages : Prop :=
  ∀ (g : Nat) (x : Group) (c : GroupConfig) (s : State), s.group g = some x → s.groupConfig g = some c →
    (∀ r b rest, s.record (.groupRequest g) = some r → r.age ≤ 2 → r.value = some (b :: rest) →
        x.fault = none →
        (b.toNat ≤ c.currents.length → s.requested g = b.toNat)
          ∧ (c.currents.length < b.toNat → s.requested g = c.currents.length))
      ∧ ((s.record (.groupRequest g) = none
            ∨ (∃ r, s.record (.groupRequest g) = some r
                ∧ (2 < r.age ∨ r.value = none ∨ r.value = some []))) → s.requested g = 0)
      ∧ (x.fault ≠ none → s.requested g = 0)

/-- R155: the share G of a node's latch in a running allowance R: 0 without demand, D where R covers the
remaining demand, else the smaller of D and the weight's part of R rounded down; never above D, and never
above an R of a sweep. The outward pass before it (R153, R154): D is the current of the requested stages, 0
without SUPPLY, a valid record or a weight; the frame's sums and the requests are latched as they arrived, D and
the weight added to the frame (the weight only with D above 0, either sum at most 65535), and a WAITING
increase starts its stagger (R162), or is applied at once where that is 0. -/
def Obligations.HeatShareOfALatch : Prop :=
  (∀ (l : HeatLatch) (r : Nat),
    (l.demand = 0 → heatShare l r = 0)
      ∧ (l.demand ≠ 0 → min (l.dPre + l.demand) 65535 ≤ r → heatShare l r = l.demand)
      ∧ (l.demand ≠ 0 → r < min (l.dPre + l.demand) 65535 →
          heatShare l r = min l.demand (r * l.weight / (l.wPre + l.weight)))
      ∧ heatShare l r ≤ l.demand ∧ (r ≤ 2000 → heatShare l r ≤ r))
    ∧ (∀ (f : SweepOut) (s : State), s.store.content.groups.length = s.heat.groups.length →
        let w := s.store.content.weight
        let d :=
          if s.pins.supply = true ∧ s.store.validity = none ∧ w ≠ 0 then
            (s.store.content.groups.mapIdx fun i c => (c.currents.take (s.requested (i + 1))).sum).sum
          else 0
        let latch : HeatLatch :=
          { sequence := f.sequence, dPre := f.dSum, wPre := f.wSum, demand := d, weight := w
            requested := (List.range s.heat.groups.length).map fun i => s.requested (i + 1) }
        let out := heatOutward f s
        out.1 = { f with
            dSum := min (f.dSum + d) 65535
            wSum := if d = 0 then f.wSum else min (f.wSum + w) 65535 }
          ∧ out.2.heat.latch = some latch ∧ out.2.consist = s.consist ∧ out.2.door = s.door
          ∧ (s.heat.increase = none → out.2 = { s with heat := { s.heat with latch := some latch } })
          ∧ (∀ targets left, s.heat.increase = some { targets := targets, phase := .staggering left } →
              out.2 = { s with heat := { s.heat with latch := some latch } })
          ∧ (∀ targets left, s.heat.increase = some { targets := targets, phase := .waiting left } →
              let delay := (s.position - 1) * s.sweep.latchedStagger.getD 100
              (delay ≠ 0 →
                  out.2 = { s with heat := { s.heat with
                    latch := some latch
                    increase := some { targets := targets, phase := .staggering delay } } })
                ∧ (delay = 0 → out.2.heat.increase = none
                    ∧ (s.heat.groups.length = targets.length →
                        ∀ (i : Nat) (x : Group) (m : Nat), s.heat.groups[i]? = some x →
                          targets[i]? = some m →
                          (out.2.heat.groups[i]?).map Group.commanded = some (max x.commanded m)))))

/-- Stage fitting spends exactly the currents of the stages it fits and never more than the share, and fits no
group above its request. Level by level, and within a level in record order, a stage whose group fits every stage
below it fits if and only if its current is at most what the stages before it in that order have left of the
share; a group is stopped just where it fits less than its request, so its next stage was above the remaining
share (R156). A group in group fault is taken with a request of 0. -/
def Obligations.StageFittingSpendsTheShare : Prop :=
  (∀ (fits : List Fit) (share : Nat), (∀ f ∈ fits, f.fitted = 0 ∧ f.stopped = false) →
    let done := fitStages fits share
    let spentBefore (level i : Nat) : Nat :=
      (done.1.mapIdx fun j f =>
        stageCurrent f.currents (min f.fitted (if j < i then level else level - 1))).sum
    done.2 ≤ share
      ∧ (done.1.map fun f => stageCurrent f.currents f.fitted).sum = share - done.2
      ∧ done.1.map (fun f => (f.currents, f.want)) = fits.map (fun f => (f.currents, f.want))
      ∧ (∀ f ∈ done.1, f.fitted ≤ f.want ∧ f.fitted ≤ f.currents.length)
      ∧ (∀ i f level current, done.1[i]? = some f → 1 ≤ level → level ≤ 6 → level ≤ f.want →
          f.currents[level - 1]? = some current → level - 1 ≤ f.fitted →
          (level ≤ f.fitted ↔ spentBefore level i + current ≤ share))
      ∧ (∀ f ∈ done.1, f.want ≤ 6 → f.want ≤ f.currents.length →
          (f.stopped = true ↔ f.fitted < f.want)))
    ∧ (∀ (s : State) (l : HeatLatch) (i : Nat) (c : GroupConfig) (g : Group) (q : Nat),
        s.store.content.groups[i]? = some c → s.heat.groups[i]? = some g → l.requested[i]? = some q →
        (fitsOf s l)[i]? =
          some { currents := c.currents, want := if g.fault = none then q else 0, fitted := 0
                 stopped := false })

/-- A return with allotment leaves in R exactly what the node did not take, takes at most its share, uses the
latch up, makes the heat state ALLOTTED and restarts the hold at eight latched periods; no group is left
above its fitted count (R156, R157, R160). A fitted count above a commanded one forms the pending increase,
WAITING for two latched periods, in place of one with a target above a fitted count, which is discarded; an
increase whose targets are all reached is kept with the new counts; else there is none (R161). -/
def Obligations.AllottedReturnLowersRByTheTake : Prop :=
  ∀ (l : HeatLatch) (r : Nat) (s : State), r ≤ 2000 →
    let out := allottedReturn l r s
    (out.1 + out.2.heat.take = r ∧ out.2.heat.take ≤ heatShare l r
      ∧ out.2.heat.latch = none ∧ out.2.heat.allotted = true
      ∧ out.2.heat.hold = some (8 * s.sweep.latchedPeriod.getD 100)
      ∧ out.2.heat.groups.length = s.heat.groups.length
      ∧ (∀ i x y f, s.heat.groups[i]? = some x → out.2.heat.groups[i]? = some y →
          (fitStages (fitsOf s l) (heatShare l r)).1[i]? = some f →
          (s.groupConfig (i + 1)).isSome → y.commanded = min x.commanded f.fitted)
      ∧ out.2.consist = s.consist ∧ out.2.door = s.door ∧ out.2.sweep = s.sweep)
      ∧ (let fitted := (fitStages (fitsOf s l) (heatShare l r)).1.map Fit.fitted
         let rises : Prop :=
           ∃ (i : Nat) (x : Group) (m : Nat), s.heat.groups[i]? = some x ∧ fitted[i]? = some m ∧ x.commanded < m
         let formed : Increase :=
           { targets := fitted, phase := .waiting (2 * s.sweep.latchedPeriod.getD 100) }
         let Formed : Prop :=
           (rises → out.2.heat.increase = some formed) ∧ (¬rises → out.2.heat.increase = none)
         (s.heat.increase = none → Formed ∧ out.2.heat.increaseDiscard = s.heat.increaseDiscard)
           ∧ (∀ inc, s.heat.increase = some inc →
               let short : Prop := ∃ i m t : Nat, fitted[i]? = some m ∧ inc.targets[i]? = some t ∧ m < t
               (short → Formed ∧ out.2.heat.increaseDiscard = satInc s.heat.increaseDiscard)
                 ∧ (¬short → out.2.heat.increase = some { inc with targets := fitted }
                     ∧ out.2.heat.increaseDiscard = s.heat.increaseDiscard)))

/-- The timers of the pending increase and the hold: the WAITING timer discards the increase and counts it;
the end of the stagger applies it; the hold running out in ALLOTTED commands every group to 0, takes 0,
discards the increase, goes OFF and counts, and in OFF only stops (R162, R163, R165). The fall of the SUPPLY
input discards a pending increase, counting it, and changes nothing else (R163). -/
def Obligations.HeatTimersAndSupplyFall : Prop :=
  (∀ s : State, s.powered = true →
     (∀ targets left, s.heat.increase = some { targets := targets, phase := .waiting left } →
         exec .increaseWaitExpiry s = .next (finish (s.modHeat fun h =>
           { h with increase := none, increaseDiscard := satInc h.increaseDiscard })))
       ∧ (∀ targets left, s.heat.increase = some { targets := targets, phase := .staggering left } →
           s.heat.groups.length = targets.length →
           s.store.content.groups.length = s.heat.groups.length →
           ∃ t, exec .staggerDelayEnd s = .next t ∧ t.heat.increase = none
             ∧ (∀ (i : Nat) (x : Group) (m : Nat), s.heat.groups[i]? = some x → targets[i]? = some m →
                 (t.heat.groups[i]?).map Group.commanded = some (max x.commanded m))
             ∧ t.heat.take = s.heat.take ∧ t.heat.latch = s.heat.latch ∧ t.consist = s.consist
             ∧ t.door = s.door)
       ∧ (s.heat.hold ≠ none → s.heat.allotted = true →
           s.store.content.groups.length = s.heat.groups.length →
           ∃ t, exec .heatHoldExpiry s = .next t ∧ (∀ x : Group, x ∈ t.heat.groups → x.commanded = 0)
             ∧ t.heat.groups.length = s.heat.groups.length
             ∧ t.heat.take = 0 ∧ t.heat.increase = none ∧ t.heat.allotted = false
             ∧ t.heat.hold = none ∧ t.heat.heatOff = satInc s.heat.heatOff
             ∧ t.consist = s.consist ∧ t.door = s.door ∧ t.sweep = s.sweep)
       ∧ (s.heat.hold ≠ none → s.heat.allotted = false →
           exec .heatHoldExpiry s = .next (finish (s.modHeat fun h => { h with hold := none }))))
    ∧ (∀ s : State, s.powered = true → s.pins.supply = true →
         exec .supplyFall s =
           .next (finish
             { s with
               pins := { s.pins with supply := false }
               heat :=
                 (if s.heat.increase = none then s.heat
                  else
                   { s.heat with
                     increase := none, increaseDiscard := satInc s.heat.increaseDiscard }) }))

/-! ## The coach bus -/

/-- A valid answer READY to the poll read at the pointer ends it DONE: its record takes the data at age 0, every
other record is left, and the pointer moves on; an answer of another station or item, or with no data or more
than 16 bytes, is ignored. NOT-READY and no answer are counted; either withdraws the value of a ONCE entry, no
answer that of an ACCEPT entry, whose record NOT-READY leaves as it is, and the pointer moves on. A PERSIST
entry waits 2 ms for its next attempt, records and pointer as they were, until its persist timeout has run out:
then the value is withdrawn, one more persist timeout counted and the pointer moves on (R80, R81, R82, R90,
R92). A notice-on-change read that finds another value than the record held raises STATION-CHANGE with the entry
number and the first byte, before the record takes the data; the same value and a first value raise none (R93).
The entries of that destination share one record (assumption 25). -/
def Obligations.PollReadEnds : Prop :=
  ∀ (e : PollEntry) (i : Nat) (s : State), s.powered = true →
    s.bus.flight = some (.poll e (i + 1) .current) → s.bus.pointer = some i →
    let withdrawn : List StatusRecord :=
      s.bus.records.map fun r => if r.dest = e.dest then { r with age := 255 } else r
    let took (data : List Byte) (rs : List StatusRecord) : List StatusRecord :=
      rs.map fun r => if r.dest = e.dest then { r with value := some data, age := 0 } else r
    let Ends (c : Instr) (records : List StatusRecord) (pointer noAnswer notReady timeouts : Nat)
        (more : State → Prop) : Prop :=
      ∃ t, exec c s = .next t ∧ t.bus.pointer = some pointer ∧ t.bus.records = records
        ∧ t.bus.noAnswer = noAnswer ∧ t.bus.notReady = notReady ∧ t.bus.persistTimeouts = timeouts ∧ more t
    let Waits (t : State) : Prop := t.bus.pollRetry = some 2 ∧ t.bus.pollPersist = s.bus.pollPersist
    let moved (t : State) : Prop := t.bus.pollRetry = none
    let once := satInc s.bus.notReady
    let silent := satInc s.bus.noAnswer
    let expired := satInc s.bus.persistTimeouts
    (∀ data, 1 ≤ data.length → data.length ≤ 16 →
        Ends (.busAnswer e.station e.item true data) (took data s.bus.records) (i + 1)
          s.bus.noAnswer s.bus.notReady s.bus.persistTimeouts moved)
      ∧ (∀ station item ready data, (station ≠ e.station ∨ item ≠ e.item) →
          exec (.busAnswer station item ready data) s = .next (finish s))
      ∧ (∀ data, (data = [] ∨ 16 < data.length) →
          exec (.busAnswer e.station e.item true data) s = .next (finish s))
      ∧ (∀ data,
          let busy : Instr := .busAnswer e.station e.item false data
          (e.mode = .once →
              Ends busy withdrawn (i + 1) s.bus.noAnswer once s.bus.persistTimeouts moved)
            ∧ (e.mode = .accept →
                Ends busy s.bus.records (i + 1) s.bus.noAnswer once s.bus.persistTimeouts moved)
            ∧ (e.mode = .persist → s.bus.pollPersist ≠ .expired →
                Ends busy s.bus.records i s.bus.noAnswer once s.bus.persistTimeouts Waits)
            ∧ (e.mode = .persist → s.bus.pollPersist = .expired →
                Ends busy withdrawn (i + 1) s.bus.noAnswer once expired moved))
      ∧ (e.mode ≠ .persist →
          Ends .busReplyTimeout withdrawn (i + 1) silent s.bus.notReady s.bus.persistTimeouts moved)
      ∧ (e.mode = .persist → s.bus.pollPersist ≠ .expired →
          Ends .busReplyTimeout s.bus.records i silent s.bus.notReady s.bus.persistTimeouts Waits)
      ∧ (e.mode = .persist → s.bus.pollPersist = .expired →
          Ends .busReplyTimeout withdrawn (i + 1) silent s.bus.notReady expired moved)
      ∧ (∀ data held, e.dest = .noticeOnChange → 1 ≤ data.length → data.length ≤ 16 →
          s.record .noticeOnChange = some held →
          let u : State := { s with bus := { s.bus with
            flight := none, replyTimer := none, pointer := some (i + 1), pollRetry := none
            pollPersist := .unstarted
            round :=
              if s.bus.round = .inProgress ∧ s.store.content.polls.length ≤ i + 1 ∧ s.bus.cab = none then
                .finished
              else s.bus.round } }
          let records (x : State) : State := { x with bus := { x.bus with
            records := took data x.bus.records } }
          ((∃ old, held.value = some old ∧ old ≠ data) →
              exec (.busAnswer e.station e.item true data) s =
                .next (finish (arbitrate (records
                  (raise .stationChange (byteOf (i + 1)) (data.headD 0#8).toNat u)))))
            ∧ ((held.value = none ∨ held.value = some data) →
                exec (.busAnswer e.station e.item true data) s =
                  .next (finish (arbitrate (records u)))))

/-- An attempt of a PERSIST READ or WRITE that is not answered READY, the answer NOT-READY or none, leaves the
entry in its place in a retry wait of 2 ms, or ends it TIMEOUT, counted, where its persist timeout has run out;
READY, with 1 to 16 bytes for a READ and whatever data for a WRITE, ends it DONE; then the arbiter gives the
idle bus away (R80, R82, R85). The end of a retry wait puts the entry at the front of its queue, behind a walk
that runs (the model's choice, assumption 24); the persist timeout running out ends it TIMEOUT at once, also
where it waits for the bus (the model's choice, assumption 22), or marks an attempt in flight. The poll entry
does the same by its own timers (R90, R92). At the owner, DONE of the CLOSE of the current entry sets the close
mark and TIMEOUT faults the leaf, but one in FAULT or ISOLATED, and no leaf of a later table (R133); DONE of the
latest heat write settles its group and TIMEOUT faults it, which writes 0, unless it is in group fault (R166,
R168). A heat write takes the place of the group's oldest write not in flight, every other one leaving with it
(assumption 57), so that no older count follows a newer one, else it joins at the newest end (R87, R160). -/
def Obligations.PersistWriteRetries : Prop :=
  (∀ (c : BusClass) (cls : QueueClass) (front back : List QueueEntry) (e : QueueEntry) (n : Nat)
      (s : State),
     (c, cls) ∈ [(BusClass.door, QueueClass.door), (.heat, .heat), (.remote, .remote)] →
     s.powered = true → s.bus.queue cls = front ++ e :: back → e.mode = .persist n →
     (∀ next last started roster, e.op ≠ .walk next last started roster) →
     let holding (q : List QueueEntry) (b : Bus) : State := { s with bus := b.withQueue cls q }
     let timedOut (b : Bus) : State :=
       tellOwner e .timeout
         (holding (front ++ back) { b with persistTimeouts := satInc b.persistTimeouts })
     let answered (ready : Bool) (data : List Byte) : Instr :=
       .busAnswer e.op.address.1 e.op.address.2 ready data
     (s.bus.flight = some (.queue cls) → e.phase = .inFlight → (∀ x ∈ front, x.phase ≠ .inFlight) →
         let idle : Bus := { s.bus with flight := none, replyTimer := none }
         let silent : Bus := { idle with noAnswer := satInc idle.noAnswer }
         let busy : Bus := { idle with notReady := satInc idle.notReady }
         let retried := front ++ { e with phase := .retryWait 2 } :: back
         (e.persist ≠ .expired →
             exec .busReplyTimeout s = .next (finish (arbitrate (holding retried silent)))
               ∧ ∀ data, exec (answered false data) s =
                   .next (finish (arbitrate (holding retried busy))))
           ∧ (e.persist = .expired →
               exec .busReplyTimeout s = .next (finish (arbitrate (timedOut silent)))
                 ∧ ∀ data, exec (answered false data) s = .next (finish (arbitrate (timedOut busy))))
           ∧ (∀ data,
               ((1 ≤ data.length ∧ data.length ≤ 16) ∨ ∃ station item bytes, e.op = .write station item bytes) →
               exec (answered true data) s = .next (finish (arbitrate
                 (tellOwner e (.done data) (holding (front ++ back) idle))))))
       ∧ (∀ wait, e.phase = .retryWait wait →
           let ready : QueueEntry := { e with phase := .waiting }
           let Walks (x : QueueEntry) : Prop := ∃ next last roster, x.op = .walk next last true roster
           ((∀ x, (front ++ back).head? = some x → ¬Walks x) →
               exec (.retryWaitEnd c front.length) s =
                 .next (finish (arbitrate (holding (ready :: (front ++ back)) s.bus))))
             ∧ (∀ x rest, front ++ back = x :: rest → Walks x →
                 exec (.retryWaitEnd c front.length) s =
                   .next (finish (arbitrate (holding (x :: ready :: rest) s.bus)))))
       ∧ (∀ left, e.persist = .running left →
           (e.phase ≠ .inFlight →
               exec (.persistTimeout c front.length) s = .next (finish (arbitrate (timedOut s.bus))))
             ∧ (e.phase = .inFlight →
                 exec (.persistTimeout c front.length) s =
                   .next (finish (holding (front ++ { e with persist := .expired } :: back) s.bus)))))
    ∧ (∀ (place : Nat) (s : State), s.powered = true →
        (s.bus.pollRetry ≠ none →
            exec (.retryWaitEnd .poll place) s =
              .next (finish (arbitrate { s with bus := { s.bus with pollRetry := none } })))
          ∧ (∀ left e number use, s.bus.pollPersist = .running left →
              s.bus.flight = some (.poll e number use) →
              exec (.persistTimeout .poll place) s =
                .next (finish { s with bus := { s.bus with pollPersist := .expired } }))
          ∧ (∀ left i e, s.bus.pollPersist = .running left →
              (∀ x number use, s.bus.flight ≠ some (.poll x number use)) → s.bus.pointer = some i →
              s.store.content.polls[i]? = some e →
              ∃ t, exec (.persistTimeout .poll place) s = .next t ∧ t.bus.pointer = some (i + 1)
                ∧ t.bus.persistTimeouts = satInc s.bus.persistTimeouts
                ∧ t.bus.records = s.bus.records.map (fun r =>
                    if r.dest = e.dest then { r with age := 255 } else r)))
    ∧ (∀ (e : QueueEntry) (data : List Byte) (s : State),
        (e.owner = .orphan → tellOwner e (.done data) s = s ∧ tellOwner e .timeout s = s)
          ∧ (∀ k l, e.owner = .leaf k → s.leaf k = some l →
              (let t := tellOwner e (.done data) s
               t.leaf k =
                   some (if e.current = true ∧ l.state = .closing then { l with closeMark := true } else l)
                 ∧ (∀ j, j ≠ k → t.leaf j = s.leaf j) ∧ { t with door := s.door } = s)
                ∧ ((l.state = .fault ∨ l.state = .isolated) → tellOwner e .timeout s = s)
                ∧ (l.state ≠ .fault → l.state ≠ .isolated →
                    let t := tellOwner e .timeout s
                    t.leaf k = some { l with state := .fault, timer := none }
                      ∧ (∀ j, j ≠ k → t.leaf j = s.leaf j)
                      ∧ t.door.leafFaults = satInc s.door.leafFaults ∧ t.consist = s.consist
                      ∧ t.heat = s.heat))
          ∧ (∀ g x c, e.owner = .group g → s.group g = some x → s.groupConfig g = some c →
              (e.current = false → tellOwner e (.done data) s = s)
                ∧ (e.current = true →
                    let t := tellOwner e (.done data) s
                    t.group g = some { x with settled := true }
                      ∧ (∀ j, j ≠ g → t.group j = s.group j) ∧ { t with heat := s.heat } = s)
                ∧ (x.fault ≠ none → tellOwner e .timeout s = s)
                ∧ (x.fault = none →
                    let t := tellOwner e .timeout s
                    t.group g = some { commanded := 0, settled := false, mismatch := 0
                                       fault := some .writeFailed }
                      ∧ (∀ j, j ≠ g → t.group j = s.group j) ∧ t.heat.increase = none
                      ∧ t.heat.groupFaults = satInc s.heat.groupFaults ∧ t.heat.take = s.heat.take
                      ∧ ∃ y ∈ t.bus.heatQueue, y.owner = .group g ∧ y.current = true
                          ∧ y.op = .write c.commandStation c.commandItem [0#8])))
    ∧ (∀ (g : Nat) (station item : Byte) (count : Nat) (s : State), s.bus.flight ≠ none →
        let new : QueueEntry :=
          { op := .write station item [byteOf count], mode := .persist 200, owner := .group g
            phase := .waiting, persist := .unstarted, current := true }
        let waits (x : QueueEntry) : Prop := x.owner = .group g ∧ x.phase ≠ .inFlight
        let older (q : List QueueEntry) : List QueueEntry :=
          q.map fun x => if x.owner = .group g then { x with current := false } else x
        let queued (q : List QueueEntry) : State := { s with bus := { s.bus with heatQueue := q } }
        ((∀ x ∈ s.bus.heatQueue, ¬waits x) →
            offerHeatWrite g station item count s = queued (older s.bus.heatQueue ++ [new]))
          ∧ (∀ front old back, s.bus.heatQueue = front ++ old :: back → waits old →
              (∀ x ∈ front, ¬waits x) →
              offerHeatWrite g station item count s =
                queued (older front ++ new ::
                  older (back.filter fun x =>
                    decide (x.owner ≠ .group g) || decide (x.phase = .inFlight)))))

/-- The idle bus goes to the oldest eligible door write before any heat write, to that before the cab service,
to that before a remote request, and to that before the poll entry at the pointer of a round in progress, the
pointer within the list and its entry in no retry wait; with none of them, and while a transaction is in flight,
nothing is started (R85, R90). The oldest eligible entry of a queue is the first one that waits and that no
older entry in a retry wait of the same station and item holds back: entries in a retry wait and those held back
are passed over and stand as they stood, but that a walk at its first READ takes the front (R85; the place of
the others behind a walk by assumption 24). An attempt that starts puts its entry in flight, the persist timeout
starting at the first (R82, R83). The cab service has a read next, then a write while a frame waits (R96, R98).
The reply timeout of 4 ms is started with the attempt, since the time a telegram takes is not modelled
(assumptions 16 and 32). -/
def Obligations.ArbiterTakesTheClassesInOrder : Prop :=
  (∀ s : State,
    (∀ f, s.bus.flight = some f → arbitrate s = s)
      ∧ (s.bus.flight = none →
          (∀ q, startFirst [] s.bus.doorQueue = some q →
              arbitrate s = { s with bus := { s.bus with
                doorQueue := q, flight := some (.queue .door), replyTimer := some 4 } })
            ∧ (startFirst [] s.bus.doorQueue = none →
                (∀ q, startFirst [] s.bus.heatQueue = some q →
                    arbitrate s = { s with bus := { s.bus with
                      heatQueue := q, flight := some (.queue .heat), replyTimer := some 4 } })
                  ∧ (startFirst [] s.bus.heatQueue = none →
                      (∀ c, nextCabTransfer s.bus = some c →
                          arbitrate s = { s with bus := { s.bus with
                            flight := some (.cab c none), replyTimer := some 4 } })
                        ∧ (nextCabTransfer s.bus = none →
                            (∀ q, startFirst [] s.bus.remoteQueue = some q →
                                arbitrate s = { s with bus := { s.bus with
                                  remoteQueue := q, flight := some (.queue .remote)
                                  replyTimer := some 4 } })
                              ∧ (startFirst [] s.bus.remoteQueue = none →
                                  (∀ i e, s.bus.round = .inProgress → s.bus.pollRetry = none →
                                      s.bus.pointer = some i → s.store.content.polls[i]? = some e →
                                      arbitrate s = { s with bus := { s.bus with
                                        pollPersist :=
                                          if e.mode = .persist ∧ s.bus.pollPersist = .unstarted then
                                            .running 50
                                          else s.bus.pollPersist
                                        flight := some (.poll e (i + 1) .current)
                                        replyTimer := some 4 } })
                                    ∧ ((s.bus.round ≠ .inProgress ∨ s.bus.pollRetry ≠ none
                                          ∨ s.bus.pointer = none
                                          ∨ ∃ i, s.bus.pointer = some i
                                              ∧ s.store.content.polls.length ≤ i) →
                                        arbitrate s = s))))))
      ∧ (s.bus.cab = none → nextCabTransfer s.bus = none)
      ∧ (∀ c, s.bus.cab = some c →
          (c.writing = false → nextCabTransfer s.bus = some .read)
            ∧ (c.writing = true → s.bus.outbound ≠ [] → nextCabTransfer s.bus = some .write)
            ∧ (c.writing = true → s.bus.outbound = [] → nextCabTransfer s.bus = none)))
    ∧ (let Held (older : List QueueEntry) (e : QueueEntry) : Prop :=
         ∃ x ∈ older, (∃ left, x.phase = .retryWait left) ∧ x.op.address = e.op.address
       let NoneEligible (q : List QueueEntry) : Prop :=
         ∀ before e after, q = before ++ e :: after → e.phase ≠ .waiting ∨ Held before e
       (∀ q, NoneEligible q → startFirst [] q = none)
         ∧ ∀ (front back : List QueueEntry) (e : QueueEntry), NoneEligible front → e.phase = .waiting →
             ¬Held front e →
             ((∀ x ∈ front, x.phase = .inFlight) →
                 startFirst [] (front ++ e :: back) = some (front ++ e.started :: back))
               ∧ ((∀ x ∈ front, x.phase ≠ .inFlight) →
                   (∀ next last started roster, e.op ≠ .walk next last started roster) →
                   startFirst [] (front ++ e :: back) = some (front ++ e.started :: back))
               ∧ ((∀ x ∈ front, x.phase ≠ .inFlight) →
                   (∃ next last started roster, e.op = .walk next last started roster) →
                   startFirst [] (front ++ e :: back) = some (e.started :: front ++ back)))
    ∧ (∀ e : QueueEntry,
        ((∀ next last started roster, e.op ≠ .walk next last started roster) →
            (∀ left, e.mode = .persist left → e.persist = .unstarted →
                e.started = { e with phase := .inFlight, persist := .running left })
              ∧ (((∀ left, e.mode ≠ .persist left) ∨ e.persist ≠ .unstarted) →
                  e.started = { e with phase := .inFlight }))
          ∧ (∀ next last started roster, e.op = .walk next last started roster → e.mode = .once →
              e.started = { e with phase := .inFlight, op := .walk next last true roster }))

/-- The round timer running out starts a poll round: every record one older, at most 255, the pointer at
entry 1, the round in progress and the timer at 100 ms; a round still in progress with entries left to poll is
an overrun, counted, one with nothing left but its cab service is not (the model's choice, assumption 50).
While cab service is served class 3 takes a new entry with 4 reads and 4 writes left; a transfer in flight runs
on outside the class (R95). The overrun holdoff only stops at its end (R89, R91, R92). The Heat Unit compares
each group's feedback with its commanded count: equal, the mismatch count is 0; different, it is raised, and at 3
the group is in group fault, commanded to 0; unsettled, or without fresh feedback, nothing changes; a group in
group fault is commanded to 0 again (R94, R167, R168). -/
def Obligations.RoundStartAgesRecords : Prop :=
  ∀ s : State, s.powered = true → s.bus.roundTimer ≠ none →
    (∃ t, exec .roundTimerRunout s = .next t ∧ t.bus.roundTimer = some 100
        ∧ t.bus.pointer = some 0
        ∧ t.bus.records = s.bus.records.map (fun r => { r with age := min (r.age + 1) 255 })
        ∧ (s.store.content.polls ≠ [] → t.bus.round = .inProgress)
        ∧ (∀ i, s.bus.round = .inProgress → s.bus.pointer = some i →
            t.bus.overruns =
              (if i < s.store.content.polls.length then satInc s.bus.overruns else s.bus.overruns))
        ∧ (s.bus.round ≠ .inProgress → t.bus.overruns = s.bus.overruns)
        ∧ t.store = s.store
        ∧ t.bus.cab =
            (if s.cabServed then
              some { writing := false, readsLeft := 4, writesLeft := 4
                     tally := { ended := false, answered := false } }
             else none)
        ∧ (∀ transfer c, s.bus.flight = some (.cab transfer none) → s.bus.cab = some c →
            t.bus.flight = some (.cab transfer (some c.tally)))
        ∧ (∀ g x c, s.group g = some x → s.groupConfig g = some c →
            let Zero (fault : GroupFault) : Prop :=
              t.group g = some { commanded := 0, settled := false, mismatch := 0, fault := some fault }
                ∧ ∃ y ∈ t.bus.heatQueue, y.owner = .group g ∧ y.current = true
                    ∧ y.op = .write c.commandStation c.commandItem [0#8]
            (∀ why, x.fault = some why → Zero why)
              ∧ (x.fault = none → x.mismatch < 3 →
                  (x.settled = false ∨ (∀ r, s.record (.groupFeedback g) = some r →
                    1 < r.age ∨ r.value = none)) → t.group g = some x)
              ∧ (∀ r b more, x.fault = none → x.settled = true →
                  s.record (.groupFeedback g) = some r → r.age ≤ 1 → r.value = some (b :: more) →
                  (b.toNat = x.commanded → t.group g = some { x with mismatch := 0 })
                    ∧ (b.toNat ≠ x.commanded → x.mismatch < 2 →
                        t.group g = some { x with mismatch := x.mismatch + 1 })
                    ∧ (b.toNat ≠ x.commanded → 2 ≤ x.mismatch →
                        Zero .feedback ∧ t.heat.increase = none))))
      ∧ exec .roundOverrunHoldoffEnd s =
          .next (finish { s with bus := { s.bus with overrunHoldoff := none } })

/-! ## Requests -/

/-- A request from the cab station is answered by a reply cab frame with its tag and responding position 0,
joining the cab outbound queue, or dropped and counted where that is full or not served; one from the line by a
REPLY to its source position with its tag, this node's position and active generation, and not at all, counted
as no-route, at a node that is not SETTLED; a REPLY to the node's own position is delivered here without
entering a lane, as the reply cab frame of R110 with that position; where that of a RESET-NODE is dropped so, the
pending reset is due (R97, R104, R109, R110, R12, R196). A REQUEST
delivered with source position 0 is dropped and counted in request-drop; any other is executed as the command
its kind and fields spell, from the line with the REQUEST's source position, generation and tag, a malformed one
refused with RANGE, an empty one too (the model's choice, assumption 39), and an unknown kind with UNKNOWN-KIND
(R109, R187). A REPLY delivered at a node SETTLED in its generation joins the cab outbound queue as a reply cab
frame with its tag, status and source position, or is dropped and counted there; elsewhere, and with an empty
payload, it is counted in reply-discard (R97, R110, R198). A NOTICE that is not 5 bytes long is counted in
request-drop (R198). -/
def Obligations.AnswersGoBackToTheSource : Prop :=
  (∀ (tag : Byte) (st : Status) (payload : List Byte) (mark : Mark) (s : State), mark ≠ .testAccept →
    let room : Prop := s.cabServed = true ∧ s.bus.outbound.length < 16
    let lost (x : State) : State :=
      if mark = .resetReply ∧ s.req.resetPending = true then
        { x with req := { x.req with resetDue := true } }
      else x
    let queued (position : Byte) : State :=
      { s with bus := { s.bus with
        outbound := s.bus.outbound ++
          [{ bytes := [0x02#8, tag, statusCode st, position] ++ payload, mark := mark }] } }
    let refused : State := lost { s with bus := { s.bus with cabDrop := satInc s.bus.cabDrop } }
    (room → answer (.cab tag) st payload mark s = queued 0#8)
      ∧ (¬room → answer (.cab tag) st payload mark s = refused)
      ∧ (∀ position generation,
          let answered : State := answer (.line position generation tag) st payload mark s
          (s.consist.state ≠ .settled →
              answered = lost { s with relay := { s.relay with noRoute := satInc s.relay.noRoute } })
            ∧ (s.consist.state = .settled → position.toNat ≠ s.position →
                answered =
                  route
                    { frame :=
                        { kind := 0x0C#8
                          header := { generation := s.consist.generation, flags := 0#8
                                      destination := position, source := byteOf s.position, tag := tag }
                          payload := statusCode st :: payload }
                      mark := mark } s)
            ∧ (s.consist.state = .settled → position.toNat = s.position →
                (room → answered = queued position) ∧ (¬room → answered = refused))))
    ∧ (∀ (h : Header) (s : State),
        let delivered (kind : Byte) (payload : List Byte) : Frame :=
          { kind := kind, header := h, payload := payload }
        let dropped : State := { s with req := { s.req with requestDrop := satInc s.req.requestDrop } }
        let discarded : State := { s with req := { s.req with replyDiscard := satInc s.req.replyDiscard } }
        let src : ReqSource := .line h.source h.generation h.tag
        (h.source = 0#8 → ∀ payload, deliverRequest (delivered 0x0B#8 payload) s = dropped)
          ∧ (h.source ≠ 0#8 → s.req.resetPending = false →
              (∀ kind fields,
                  let f := delivered 0x0B#8 (kind :: fields)
                  (∀ c, readRequest src kind fields = .command c → s.powered = true →
                      exec c s = .next (finish (deliverRequest f s)))
                    ∧ (readRequest src kind fields = .malformed →
                        deliverRequest f s = refuse src .range s.armCleared)
                    ∧ ((kind = 0#8 ∨ 30 < kind.toNat) →
                        deliverRequest f s = refuse src .unknownKind s.armCleared))
                ∧ deliverRequest (delivered 0x0B#8 []) s = refuse src .range s.armCleared)
          ∧ (∀ status payload,
              let f := delivered 0x0C#8 (status :: payload)
              let mine : Prop := s.consist.state = .settled ∧ h.generation = s.consist.generation
              (mine → s.cabServed = true → s.bus.outbound.length < 16 →
                  deliverReply f .plain s =
                    { s with bus := { s.bus with
                      outbound := s.bus.outbound ++
                        [{ bytes := [0x02#8, h.tag, status, h.source] ++ payload, mark := .plain }] } })
                ∧ (mine → (s.cabServed = false ∨ 16 ≤ s.bus.outbound.length) →
                    deliverReply f .plain s =
                      { s with bus := { s.bus with cabDrop := satInc s.bus.cabDrop } })
                ∧ (¬mine → deliverReply f .plain s = discarded))
          ∧ deliverReply (delivered 0x0C#8 []) .plain s = discarded
          ∧ ∀ payload, payload.length ≠ 5 → deliverNotice (delivered 0x0D#8 payload) s = dropped)

/-- The requests that only read are answered OK with what they name and change nothing but the reset arm:
IDENTIFY, READ-STATUS, READ-MAP, READ-COUNTERS, LINK-RESULT, ALIAS-READ, the ROSTER of REMOTE-STATION and
RECORD-READ; a page above 3, a port that is none, a source, length or offset out of range gives RANGE, an absent
result or alias ABSENT (R36, R108, R112, R179, R188, R189, R190, R195). A ROSTER given as bytes is refused with
RANGE where its mode is WALK and answered with the stored roster where it is any other, its other fields ignored
(R111; the layout of the bytes by assumption 14, the row that carries them by assumption 36, a mode byte PERSIST
with a timeout out of range by assumption 68). The codes and orders that section 12.5 does not number are the
model's (assumption 13), and so are the cap of a link test count at 65535 (assumption 17) and the length given
for a LIVE image left by a failed read-back (assumption 12). -/
def Obligations.ReadingRequests : Prop :=
  ∀ (src : ReqSource) (s : State), Executable src s →
    let u := s.armCleared
    let ok (i : Instr) (payload : List Byte) : Prop := exec i s = .next (finish (accept src payload u))
    let no (i : Instr) (st : Status) : Prop := exec i s = .next (finish (refuse src st u))
    let words (ns : List Nat) : List Byte := (ns.map be16).flatten
    ok (.identify src)
        (idBytes s.identity ++ byteOf s.store.content.vehicleNumber.length
          :: s.store.content.vehicleNumber
          ++ [checkCode s.store.validity, protectionCode s.store.mode
             , if s.door.vehicleProof then 1#8 else 2#8])
      ∧ ok (.readStatus src)
          (portStatus s.lp1 ++ portStatus s.lp2
            ++ [claimCode s.consist.status, consistCode s.consist.state, phaseCode s.consist.phase
               , s.consist.generation, byteOf s.consist.activeMap.length, byteOf s.position]
            ++ (match s.orientation with
                | none => [0#8]
                | some .forward => [1#8, 1#8]
                | some .reversed => [1#8, 2#8])
            ++ [if s.door.vehicleProof then 1#8 else 2#8, if provenSource s then 1#8 else 2#8
               , flagsByte s.pins.standstill s.pins.supply s.pins.workshop
               , cabStateCode s.bus.cabState, storeCode s.store.state])
      ∧ ok (.readCounters src) (words (counters s))
      ∧ (∀ page, page.toNat ≤ 3 →
          ok (.readMap src page)
            ([consistCode s.consist.state, s.consist.generation, byteOf s.n, page]
              ++ entriesBytes ((s.consist.activeMap.drop (8 * page.toNat)).take 8)))
      ∧ (∀ page, 3 < page.toNat → no (.readMap src page) .range)
      ∧ (∀ p t, (s.port p).result = some t →
          ok (.linkResult src (portNumber p))
            (portNumber p
              :: words [min t.frames 65535, min t.sent 65535, min t.received 65535
                       , min t.errored 65535, min t.missing 65535]
              ++ [outcomeCode t.outcome]))
      ∧ (∀ p, (s.port p).result = none → no (.linkResult src (portNumber p)) .absent)
      ∧ (∀ number, number ≠ 1#8 → number ≠ 2#8 → no (.linkResult src number) .range)
      ∧ ok (.aliasRead src 0#8)
          (byteOf s.req.aliases.length :: (s.req.aliases.map aliasBytes).flatten)
      ∧ (∀ number, number ≠ 0#8 → (∀ e ∈ s.req.aliases, e.number ≠ number) →
          no (.aliasRead src number) .absent)
      ∧ (∀ before e after, s.req.aliases = before ++ e :: after → e.number ≠ 0#8 →
          (∀ x ∈ before, x.number ≠ e.number) → ok (.aliasRead src e.number) (aliasBytes e))
      ∧ ok (.remoteStationRoster src) (rosterBytes s.bus.roster)
      ∧ (∀ (mode station last item count hi lo : Byte) (data : List Byte), data.length = count.toNat →
          let roster : Instr := .requestUnknownKind src 19#8
            (3#8 :: mode :: station :: last :: item :: count :: data ++ [hi, lo])
          (mode ≠ 4#8 → ok roster (rosterBytes s.bus.roster)) ∧ (mode = 4#8 → no roster .range))
      ∧ (∀ (offset : Word16) (len : Byte), 1 ≤ len.toNat → len.toNat ≤ 64 →
          offset.toNat + len.toNat ≤ 512 →
          ok (.recordRead src 1#8 offset len)
              (counted ((s.store.live.drop offset.toNat).take len.toNat)
                ++ [checkCode s.store.validity] ++ be16 (imageLengthOf s.store.live))
            ∧ ok (.recordRead src 2#8 offset len)
                (counted ((s.store.edit.drop offset.toNat).take len.toNat)
                  ++ [checkCode (checkImage s.store.edit)] ++ be16 (imageLengthOf s.store.edit)))
      ∧ (∀ image offset len, (len = 0#8 ∨ 64 < len.toNat ∨ 512 < offset.toNat + len.toNat
            ∨ (image ≠ 1#8 ∧ image ≠ 2#8)) → no (.recordRead src image offset len) .range)

/-- CLEAR-COUNTERS sets every counter of READ-COUNTERS to 0 but frames received and errored, and stops no
holdoff (R190); the reply goes out after the clear (the model's choice, assumption 63). READ-NOTICES takes the
16 oldest notices out (R194), SET-NOTICE-FORWARDING takes ON or OFF (R193), both before their reply goes out
(the model's choice, assumption 66). RESET-ARM sets the arm; a RESET-NODE of the arm's source, generation and
tag makes the reset pending, with 200 ms to wait for its reply, any other is refused with STATE (R195, R196);
while a reset is pending every request is refused with BUSY (R187). A notice raised at a VALID head joins its
cab outbound queue, with raising position 1 while it is SETTLED and 0 otherwise, elsewhere the notice queue of
32, or is an overflow (R191, R192). A NOTICE delivered at a VALID head joins its cab outbound queue, elsewhere
it is dropped and counted. Entering VALID moves the waiting notices there, oldest first, the raising position
the node's own, and the CHANGE of R41 follows them (the model's choices, assumptions 54 and 65). Forwarding on,
SETTLED, not VALID, a notice waiting and no spacing: the oldest goes as a NOTICE to position 1 and the spacing
of 20 ms starts; else nothing moves (R193). -/
def Obligations.ManagementRequests : Prop :=
  (∀ (src : ReqSource) (s : State), Executable src s →
    let u := s.armCleared
    (∃ t, exec (.clearCounters src) s = .next (finish (accept src [] t))
        ∧ counters t =
            [s.lp1.received, s.lp1.errored, 0, s.lp2.received, s.lp2.errored, 0] ++ List.replicate 31 0
        ∧ t.sweep.missed = s.sweep.missed ∧ t.consist.attempts = s.consist.attempts
        ∧ t.lp1.dropHoldoff = s.lp1.dropHoldoff ∧ t.lp2.dropHoldoff = s.lp2.dropHoldoff
        ∧ t.bus.overrunHoldoff = s.bus.overrunHoldoff
        ∧ t.door.leaves = s.door.leaves ∧ t.heat.groups = s.heat.groups ∧ t.store = s.store)
      ∧ exec (.readNotices src) s =
          .next (finish (accept src
            (byteOf (min 16 s.req.notices.length) :: ((s.req.notices.take 16).map noticeBytes).flatten
              ++ byteOf (s.req.notices.length - 16) :: be16 s.req.overflow)
            { u with req := { u.req with notices := s.req.notices.drop 16 } }))
      ∧ (∀ setting, exec (.setNoticeForwarding src setting) s =
          .next (finish
            (if setting = 1#8 then accept src [] { u with req := { u.req with forwarding := true } }
             else if setting = 2#8 then
              accept src [] { u with req := { u.req with forwarding := false } }
             else refuse src .range u)))
      ∧ exec (.resetArm src) s =
          .next (finish (accept src [] { s with req := { s.req with
            arm := some { source := src, generation := requestGeneration src s } } }))
      ∧ (∀ a tag, s.req.arm = some a →
          let same : Prop :=
            (match a.source, src with
              | .cab _, .cab _ => a.generation = s.consist.generation
              | .line p _ _, .line q g _ => p = q ∧ a.generation = g
              | _, _ => False)
          (same → tag = tagOf a.source →
              exec (.resetNode src tag) s =
                .next (finish (answer src .ok [] .resetReply
                  { u with req := { u.req with resetPending := true, resetTimer := some 200 } })))
            ∧ ((¬same ∨ tag ≠ tagOf a.source) →
                exec (.resetNode src tag) s = .next (finish (refuse src .state u))))
      ∧ (∀ tag, s.req.arm = none → exec (.resetNode src tag) s = .next (finish (refuse src .state u)))
      ∧ (∀ kind fields,
          let pending : State := { s with req := { s.req with resetPending := true } }
          let busy : Host.Outcome State Fault Refusal :=
            .next (finish (refuse src .busy pending.armCleared))
          exec (.requestUnknownKind src kind fields) pending = busy
            ∧ ∀ i, readRequest src kind fields = .command i → exec i pending = busy))
    ∧ (∀ (kind : NoticeKind) (subject : Byte) (value : Nat) (n : Notice) (s : State),
        let raised : Notice :=
          { kind := kind, subject := subject, value := BitVec.ofNat 16 value
            generation := s.consist.generation }
        let toCab (position : Byte) (ns : List Notice) (x : State) : State :=
          { x with bus := { x.bus with
            outbound := x.bus.outbound ++
              ns.map fun n => { bytes := [0x03#8, position] ++ noticeBytes n, mark := .plain } } }
        let lost (x : State) : State := { x with bus := { x.bus with cabDrop := satInc x.bus.cabDrop } }
        raise kind subject value s = forwardNotices (enqueueNotice raised s)
          ∧ (s.consist.status = .valid → s.cabServed = true → s.bus.outbound.length < 16 →
              enqueueNotice n s = toCab (if s.consist.state = .settled then 1#8 else 0#8) [n] s)
          ∧ (s.consist.status = .valid → (s.cabServed = false ∨ 16 ≤ s.bus.outbound.length) →
              enqueueNotice n s = lost s)
          ∧ (s.consist.status ≠ .valid → s.req.notices.length < 32 →
              enqueueNotice n s = { s with req := { s.req with notices := s.req.notices ++ [n] } })
          ∧ (s.consist.status ≠ .valid → 32 ≤ s.req.notices.length →
              enqueueNotice n s = { s with req := { s.req with overflow := satInc s.req.overflow } })
          ∧ (∀ h, let f : Frame := { kind := 0x0D#8, header := h, payload := noticeBytes n }
              (s.consist.status = .valid → s.cabServed = true → s.bus.outbound.length < 16 →
                  deliverNotice f s = toCab h.source [n] s)
                ∧ (s.consist.status = .valid → (s.cabServed = false ∨ 16 ≤ s.bus.outbound.length) →
                    deliverNotice f s = lost s)
                ∧ (s.consist.status ≠ .valid →
                    deliverNotice f s =
                      { s with req := { s.req with requestDrop := satInc s.req.requestDrop } }))
          ∧ (claimStatusNow s = .valid → s.consist.status ≠ .valid → s.cabServed = true →
              s.bus.outbound.length + s.req.notices.length ≤ 16 →
              evalClaims s = originateChange
                (toCab (if s.consist.state = .settled then byteOf s.position else 0#8) s.req.notices
                  { s with consist := { s.consist with status := .valid }
                           req := { s.req with notices := [] } }))
          ∧ (let may : Prop :=
               s.req.forwarding = true ∧ s.consist.state = .settled ∧ s.consist.status ≠ .valid
                 ∧ s.req.spacing = none
             (∀ rest, may → s.req.notices = n :: rest →
                 let taken : State :=
                   { s with req := { s.req with notices := rest, spacing := some 20 } }
                 (s.position ≠ 1 → forwardNotices s = route
                     { frame :=
                         { kind := 0x0D#8
                           header := { generation := s.consist.generation, flags := 0#8
                                       destination := 1#8, source := byteOf s.position, tag := 0#8 }
                           payload := noticeBytes n }
                       mark := .plain } taken)
                   ∧ (s.position = 1 → forwardNotices s =
                       { taken with req := { taken.req with
                         requestDrop := satInc s.req.requestDrop } }))
               ∧ ((¬may ∨ s.req.notices = []) → forwardNotices s = s)))

/-- PORT-RESTART of a port that is none gives RANGE, of one in DOWN only OK; else the port enters DOWN with
reason RESTART and no holdoff, a port down event from UP and GLITCH, the reply and the consequences in an order
nothing constrains (R31; assumption 9). A test that runs is aborted with its counts in the result record (R36),
a pending offer with a record of zeros (R32), and an accepted one ends without a record (R33). LINK-TEST is
checked for RANGE, STATE and BUSY in turn, else the offer is pending for 1000 ms and a TEST-OFFER sent (R32). -/
def Obligations.PortRequests : Prop :=
  ∀ (src : ReqSource) (p : PortId) (s : State), Executable src s →
    let u := s.armCleared
    (∀ number, number ≠ 1#8 → number ≠ 2#8 →
        exec (.portRestart src number) s = .next (finish (refuse src .range u))
          ∧ ∀ frames, exec (.linkTest src number frames) s = .next (finish (refuse src .range u)))
      ∧ ((s.port p).link = .down →
          exec (.portRestart src (portNumber p)) s = .next (finish (accept src [] u)))
      ∧ ((s.port p).link ≠ .down → ((s.port p).link = .test → (s.port p).run ≠ none) →
          ∃ t, (t.port p).link = .down ∧ (t.port p).lastDown = .restart ∧ (t.port p).neighbour = none
            ∧ (t.port p).dropInterval = some 200
            ∧ (t.port p).contactHoldoff = (s.port p).contactHoldoff
            ∧ (t.port p).urgent = [] ∧ (t.port p).normal = [] ∧ (t.port p).transmitter = none
            ∧ (t.port p).offer = .none ∧ (t.port p).testDue = false ∧ (t.port p).run = none
            ∧ (∀ r, (s.port p).link = .test → (s.port p).run = some r →
                (t.port p).result = some { frames := r.frames, sent := r.sent, received := r.received
                                           errored := r.errored, missing := r.frames - r.received
                                           outcome := .aborted })
            ∧ ((s.port p).link ≠ .test →
                (t.port p).result =
                  (match (s.port p).offer with
                    | .pending n _ => some { frames := n, sent := 0, received := 0, errored := 0
                                             missing := 0, outcome := .aborted }
                    | _ => (s.port p).result))
            ∧ t.consist = s.consist ∧ t.door = s.door ∧ t.heat = s.heat
            ∧ (let told (x : State) : State :=
                if (s.port p).link = .up ∨ (s.port p).link = .glitch then
                  raise .portDown (portNumber p) 5 (tellPortEvent x)
                else evalClaims x
               exec (.portRestart src (portNumber p)) s = .next (finish (told (accept src [] t)))
                ∨ exec (.portRestart src (portNumber p)) s = .next (finish (accept src [] (told t)))))
      ∧ (∀ frames : Word16,
          let i : Instr := .linkTest src (portNumber p) frames
          let inRange : Prop := 16 ≤ frames.toNat ∧ frames.toNat ≤ 4096
          let allowed : Prop :=
            (s.port p).link = .up ∧ (s.consist.state ≠ .settled ∨ s.pins.workshop = true)
          (¬inRange → exec i s = .next (finish (refuse src .range u)))
            ∧ (inRange → ¬allowed → exec i s = .next (finish (refuse src .state u)))
            ∧ (inRange → allowed → (s.port p).offer ≠ .none →
                exec i s = .next (finish (refuse src .busy u)))
            ∧ (inRange → allowed → (s.port p).offer = .none →
                exec i s = .next (finish (sendHello p (.testOffer frames.toNat) .plain
                  ((accept src [] u).modPort p fun q =>
                    { q with result := none, offer := .pending frames.toNat (some 1000) })))))

/-- LEAD, SET-TRAIN-STATE and SET-ALLOWANCE from the line are refused with STATE. LEAD sets or clears the claim
at its end, clears the conflict hold where a claim changes, and the claim status follows by the table of R40;
SET needs an end the live record lists. CENSUS-START, SET-TRAIN-STATE and SET-ALLOWANCE need the status VALID:
the first clears the hold and starts a census, the second takes the bits and a clamped period, the third takes
B, at most 2000, and a stagger step of at most 500 (R38, R40, R62, R75, R164). The model's choices: the reply to
a LEAD goes before its effect (assumption 10), and a LEAD that changes no claim keeps the conflict hold
(assumption 41). A re-evaluation that finds the status as it was does nothing; on entry to CONFLICT
LEAD-CONFLICT is raised, on entry to BLOCKED LEAD-NOT-AT-END with the claimed end; on entry to VALID the waiting
notices move to the cab outbound queue and a CHANGE is originated. On leaving VALID sweeping stops, the train
proof goes, the request bits, the retry timer and the conflict hold are cleared, an attempt in COUNTING is
abandoned, and a CHANGE goes out and acts on the node, which starts no census; that of SETTLED leads to STALE,
that of an attempt's PENDING too (R40, R41, R42, R43, R45, R66, R75, R147, R192). The model's choices: the
notice is queued before the CHANGE (assumption 11), the notices that waited are moved before it (assumption 65),
and its frame is built before it acts (assumption 67). -/
def Obligations.LeadRequestsAndClaimStatus : Prop :=
  (∀ (src : ReqSource) (s : State), Executable src s →
     let u := s.armCleared
     let line : Prop := ∃ position generation tag, src = .line position generation tag
     let stateRefused (i : Instr) : Prop := exec i s = .next (finish (refuse src .state u))
     let rangeRefused (i : Instr) : Prop := exec i s = .next (finish (refuse src .range u))
     let claims (c1 c2 : Bool) : State :=
       (accept src [] u).modConsist fun c =>
         { c with
           claim1 := c1, claim2 := c2
           conflictHold :=
             if c.claim1 = c1 ∧ c.claim2 = c2 then c.conflictHold else false }
     (∀ e, e ≠ 1#8 → e ≠ 2#8 → rangeRefused (.leadSet src e) ∧ rangeRefused (.leadClear src e))
       ∧ (line → ∀ e, e = 1#8 ∨ e = 2#8 →
           stateRefused (.leadSet src e) ∧ stateRefused (.leadClear src e))
       ∧ (line → (∀ bits period, stateRefused (.setTrainState src bits period))
           ∧ ∀ b g, stateRefused (.setAllowance src b g))
       ∧ (¬line → s.store.content.cabEnd1 = false → rangeRefused (.leadSet src 1#8))
       ∧ (¬line → s.store.content.cabEnd2 = false → rangeRefused (.leadSet src 2#8))
       ∧ (¬line → s.store.content.cabEnd1 = true →
           exec (.leadSet src 1#8) s = .next (finish (evalClaims (claims true s.consist.claim2))))
       ∧ (¬line → s.store.content.cabEnd2 = true →
           exec (.leadSet src 2#8) s = .next (finish (evalClaims (claims s.consist.claim1 true))))
       ∧ (¬line → exec (.leadClear src 1#8) s =
             .next (finish (evalClaims (claims false s.consist.claim2)))
           ∧ exec (.leadClear src 2#8) s =
               .next (finish (evalClaims (claims s.consist.claim1 false))))
       ∧ (s.consist.status ≠ .valid →
           stateRefused (.censusStart src) ∧ (∀ bits period, stateRefused (.setTrainState src bits period))
             ∧ ∀ b g, stateRefused (.setAllowance src b g))
       ∧ (s.consist.status = .valid →
           exec (.censusStart src) s =
             .next (finish (startCensus ((accept src [] u).modConsist fun c =>
               { c with conflictHold := false }))))
       ∧ (¬line → s.consist.status = .valid →
           (∀ bits, exec (.setTrainState src bits none) s =
               .next (finish (accept src [] { u with sweep := { s.sweep with request := bits } })))
             ∧ (∀ bits (period : Word16), exec (.setTrainState src bits (some period)) s =
                 .next (finish (accept src [] { u with sweep := { s.sweep with
                   request := bits, period := max 50 (min 500 period.toNat) / 10 * 10 } })))
             ∧ (∀ (b : Word16) (g : Option Word16),
                 let stagger := match g with
                   | some x => min x.toNat 500
                   | none => s.sweep.stagger
                 exec (.setAllowance src b g) s =
                   .next (finish (accept src (be16 (min b.toNat 2000) ++ be16 stagger)
                     { u with
                       heat := { s.heat with allowance := min b.toNat 2000 }
                       sweep := { s.sweep with stagger := stagger } })))))
    ∧ (∀ s : State,
         (s.consist.claim1 = false → s.consist.claim2 = false → claimStatusNow s = .none)
           ∧ (s.consist.claim1 = true → s.consist.claim2 = true → claimStatusNow s = .conflict)
           ∧ (s.consist.claim1 = true → s.consist.claim2 = false → s.lp1.link = .down →
               claimStatusNow s = .valid)
           ∧ (s.consist.claim1 = true → s.consist.claim2 = false → s.lp1.link ≠ .down →
               claimStatusNow s = .blocked)
           ∧ (s.consist.claim1 = false → s.consist.claim2 = true → s.lp2.link = .down →
               claimStatusNow s = .valid)
           ∧ (s.consist.claim1 = false → s.consist.claim2 = true → s.lp2.link ≠ .down →
               claimStatusNow s = .blocked))
    ∧ (∀ s : State,
        let now := claimStatusNow s
        let changed : State := { s with consist := { s.consist with status := now } }
        let atEnd : CabEnd := if s.consist.claim1 then .end1 else .end2
        let notice (kind : NoticeKind) (value : Byte) : List Notice :=
          [{ kind := kind, subject := 0#8, value := BitVec.ofNat 16 value.toNat
             generation := s.consist.generation }]
        let entry : List Notice :=
          (match now with
            | .conflict => notice .leadConflict 0#8
            | .blocked => notice .leadNotAtEnd (endCode atEnd)
            | .none | .valid => [])
        let room : Nat := if s.cabServed = true then 16 - s.bus.outbound.length else 0
        let waiting : List CabFrame := s.req.notices.map fun n =>
          { bytes := [0x03#8, if s.consist.state = .settled then byteOf s.position else 0#8] ++ noticeBytes n
            mark := .plain }
        let counting : Prop := s.consist.phase = .counting
        let counter := s.consist.changeCounter + 1#8
        (now = s.consist.status → evalClaims s = s)
          ∧ (now = .valid → s.consist.status ≠ .valid →
              evalClaims s = originateChange
                { changed with
                  req := { s.req with notices := [] }
                  bus := { s.bus with
                    outbound := s.bus.outbound ++ waiting.take room
                    cabDrop := satInc^[waiting.length - room] s.bus.cabDrop } })
          ∧ (now ≠ .valid → s.consist.status ≠ .valid → now ≠ s.consist.status →
              (s.req.notices.length < 32 ∨ now = .none →
                  evalClaims s =
                    { changed with req := { s.req with notices := s.req.notices ++ entry } })
                ∧ (32 ≤ s.req.notices.length → now ≠ .none →
                    evalClaims s =
                      { changed with req := { s.req with overflow := satInc s.req.overflow } }))
          ∧ (now ≠ .valid → s.consist.status = .valid →
              let t := evalClaims s
              let told : Consist :=
                { changed.consist with
                  changeCounter := counter
                  copies := s.consist.copies ++ [{ counter := counter, copies := 2, timer := 100 }]
                  retryTimer := none, conflictHold := false
                  : Consist }.afterChange
              CopySent counter s t
                ∧ ((∀ x ∈ s.relay.changeIds, x.id ≠ (s.identity, counter)) →
                    t.relay = { s.relay with
                      changeIds :=
                        (if 8 ≤ s.relay.changeIds.length then s.relay.changeIds.tail
                         else s.relay.changeIds)
                          ++ [{ id := (s.identity, counter), left := 10000 }] })
                ∧ (¬counting → t.consist = told)
                ∧ (counting → t.consist = { told with
                    state := if told.state = .pending then .stale else told.state
                    phase := .none, rollTimer := none, holdTimer := none, pendingMap := none })
                ∧ t.sweep = { s.sweep with
                    periodTimer := none, outstanding := none
                    request := { standstill := false, enableLeft := false, enableRight := false } }
                ∧ t.door = { s.door with trainProof := false }
                ∧ t.heat = s.heat ∧ t.store = s.store ∧ t.pins = s.pins
                ∧ (s.req.notices.length < 32 → ∃ drops, t.req.notices = s.req.notices ++ entry ++ drops
                    ∧ ((∀ p, (s.port p).carries = true → (s.port p).urgent.length < 8) → drops = []))))

/-- ALIAS-WRITE refuses fields out of range, replaces an entry of its number at the newest end, is refused
with FULL by 16 entries of other numbers, and else joins; ALIAS-CLEAR removes every entry for 0, else its
number's, or gives ABSENT (R107, R108). -/
def Obligations.AliasRequests : Prop :=
  ∀ (src : ReqSource) (number station : Byte) (vehicle : VehicleRef) (s : State), Executable src s →
    let u := s.armCleared
    let table (t : List AliasEntry) : State := { u with req := { u.req with aliases := t } }
    let others := s.req.aliases.filter fun e => decide (e.number ≠ number)
    let entry : AliasEntry := { number := number, vehicle := vehicle, station := station }
    let inRange : Prop :=
      number ≠ 0#8 ∧ (∀ p, vehicle = .position p → 1 ≤ p.toNat ∧ p.toNat ≤ 32)
        ∧ 1 ≤ station.toNat ∧ station.toNat ≤ 30
    (¬inRange →
        exec (.aliasWrite src number vehicle station) s = .next (finish (refuse src .range u)))
      ∧ (inRange → 16 ≤ s.req.aliases.length → (∀ e ∈ s.req.aliases, e.number ≠ number) →
          exec (.aliasWrite src number vehicle station) s = .next (finish (refuse src .full u)))
      ∧ (inRange → (s.req.aliases.length < 16 ∨ ∃ e ∈ s.req.aliases, e.number = number) →
          exec (.aliasWrite src number vehicle station) s =
            .next (finish (accept src [] (table (others ++ [entry])))))
      ∧ exec (.aliasClear src 0#8) s = .next (finish (accept src [] (table [])))
      ∧ (number ≠ 0#8 → (∃ e ∈ s.req.aliases, e.number = number) →
          exec (.aliasClear src number) s = .next (finish (accept src [] (table others))))
      ∧ (number ≠ 0#8 → (∀ e ∈ s.req.aliases, e.number ≠ number) →
          exec (.aliasClear src number) s = .next (finish (refuse src .absent u)))

/-- REMOTE-STATION READ, WRITE and WALK: fields out of range give RANGE (a READ of mode 4 is a WALK, spelled as
such: assumption 36); a pending entry of the same source and tag BUSY; eight pending entries FULL; else a
pending entry with the deadline of 2000 ms is made, its transaction joins class 4, the idle bus goes by the
arbiter, and nothing is sent back yet (R111, R112). ONCE and ACCEPT end by their one attempt (R81). A walk reads
item 0 of its stations in turn, standing first in class 4 from its first READ on (assumption 24), and its roster
replaces the stored one at its end (R83). When a transaction has ended its pending entry leaves the table and
the reply of R113 goes back to the source, its data and a kept value after a count byte (assumption 13), but for
a reply after the deadline, and one to a line source at a node no longer SETTLED in the entry's generation,
which are discarded and counted (R113, R114). -/
def Obligations.RemoteRequestsArePending : Prop :=
  (∀ (src : ReqSource) (mode station item last : Byte) (data : List Byte) (timeout : Word16) (s : State),
    Executable src s →
    let u := s.armCleared
    let addressed : Prop := 1 ≤ station.toNat ∧ station.toNat ≤ 30 ∧ item.toNat ≤ 63
    let persistent : Prop := 10 ≤ timeout.toNat ∧ timeout.toNat ≤ 1000
    let modeOk : Prop := mode = 1#8 ∨ mode = 2#8 ∨ (mode = 3#8 ∧ persistent)
    let walkOk : Prop := 1 ≤ station.toNat ∧ station.toNat ≤ last.toNat ∧ last.toNat ≤ 30
    let dataOk : Prop := 1 ≤ data.length ∧ data.length ≤ 16
    let rows : List (Instr × Prop × BusOp × BusMode) :=
      let m : BusMode :=
        if mode = 1#8 then .once else if mode = 2#8 then .accept else .persist timeout.toNat
      [(.remoteStationRead src mode station item timeout, modeOk ∧ addressed, .read station item, m),
       (.remoteStationWrite src mode station item data timeout, modeOk ∧ addressed ∧ dataOk,
         .write station item data, m),
       (.remoteStationWalk src station last, walkOk, .walk station last false [], .once)]
    ∀ r ∈ rows,
      let pending : Prop := ∃ e ∈ s.req.remotes, e.source = src
      let taken : State :=
        { u with
          req := { u.req with
            remotes := s.req.remotes ++
              [{ source := src, generation := requestGeneration src s, op := r.2.2.1
                 mode := r.2.2.2, deadline := 2000 }] }
          bus := { s.bus with
            remoteQueue := s.bus.remoteQueue ++
              [{ op := r.2.2.1, mode := r.2.2.2, owner := .remote src, phase := .waiting
                 persist := .unstarted, current := true }] } }
      (¬r.2.1 → exec r.1 s = .next (finish (refuse src .range u)))
        ∧ (r.2.1 → pending → exec r.1 s = .next (finish (refuse src .busy u)))
        ∧ (r.2.1 → ¬pending → 8 ≤ s.req.remotes.length →
            exec r.1 s = .next (finish (refuse src .full u)))
        ∧ (r.2.1 → ¬pending → s.req.remotes.length < 8 → s.bus.remoteQueue.length < 8 →
            (s.bus.flight ≠ none → exec r.1 s = .next (finish taken))
              ∧ exec r.1 s = .next (finish (arbitrate taken))))
    ∧ (∀ (front back : List QueueEntry) (e : QueueEntry) (s : State), s.powered = true →
        s.bus.flight = some (.queue .remote) → s.bus.remoteQueue = front ++ e :: back →
        e.phase = .inFlight → (∀ x ∈ front, x.phase ≠ .inFlight) →
        let idle : Bus := { s.bus with flight := none, replyTimer := none }
        let silent : Bus := { idle with noAnswer := satInc idle.noAnswer }
        let busy : Bus := { idle with notReady := satInc idle.notReady }
        let holding (q : List QueueEntry) (b : Bus) : State :=
          { s with bus := { b with remoteQueue := q } }
        let Ends (outcome : BusOutcome) (b : Bus) (i : Instr) : Prop :=
          exec i s = .next (finish (arbitrate (tellOwner e outcome (holding (front ++ back) b))))
        (∀ station item, e.op = .read station item → (e.mode = .once ∨ e.mode = .accept) →
            (∀ data, 1 ≤ data.length → data.length ≤ 16 →
                Ends (.done data) idle (.busAnswer station item true data))
              ∧ Ends .noAnswer silent .busReplyTimeout
              ∧ (∀ data, e.mode = .once →
                  Ends (.notReady none) busy (.busAnswer station item false data))
              ∧ (∀ data, e.mode = .accept →
                  (∀ x ∈ s.store.content.polls, x.station ≠ station ∨ x.item ≠ item) →
                  Ends (.notReady none) busy (.busAnswer station item false data))
              ∧ (∀ data before x after r v, e.mode = .accept →
                  s.store.content.polls = before ++ x :: after → x.station = station → x.item = item →
                  (∀ y ∈ before, y.station ≠ station ∨ y.item ≠ item) →
                  s.record x.dest = some r → r.value = some v →
                  Ends (.notReady (some (v, r.age))) busy (.busAnswer station item false data)))
          ∧ (∀ station item bytes data, e.op = .write station item bytes →
              (e.mode = .once ∨ e.mode = .accept) →
              Ends (.done data) idle (.busAnswer station item true data)
                ∧ Ends (.notReady none) busy (.busAnswer station item false data)
                ∧ Ends .noAnswer silent .busReplyTimeout)
          ∧ (∀ next last started roster, e.op = .walk next last started roster →
              let Reads (found : List RosterEntry) (b : Bus) (i : Instr) : Prop :=
                (next = last →
                    exec i s = .next (finish (arbitrate (tellOwner e (.roster (roster ++ found))
                      (holding (front ++ back) { b with roster := roster ++ found })))))
                  ∧ (next ≠ last →
                      exec i s = .next (finish (arbitrate (holding
                        (front ++ { e with
                            phase := .waiting
                            op := .walk (next + 1#8) last true (roster ++ found) } :: back) b))))
              (∀ data, data.length = 8 →
                  Reads [{ station := next, identification := some data }] idle
                    (.busAnswer next 0#8 true data))
                ∧ (∀ data, 1 ≤ data.length → data.length ≤ 16 → data.length ≠ 8 →
                    Reads [{ station := next, identification := none }] idle
                      (.busAnswer next 0#8 true data))
                ∧ (∀ data, Reads [{ station := next, identification := none }] busy
                    (.busAnswer next 0#8 false data))
                ∧ Reads [] silent .busReplyTimeout))
    ∧ (∀ (front back : List QueueEntry) (e : QueueEntry) (next last : Byte) (started : Bool)
        (roster : List RosterEntry),
        e.op = .walk next last started roster → e.mode = .once → e.phase = .waiting →
        (∀ x ∈ front, (∃ left, x.phase = .retryWait left) ∧ x.op.address ≠ (next, 0#8)) →
        startFirst [] (front ++ e :: back) =
          some ({ e with phase := .inFlight, op := .walk next last true roster } :: (front ++ back)))
    ∧ (∀ (before after : List RemoteEntry) (x : RemoteEntry) (e : QueueEntry) (outcome : BusOutcome)
        (s : State), s.req.remotes = before ++ x :: after → e.owner = .remote x.source →
        (∀ y ∈ before ++ after, y.source ≠ x.source) →
        let gone : State := { s with req := { s.req with remotes := before ++ after } }
        let stale : Prop :=
          ∃ p g t, x.source = .line p g t
            ∧ (s.consist.state ≠ .settled ∨ x.generation ≠ s.consist.generation)
        let Replies (outcome : BusOutcome) (st : Status) (payload : List Byte) : Prop :=
          tellOwner e outcome s = answer x.source st payload .plain gone
        (x.deadline = 0 → tellOwner e outcome s =
            { gone with req := { gone.req with remoteLate := satInc s.req.remoteLate } })
          ∧ (0 < x.deadline → stale → tellOwner e outcome s =
              { gone with req := { gone.req with remoteStale := satInc s.req.remoteStale } })
          ∧ (0 < x.deadline → ¬stale →
              (∀ data station item, x.op = .read station item →
                  Replies (.done data) .ok (byteOf data.length :: data))
                ∧ (∀ data station item bytes, x.op = .write station item bytes →
                    Replies (.done data) .ok [])
                ∧ (∀ roster, Replies (.roster roster) .ok (rosterBytes roster))
                ∧ (∀ v age, Replies (.notReady (some (v, age))) .notReady
                    (byteOf v.length :: v ++ [byteOf age]))
                ∧ Replies (.notReady none) .notReady [] ∧ Replies .noAnswer .noAnswer []
                ∧ Replies .timeout .timeout []))

/-- DOOR-RELEASE is taken at a confirmed head from its own cab station: the next serial, recorded by the Relay
Unit, a last position cut at N, the release applied here and answered. DOOR-CLOSE with a flag set is taken
anywhere, whatever bits 2 to 7 of its mask (the model's choice, assumption 49); either hands its frame over
before it acts here (the model's choice, assumption 69). DOOR-ISOLATE is answered OK and sends its leaf to
ISOLATED; DOOR-RESTORE is answered OK and sends a leaf in ISOLATED to CLOSED where it is known CLOSED-LOCKED,
else to a fresh WARNING, CLOSING where the warning time is 0; GROUP-RESET clears a group fault. The refusals are
RANGE and STATE in the order of the rules (R119, R122, R127, R134, R135, R169). The reply of DOOR-RELEASE,
DOOR-CLOSE and GROUP-RESET comes after the effect, that of DOOR-ISOLATE and DOOR-RESTORE before it (assumption
10). -/
def Obligations.DoorAndGroupRequests : Prop :=
  ∀ (src : ReqSource) (s : State), Executable src s →
    let u := s.armCleared
    let stateRefused (i : Instr) : Prop := exec i s = .next (finish (refuse src .state u))
    let rangeRefused (i : Instr) : Prop := exec i s = .next (finish (refuse src .range u))
    (∀ (side first last : Byte) (outside : Bool),
        let i : Instr := .doorRelease src side first last outside
        let fields : Prop :=
          (side = 1#8 ∨ side = 2#8) ∧ 1 ≤ first.toNat ∧ first.toNat ≤ last.toNat
        let mayRelease : Prop :=
          (∃ tag, src = .cab tag) ∧ s.consist.status = .valid ∧ s.consist.state = .settled
        (¬fields → rangeRefused i)
          ∧ (fields → ¬mayRelease → stateRefused i)
          ∧ (fields → mayRelease → s.n < first.toNat → rangeRefused i)
          ∧ (fields → mayRelease → first.toNat ≤ s.n → s.n ≤ 32 →
              let serial := s.door.releaseSerial + 1#8
              let stop := min last.toNat s.n
              let r : Release :=
                { serial := serial, side := if side = 1#8 then .left else .right
                  first := first.toNat, last := stop, outside := outside }
              ∃ t, exec i s =
                  .next (finish (accept src [serial, first, byteOf stop]
                    (applyRelease r s.consist.generation t)))
                ∧ t.door = { s.door with releaseSerial := serial }
                ∧ t.relay.lastSerial = some serial ∧ t.consist = s.consist ∧ t.sweep = s.sweep
                ∧ ∀ p, JoinsUrgent p
                    { kind := 0x09#8, header := broadcastHeader s.consist.generation (byteOf s.position)
                      payload := releasePayload r } s t))
      ∧ (∀ mask : Byte,
          let i : Instr := .doorClose src mask
          (mask.getLsbD 0 = false → mask.getLsbD 1 = false → rangeRefused i)
            ∧ ((mask.getLsbD 0 = true ∨ mask.getLsbD 1 = true) →
                let serial := s.door.closeSerial + 1#8
                let c : Close := { serial := serial, left := mask.getLsbD 0, right := mask.getLsbD 1 }
                ∃ t, exec i s =
                    .next (finish (accept src [serial]
                      (applyClose c (if s.consist.state = .settled then s.orientation else none) t)))
                  ∧ t.door = { s.door with closeSerial := serial } ∧ t.consist = s.consist
                  ∧ ∀ p, JoinsUrgent p
                      { kind := 0x0A#8, header := broadcastHeader s.consist.generation s.sourcePosition
                        payload := closePayload c } s t))
      ∧ (∀ leaf : Byte,
          (s.leaf leaf.toNat = none →
              rangeRefused (.doorIsolate src leaf) ∧ rangeRefused (.doorRestore src leaf))
            ∧ (∀ l, s.leaf leaf.toNat = some l → l.state ≠ .isolated →
                stateRefused (.doorRestore src leaf)
                  ∧ (let t := finish (isolateLeaf leaf.toNat (accept src [] u))
                     exec (.doorIsolate src leaf) s = .next t
                      ∧ t.leaf leaf.toNat = some { l with state := .isolated, timer := none }
                      ∧ (∀ j, j ≠ leaf.toNat → t.leaf j = s.leaf j)
                      ∧ t.bus.doorQueue.length = s.bus.doorQueue.length))
            ∧ (∀ l, s.leaf leaf.toNat = some l → l.state = .isolated →
                let t := finish (restoreLeaf leaf.toNat (accept src [] u))
                exec (.doorIsolate src leaf) s = .next (finish (accept src [] u))
                  ∧ exec (.doorRestore src leaf) s = .next t
                  ∧ (∀ j, j ≠ leaf.toNat → t.leaf j = s.leaf j)
                  ∧ (s.leafStatus leaf.toNat = some .closedLocked →
                      t.leaf leaf.toNat = some { l with state := .closed, timer := none })
                  ∧ (s.leafStatus leaf.toNat ≠ some .closedLocked → s.bus.doorQueue.length < 16 →
                      s.store.content.warning ≠ 0 →
                      t.leaf leaf.toNat =
                        some { l with
                          state := .warning, timer := some (s.store.content.warning * 1000)
                          attempts := s.store.content.reopenAttempts })
                  ∧ (s.leafStatus leaf.toNat ≠ some .closedLocked → s.bus.doorQueue.length < 16 →
                      s.store.content.warning = 0 →
                      t.leaf leaf.toNat =
                        some { state := .closing, timer := some (s.store.content.closeConfirm * 1000)
                               attempts := s.store.content.reopenAttempts, closeMark := false })))
      ∧ (∀ group : Byte,
          (s.group group.toNat = none → rangeRefused (.groupReset src group))
            ∧ (∀ g, s.group group.toNat = some g → g.fault = none →
                stateRefused (.groupReset src group))
            ∧ (∀ g, s.group group.toNat = some g → g.fault ≠ none →
                ∃ t, exec (.groupReset src group) s = .next (finish (accept src [] t))
                  ∧ t.group group.toNat = some { g with fault := none, mismatch := 0 }
                  ∧ (∀ j, j ≠ group.toNat → t.group j = s.group j)
                  ∧ t.door = s.door ∧ t.consist = s.consist ∧ t.bus = s.bus))

/-- RECORD-EDIT replaces bytes of the edit buffer and RECORD-EDIT-RESET copies the live image there, both
refused with BUSY in a store; RECORD-STORE is checked for BUSY, PROTECTED, CHECK and STATE in turn and then
starts the write; SET-PROTECTION takes a mode where R185 lets it, HELD at once and the others with a write of
the setting (R177, R178, R180, R184, R185). -/
def Obligations.RecordRequests : Prop :=
  ∀ (src : ReqSource) (s : State), Executable src s →
    let u := s.armCleared
    let no (i : Instr) (st : Status) : Prop := exec i s = .next (finish (refuse src st u))
    let idle : Prop := s.store.state = .idle
    let mayStore : Prop :=
      s.store.mode = .unlocked ∨ (s.store.mode = .keyed ∧ s.pins.workshop = true)
    let settled : Prop := ∀ l ∈ s.door.leaves, l.state = .closed ∨ l.state = .isolated
    (∀ (offset : Word16) (data : List Byte),
        let i : Instr := .recordEdit src offset data
        let fits : Prop := 1 ≤ data.length ∧ data.length ≤ 64 ∧ offset.toNat + data.length ≤ 512
        (¬fits → no i .range) ∧ (fits → ¬idle → no i .busy)
          ∧ (fits → idle → ∃ edit, exec i s =
                .next (finish (accept src [] { u with store := { s.store with edit := edit } }))
              ∧ (s.store.edit.length = 512 → edit.length = 512)
              ∧ ∀ j, j < 512 → s.store.edit.length = 512 → edit[j]? =
                  (if offset.toNat ≤ j ∧ j < offset.toNat + data.length then data[j - offset.toNat]?
                   else s.store.edit[j]?)))
      ∧ (¬idle → no (.recordEditReset src) .busy)
      ∧ (idle → exec (.recordEditReset src) s =
          .next (finish (accept src [] { u with store := { s.store with edit := s.store.live } })))
      ∧ (¬idle → no (.recordStore src) .busy)
      ∧ (idle → ¬mayStore → no (.recordStore src) .guarded)
      ∧ (∀ why, idle → mayStore → checkImage s.store.edit = some why →
          exec (.recordStore src) s =
            .next (finish (answer src .check [checkCode (some why)] .plain u)))
      ∧ (idle → mayStore → checkImage s.store.edit = none → ¬settled → no (.recordStore src) .state)
      ∧ (idle → mayStore → checkImage s.store.edit = none → settled →
          exec (.recordStore src) s =
            .next (finish (accept src
              (be16 (imageLengthOf s.store.edit) ++ be16 (checkWordOf s.store.edit).toNat)
              { u with store := { s.store with state := .writing, writeTimer := some 400 } })))
      ∧ (∀ b, protectionOf b = none → no (.setProtection src b) .range)
      ∧ (∀ b wanted, protectionOf b = some wanted →
          let i : Instr := .setProtection src b
          let key := s.pins.workshop = true
          let now := s.store.mode
          let forbidden : Prop :=
            now = .fixed ∨ (now = .held ∧ (wanted = .unlocked ∨ wanted = .keyed))
              ∨ (¬key ∧ (wanted = .keyed ∨ wanted = .fixed ∨ (now = .keyed ∧ wanted = .unlocked)))
          (¬idle → no i .busy) ∧ (idle → forbidden → no i .guarded)
            ∧ (idle → ¬forbidden → wanted = .held →
                exec i s = .next (finish (accept src [] { u with store := { s.store with
                  mode := .held } })))
            ∧ (idle → ¬forbidden → wanted ≠ .held →
                exec i s = .next (finish (accept src [] { u with store := { s.store with
                  mode := wanted, state := .setting, writeTimer := some 50 } }))))

/-- The end of a record write: read back equal to the buffer and valid it awaits the doors, and goes live at
once where they are at rest; else the store has failed, the live record stands and RECORD-INVALID with VERIFY is
raised. The end of a setting write returns to IDLE. When the record goes live the live image and content are the
awaiting ones, every leaf is in START, no group is settled, the poll records are empty, the claims at ends no
longer listed lapse, and CHANGE and RECORD-STORED follow, the claims first and the notice last (the model's
order, assumption 42) (R100, R137, R170, R181, R182, R185). A reset held back takes place at the end of the
write: without the read-back the record just written is loaded, valid or not, without RECORD-STORED; the setting
just written is the mode (R183, R185); the copies of a CHANGE are gone after it (the model's choice, assumption
33), the levels of the inputs stay (assumption 3), and the writes of 0 join class 2 in record order (assumption
53). -/
def Obligations.StoreEndsAndGoesLive : Prop :=
  (∀ s : State, s.powered = true → s.req.resetHeld = false →
    let waits : State :=
      { s with store := { s.store with
        stored := s.store.edit, storedMark := .whole, writeTimer := none
        awaiting := some s.store.edit, state := .awaitingDoors } }
    (s.store.state = .writing → s.store.edit.length = 512 → checkImage s.store.edit = none →
        (doorsAtRest s = false →
            exec (.recordWriteEnd s.store.edit) s = .next (finish waits))
          ∧ (doorsAtRest s = true →
              exec (.recordWriteEnd s.store.edit) s = .next (finish (takeUpRecord waits))))
      ∧ (∀ readBack, s.store.state = .writing → readBack.length = 512 →
          (readBack ≠ s.store.edit ∨ checkImage readBack ≠ none) →
          exec (.recordWriteEnd readBack) s =
            .next (finish (raise .recordInvalid 0#8 6 { s with store := { s.store with
              stored := readBack, storedMark := .failedReadBack, writeTimer := none
              state := .idle } })))
      ∧ (s.store.state = .setting →
          exec .settingWriteEnd s =
            .next (finish { s with store := { s.store with
              storedSetting := some s.store.mode, state := .idle, writeTimer := none } }))
      ∧ (∀ img, s.store.state = .awaitingDoors → s.store.awaiting = some img → doorsAtRest s = true →
          let c := contentOf img none
          ∃ t, exec .recordLive s =
              .next (finish (raise .recordStored 0#8 (checkWordOf img).toNat
                (originateChange (evalClaims t))))
            ∧ t.store = { s.store with
                live := img, content := c, validity := none, awaiting := none, state := .idle }
            ∧ t.door.leaves = c.leaves.map (fun _ =>
                { state := .start, timer := none, attempts := c.reopenAttempts, closeMark := false })
            ∧ (c.leaves ≠ [] → t.door.vehicleProof = false) ∧ t.door.headless = s.door.headless
            ∧ t.heat.groups.length = c.groups.length
            ∧ (∀ g ∈ t.heat.groups, g.commanded = 0 ∧ g.settled = false ∧ g.fault = none)
            ∧ t.heat.take = 0 ∧ t.heat.latch = none ∧ t.heat.increase = none
            ∧ t.heat.allotted = false ∧ t.heat.allowance = s.heat.allowance
            ∧ (∀ r ∈ t.bus.records, r.value = none ∧ r.age = 255)
            ∧ t.consist.claim1 = (s.consist.claim1 && c.cabEnd1)
            ∧ t.consist.claim2 = (s.consist.claim2 && c.cabEnd2)
            ∧ t.consist.activeMap = s.consist.activeMap))
    ∧ (∀ s : State, s.powered = true → s.req.resetHeld = true →
        let Reset (t : State) : Prop :=
          StartsAfresh t ∧ t.lp1.link = .down ∧ t.lp1.dropInterval = some 200 ∧ t.lp2.link = .down
            ∧ t.lp2.dropInterval = some 200
            ∧ t.consist = { Consist.reset with changeCounter := s.consist.changeCounter }
            ∧ t.sweep = Sweep.reset ∧ t.req.resetPending = false ∧ t.req.resetHeld = false
            ∧ t.store.state = .idle ∧ t.identity = s.identity ∧ t.pins = s.pins
        (∀ written, s.store.state = .writing → written.length = 512 →
            ∃ t, exec (.recordWriteEnd written) s = .next t ∧ Reset t
              ∧ t.store.stored = written ∧ t.store.live = written
              ∧ t.store.validity = checkImage written
              ∧ (checkImage written = none → t.store.content = contentOf written none
                  ∧ t.req.notices = [])
              ∧ (checkImage written ≠ none → t.store.content = Content.defaults)
              ∧ t.door.leaves.length = t.store.content.leaves.length
              ∧ (∀ l ∈ t.door.leaves, l.state = .start))
          ∧ (s.store.state = .setting → s.store.mode ≠ .held →
              ∃ t, exec .settingWriteEnd s = .next t ∧ Reset t
                ∧ t.store.storedSetting = some s.store.mode ∧ t.store.mode = s.store.mode
                ∧ t.store.stored = s.store.stored))

/-- A host frame that R199 discards is only counted, one of the four forms too short for its address and a kind
byte among them (assumption 39). A host request for LOCAL is executed here, whatever command its bytes spell, a
malformed one refused with RANGE and an unknown kind with UNKNOWN-KIND; so is what REQUEST_UNKNOWN_KIND carries,
a known kind included (assumption 36) (R104, R187). A form above 3, a POSITION of 0 or above 32 and an ALIAS of
0 give RANGE, POSITION, IDENTITY and ALIAS at a node that is not SETTLED STATE, an identity not in the map and
an alias not in the table ABSENT (R103, R105). What resolves goes out as a REQUEST with the host's tag, a
REMOTE-STATION through an alias with the alias's station in its third field byte (the layout of assumption 14),
or is executed here where the position is the node's own (R12, R106). Of the mailbox transfers of a cab service,
a read answered with a frame, whatever its length (assumption 52), hands it over, one answered empty or
NOT-READY leads to the writes, a write answered READY takes the oldest frame out; a read without an answer, a
write without READY, and a write phase with no frame or write left end the service (R96, R98). Its outcome sets
the silence count: answered, 0 and ANSWERING; only unanswered transfers, one more, and at 10 while ANSWERING the
cab station is lost, its claims and request bits with it, and CAB-LOST raised; no transfer, or no cab service,
unchanged (R95, R99). -/
def Obligations.HostFrames : Prop :=
  (∀ (tag kind : Byte) (fields : List Byte) (s : State), s.powered = true →
    s.req.resetPending = false →
    let host (form : Byte) (address : List Byte) : Instr :=
      .hostRequest ([0x01#8, tag, form] ++ address ++ kind :: fields)
    let Refused (i : Instr) (st : Status) : Prop :=
      exec i s = .next (finish (offerCabReply tag (statusCode st) 0#8 [] .plain s))
    let settled : Prop := s.consist.state = .settled
    let Executes (i : Instr) (src : ReqSource) (fields : List Byte) : Prop :=
      (∀ c, readRequest src kind fields = .command c → exec i s = exec c s)
        ∧ (readRequest src kind fields = .malformed →
            exec i s = .next (finish (refuse src .range s.armCleared)))
        ∧ ((kind = 0#8 ∨ 30 < kind.toNat) →
            exec i s = .next (finish (refuse src .unknownKind s.armCleared)))
    let Sent (i : Instr) (destination : Byte) (fields : List Byte) : Prop :=
      (destination.toNat ≠ s.position →
          exec i s = .next (finish (route
            { frame :=
                { kind := 0x0B#8
                  header := { generation := s.consist.generation, flags := 0#8
                              destination := destination, source := byteOf s.position, tag := tag }
                  payload := kind :: fields }
              mark := .plain } s)))
        ∧ (destination.toNat = s.position → destination ≠ 0#8 →
            Executes i (.line destination s.consist.generation tag) fields)
    let Resolved (i : Instr) (vehicle : VehicleRef) (fields : List Byte) : Prop :=
      (∀ p, vehicle = .position p → Sent i p fields)
        ∧ (∀ who, vehicle = .identity who →
            ((∀ x ∈ s.consist.activeMap, x.identity ≠ who) → Refused i .absent)
              ∧ (∀ before x after, s.consist.activeMap = before ++ x :: after → x.identity = who →
                  (∀ y ∈ before, y.identity ≠ who) → before.length < 32 →
                  Sent i (byteOf (before.length + 1)) fields))
    (∀ frame, (frame.head? ≠ some 0x01#8 ∨ frame.length ≤ 2
          ∨ (frame.length = 3 ∧ (frame.getD 2 0#8).toNat ≤ 3)
          ∨ (frame.length = 4 ∧ (frame.getD 2 0#8 = 1#8 ∨ frame.getD 2 0#8 = 3#8))
          ∨ (frame.length ≤ 9 ∧ frame.getD 2 0#8 = 2#8)) →
        exec (.hostFrameDiscard frame) s =
          .next (finish { s with req := { s.req with requestDrop := satInc s.req.requestDrop } }))
      ∧ Executes (host 0#8 []) (.cab tag) fields
      ∧ (∀ form, 3 < form.toNat → Refused (.hostRequest ([0x01#8, tag, form] ++ fields)) .range)
      ∧ (∀ p, (p = 0#8 ∨ 32 < p.toNat) → Refused (host 1#8 [p]) .range)
      ∧ (∀ p, 1 ≤ p.toNat → p.toNat ≤ 32 →
          (¬settled → Refused (host 1#8 [p]) .state) ∧ (settled → Sent (host 1#8 [p]) p fields))
      ∧ (∀ who, (¬settled → Refused (host 2#8 (idBytes who)) .state)
          ∧ (settled → Resolved (host 2#8 (idBytes who)) (.identity who) fields))
      ∧ Refused (host 3#8 [0#8]) .range
      ∧ (∀ a, a ≠ 0#8 →
          (¬settled → Refused (host 3#8 [a]) .state)
            ∧ (settled → (∀ x ∈ s.req.aliases, x.number ≠ a) → Refused (host 3#8 [a]) .absent)
            ∧ (∀ before x after, settled → s.req.aliases = before ++ x :: after → x.number = a →
                (∀ y ∈ before, y.number ≠ a) →
                Resolved (host 3#8 [a]) x.vehicle
                  (match fields with
                    | op :: mode :: station :: rest =>
                      op :: mode :: (if kind = 19#8 then x.station else station) :: rest
                    | short => short)))
      ∧ (∀ src, Executable src s → Executes (.requestUnknownKind src kind fields) src fields))
    ∧ (∀ (c : CabEntry) (s : State), s.powered = true → s.bus.cab = some c →
        let idle : Bus := { s.bus with flight := none, replyTimer := none }
        let silent : Bus := { idle with noAnswer := satInc idle.noAnswer }
        let busy : Bus := { idle with notReady := satInc idle.notReady }
        let heard : CabTally := { ended := true, answered := true }
        let unheard : CabTally := { ended := true, answered := c.tally.answered }
        let serving (c : CabEntry) (b : Bus) : State := { s with bus := { b with cab := some c } }
        let served (t : CabTally) (x : State) : State :=
          finishRound (takeCabOutcome t { x with bus := { x.bus with cab := none } })
        let Goes (i : Instr) (x : State) : Prop :=
          exec i s = .next (finish (arbitrate
            (match x.bus.cab with
              | none => x
              | some c =>
                if c.writing = true ∧ (x.bus.outbound = [] ∨ c.writesLeft = 0) then served c.tally x
                else x)))
        let Ends (i : Instr) (t : CabTally) (b : Bus) : Prop :=
          exec i s = .next (finish (arbitrate (served t { s with bus := b })))
        let mailbox (ready : Bool) (frame : List Byte) : Instr := .busAnswer 31#8 1#8 ready frame
        (s.bus.flight = some (.cab .read none) →
            let writes : CabEntry := { c with writing := true, tally := heard }
            (∀ frame, frame ≠ [] →
                Goes (mailbox true frame) (takeHostFrame frame
                  (serving
                    { c with
                      readsLeft := c.readsLeft - 1, writing := decide (c.readsLeft ≤ 1)
                      tally := heard } idle)))
              ∧ Goes (mailbox true []) (serving writes idle)
              ∧ (∀ frame, Goes (mailbox false frame) (serving writes busy))
              ∧ Ends .busReplyTimeout unheard silent)
          ∧ (s.bus.flight = some (.cab .write none) →
              (∀ sent f rest, s.bus.outbound = f :: rest → f.mark = .plain →
                  Goes (mailbox true sent)
                    (serving { c with writesLeft := c.writesLeft - 1, tally := heard }
                      { idle with outbound := rest }))
                ∧ (∀ frame, Ends (mailbox false frame) heard busy)
                ∧ Ends .busReplyTimeout unheard silent))
    ∧ (∀ (t : CabTally) (s : State),
        let served (silence : Nat) (state : CabState) : State :=
          { s with bus := { s.bus with silence := silence, cabState := state } }
        (s.cabServed = false → takeCabOutcome t s = s)
          ∧ (s.cabServed = true →
              (t.answered = true → takeCabOutcome t s = served 0 .answering)
                ∧ (t.answered = false → t.ended = false → takeCabOutcome t s = s)
                ∧ (t.answered = false → t.ended = true →
                    (s.bus.silence + 1 < 10 ∨ s.bus.cabState = .lost) →
                    takeCabOutcome t s = served (min (s.bus.silence + 1) 255) s.bus.cabState)
                ∧ (t.answered = false → t.ended = true → 10 ≤ s.bus.silence + 1 →
                    s.bus.cabState = .answering →
                    ∃ lost, takeCabOutcome t s = raise .cabLost 0#8 0 lost
                      ∧ lost.bus.cabState = .lost ∧ lost.bus.silence = min (s.bus.silence + 1) 255
                      ∧ lost.consist.claim1 = false ∧ lost.consist.claim2 = false
                      ∧ lost.consist.status = .none
                      ∧ lost.sweep.request =
                          { standstill := false, enableLeft := false, enableRight := false }
                      ∧ lost.door.leaves = s.door.leaves)))

/-! ## Encodings -/

/-- A byte string passes the check of R3 exactly when it is the encoding of a frame whose payload passes R3,
and then it reads back as that frame: no field of the header, the payload or the check is lost or invented. -/
def Obligations.FramesReadBackAsTheyWereSent : Prop :=
  ∀ (bytes : List Byte) (f : Frame),
    wireFrame bytes = some f ↔ (payloadPasses f = true ∧ bytes = frameWire f)

/-- The payloads a node builds read back as what they were built from: the consist entries of a COUNT and of a
ROLL, the status of a ROLL, the N of a CONFIRM, a SWEEP-OUT, a SWEEP-BACK, a DOOR-RELEASE, a DOOR-CLOSE, a
CHANGE, a TEST and the four HELLOs, at every value their fields admit. A NOTICE has 5 bytes, which tell two
notices apart, and the status byte of a REPLY tells two statuses apart; a receiver hands both on as bytes, and a
REQUEST carries the bytes its host gave (R24, R48, R197, section 12.2). -/
def Obligations.PayloadsReadBack : Prop :=
  (∀ es : List ConsistEntry, es.length ≤ 32 → (∀ e ∈ es, EntryInRange e) →
      readCount (entriesBytes es) = some es ∧ readRoll (rollPayload .ok es) = some (.ok, es))
    ∧ (∀ f : SweepOut, f.period < 65536 → f.stagger < 65536 → f.allowance ≤ 2000 → f.dSum < 65536 →
        f.wSum < 65536 → f.tally.visits < 256 → f.tally.firstUnproven < 256 → f.tally.unproven < 256 →
        f.tally.isolated < 65536 → f.tally.released < 256 →
        readSweepOut (sweepOutPayload f) = some f)
    ∧ (∀ f : SweepBack, f.allowance ≤ 2000 → f.tally.visits < 256 → f.tally.firstUnproven < 256 →
        f.tally.unproven < 256 → f.tally.isolated < 65536 → f.tally.released < 256 →
        readSweepBack (sweepBackPayload f) = some f)
    ∧ (∀ r : Release, 1 ≤ r.first → r.first ≤ r.last → r.last ≤ 32 →
        readRelease (releasePayload r) = some r)
    ∧ (∀ c : Close, (c.left = true ∨ c.right = true) → readClose (closePayload c) = some c)
    ∧ (∀ id : ChangeId, readChange (changePayload id) = some id)
    ∧ (∀ i, i < 65536 → readTest (testPayload i) = some i)
    ∧ (∀ (who : Neighbour) (v : HelloVariant), (∀ n, v = .testOffer n → 16 ≤ n ∧ n ≤ 4096) →
        readHello (helloPayload who.identity who.farEnd who.generation v) = some (who, v))
    ∧ (∀ why, readRoll (rollPayload why []) = some (why, []))
    ∧ (∀ n, 1 ≤ n → n ≤ 32 → readConfirm [byteOf n] = some n)
    ∧ (∀ n : Notice, (noticeBytes n).length = 5 ∧ ∀ m, noticeBytes m = noticeBytes n → m = n)
    ∧ (∀ a b, statusCode a = statusCode b → a = b)

/-! ## Invariants of every step -/

/-- After every step of a node with power the PROVEN output stands at its source of R148, whatever command
ran: the train proof flag, the vehicle proof or deasserted by claim status, consist state and N. -/
def Obligations.EveryStepKeepsProvenAtItsSource : Prop :=
  ∀ s t : State, ProvenFollows s → step s = .next t → ProvenFollows t

/-- No step lets a node in UNKNOWN hold a map or a generation, nor a lane, queue, list or table hold more than
its capacity (R10, R13, R44, R61, R84, R97, R102, R191): of the classes, 1 and 4 in `Capacities`; class 2, as the
heat writes of at most 4 groups (R84, R87); the stored and the working rosters, in station order (R83); the
active and the pending map (R37); the images of a record (R173). -/
def Obligations.EveryStepKeepsCapacitiesAndUnknownEmpty : Prop :=
  (∀ s t : State, Capacities s → UnknownIsEmpty s → step s = .next t → Capacities t ∧ UnknownIsEmpty t)
    ∧ (∀ s t : State, HeatWritesBounded s → step s = .next t → HeatWritesBounded t)
    ∧ (∀ s t : State, RostersInOrder s → step s = .next t → RostersInOrder t)
    ∧ (∀ s t : State, MapsBounded s → step s = .next t → MapsBounded t)
    ∧ (∀ s t : State, ImagesWhole s → step s = .next t → ImagesWhole t)

/-- The state after power-on meets the invariants. -/
def Obligations.ResetMeetsTheInvariants : Prop :=
  (ProvenFollows State.reset ∧ UnknownIsEmpty State.reset ∧ Capacities State.reset)
    ∧ HeatWritesBounded State.reset ∧ RostersInOrder State.reset ∧ MapsBounded State.reset
    ∧ ImagesWhole State.reset
end

