-- ==== Sys2Proof/Laws/State.lean ====
section
/-! SUPPORT. One lemma for each field of the state under each update, so that no proof unfolds a record
update. -/

namespace Sys2Proof.Machine

open Sys2Proof

/-! ## `State.modRelay` -/

@[simp] theorem State.modRelay_powered (f : Relay → Relay) (s : State) :
    (s.modRelay f).powered = s.powered := rfl
@[simp] theorem State.modRelay_identity (f : Relay → Relay) (s : State) :
    (s.modRelay f).identity = s.identity := rfl
@[simp] theorem State.modRelay_pins (f : Relay → Relay) (s : State) :
    (s.modRelay f).pins = s.pins := rfl
@[simp] theorem State.modRelay_proven (f : Relay → Relay) (s : State) :
    (s.modRelay f).proven = s.proven := rfl
@[simp] theorem State.modRelay_lp1 (f : Relay → Relay) (s : State) :
    (s.modRelay f).lp1 = s.lp1 := rfl
@[simp] theorem State.modRelay_lp2 (f : Relay → Relay) (s : State) :
    (s.modRelay f).lp2 = s.lp2 := rfl
@[simp] theorem State.modRelay_relay (f : Relay → Relay) (s : State) :
    (s.modRelay f).relay = f s.relay := rfl
@[simp] theorem State.modRelay_consist (f : Relay → Relay) (s : State) :
    (s.modRelay f).consist = s.consist := rfl
@[simp] theorem State.modRelay_sweep (f : Relay → Relay) (s : State) :
    (s.modRelay f).sweep = s.sweep := rfl
@[simp] theorem State.modRelay_bus (f : Relay → Relay) (s : State) :
    (s.modRelay f).bus = s.bus := rfl
@[simp] theorem State.modRelay_req (f : Relay → Relay) (s : State) :
    (s.modRelay f).req = s.req := rfl
@[simp] theorem State.modRelay_door (f : Relay → Relay) (s : State) :
    (s.modRelay f).door = s.door := rfl
@[simp] theorem State.modRelay_heat (f : Relay → Relay) (s : State) :
    (s.modRelay f).heat = s.heat := rfl
@[simp] theorem State.modRelay_store (f : Relay → Relay) (s : State) :
    (s.modRelay f).store = s.store := rfl
@[simp] theorem State.modRelay_freeCount (f : Relay → Relay) (s : State) :
    (s.modRelay f).freeCount = s.freeCount := rfl
@[simp] theorem State.modRelay_pending (f : Relay → Relay) (s : State) :
    (s.modRelay f).pending = s.pending := rfl
@[simp] theorem State.modRelay_port (f : Relay → Relay) (p : PortId) (s : State) :
    (s.modRelay f).port p = s.port p := by cases p <;> rfl

/-! ## `State.modConsist` -/

@[simp] theorem State.modConsist_powered (f : Consist → Consist) (s : State) :
    (s.modConsist f).powered = s.powered := rfl
@[simp] theorem State.modConsist_identity (f : Consist → Consist) (s : State) :
    (s.modConsist f).identity = s.identity := rfl
@[simp] theorem State.modConsist_pins (f : Consist → Consist) (s : State) :
    (s.modConsist f).pins = s.pins := rfl
@[simp] theorem State.modConsist_proven (f : Consist → Consist) (s : State) :
    (s.modConsist f).proven = s.proven := rfl
@[simp] theorem State.modConsist_lp1 (f : Consist → Consist) (s : State) :
    (s.modConsist f).lp1 = s.lp1 := rfl
@[simp] theorem State.modConsist_lp2 (f : Consist → Consist) (s : State) :
    (s.modConsist f).lp2 = s.lp2 := rfl
@[simp] theorem State.modConsist_relay (f : Consist → Consist) (s : State) :
    (s.modConsist f).relay = s.relay := rfl
@[simp] theorem State.modConsist_consist (f : Consist → Consist) (s : State) :
    (s.modConsist f).consist = f s.consist := rfl
@[simp] theorem State.modConsist_sweep (f : Consist → Consist) (s : State) :
    (s.modConsist f).sweep = s.sweep := rfl
@[simp] theorem State.modConsist_bus (f : Consist → Consist) (s : State) :
    (s.modConsist f).bus = s.bus := rfl
@[simp] theorem State.modConsist_req (f : Consist → Consist) (s : State) :
    (s.modConsist f).req = s.req := rfl
@[simp] theorem State.modConsist_door (f : Consist → Consist) (s : State) :
    (s.modConsist f).door = s.door := rfl
@[simp] theorem State.modConsist_heat (f : Consist → Consist) (s : State) :
    (s.modConsist f).heat = s.heat := rfl
@[simp] theorem State.modConsist_store (f : Consist → Consist) (s : State) :
    (s.modConsist f).store = s.store := rfl
@[simp] theorem State.modConsist_freeCount (f : Consist → Consist) (s : State) :
    (s.modConsist f).freeCount = s.freeCount := rfl
@[simp] theorem State.modConsist_pending (f : Consist → Consist) (s : State) :
    (s.modConsist f).pending = s.pending := rfl
@[simp] theorem State.modConsist_port (f : Consist → Consist) (p : PortId) (s : State) :
    (s.modConsist f).port p = s.port p := by cases p <;> rfl

/-! ## `State.modSweep` -/

@[simp] theorem State.modSweep_powered (f : Sweep → Sweep) (s : State) :
    (s.modSweep f).powered = s.powered := rfl
@[simp] theorem State.modSweep_identity (f : Sweep → Sweep) (s : State) :
    (s.modSweep f).identity = s.identity := rfl
@[simp] theorem State.modSweep_pins (f : Sweep → Sweep) (s : State) :
    (s.modSweep f).pins = s.pins := rfl
@[simp] theorem State.modSweep_proven (f : Sweep → Sweep) (s : State) :
    (s.modSweep f).proven = s.proven := rfl
@[simp] theorem State.modSweep_lp1 (f : Sweep → Sweep) (s : State) :
    (s.modSweep f).lp1 = s.lp1 := rfl
@[simp] theorem State.modSweep_lp2 (f : Sweep → Sweep) (s : State) :
    (s.modSweep f).lp2 = s.lp2 := rfl
@[simp] theorem State.modSweep_relay (f : Sweep → Sweep) (s : State) :
    (s.modSweep f).relay = s.relay := rfl
@[simp] theorem State.modSweep_consist (f : Sweep → Sweep) (s : State) :
    (s.modSweep f).consist = s.consist := rfl
@[simp] theorem State.modSweep_sweep (f : Sweep → Sweep) (s : State) :
    (s.modSweep f).sweep = f s.sweep := rfl
@[simp] theorem State.modSweep_bus (f : Sweep → Sweep) (s : State) :
    (s.modSweep f).bus = s.bus := rfl
@[simp] theorem State.modSweep_req (f : Sweep → Sweep) (s : State) :
    (s.modSweep f).req = s.req := rfl
@[simp] theorem State.modSweep_door (f : Sweep → Sweep) (s : State) :
    (s.modSweep f).door = s.door := rfl
@[simp] theorem State.modSweep_heat (f : Sweep → Sweep) (s : State) :
    (s.modSweep f).heat = s.heat := rfl
@[simp] theorem State.modSweep_store (f : Sweep → Sweep) (s : State) :
    (s.modSweep f).store = s.store := rfl
@[simp] theorem State.modSweep_freeCount (f : Sweep → Sweep) (s : State) :
    (s.modSweep f).freeCount = s.freeCount := rfl
@[simp] theorem State.modSweep_pending (f : Sweep → Sweep) (s : State) :
    (s.modSweep f).pending = s.pending := rfl
@[simp] theorem State.modSweep_port (f : Sweep → Sweep) (p : PortId) (s : State) :
    (s.modSweep f).port p = s.port p := by cases p <;> rfl

/-! ## `State.modBus` -/

@[simp] theorem State.modBus_powered (f : Bus → Bus) (s : State) :
    (s.modBus f).powered = s.powered := rfl
@[simp] theorem State.modBus_identity (f : Bus → Bus) (s : State) :
    (s.modBus f).identity = s.identity := rfl
@[simp] theorem State.modBus_pins (f : Bus → Bus) (s : State) :
    (s.modBus f).pins = s.pins := rfl
@[simp] theorem State.modBus_proven (f : Bus → Bus) (s : State) :
    (s.modBus f).proven = s.proven := rfl
@[simp] theorem State.modBus_lp1 (f : Bus → Bus) (s : State) :
    (s.modBus f).lp1 = s.lp1 := rfl
@[simp] theorem State.modBus_lp2 (f : Bus → Bus) (s : State) :
    (s.modBus f).lp2 = s.lp2 := rfl
@[simp] theorem State.modBus_relay (f : Bus → Bus) (s : State) :
    (s.modBus f).relay = s.relay := rfl
@[simp] theorem State.modBus_consist (f : Bus → Bus) (s : State) :
    (s.modBus f).consist = s.consist := rfl
@[simp] theorem State.modBus_sweep (f : Bus → Bus) (s : State) :
    (s.modBus f).sweep = s.sweep := rfl
@[simp] theorem State.modBus_bus (f : Bus → Bus) (s : State) :
    (s.modBus f).bus = f s.bus := rfl
@[simp] theorem State.modBus_req (f : Bus → Bus) (s : State) :
    (s.modBus f).req = s.req := rfl
@[simp] theorem State.modBus_door (f : Bus → Bus) (s : State) :
    (s.modBus f).door = s.door := rfl
@[simp] theorem State.modBus_heat (f : Bus → Bus) (s : State) :
    (s.modBus f).heat = s.heat := rfl
@[simp] theorem State.modBus_store (f : Bus → Bus) (s : State) :
    (s.modBus f).store = s.store := rfl
@[simp] theorem State.modBus_freeCount (f : Bus → Bus) (s : State) :
    (s.modBus f).freeCount = s.freeCount := rfl
@[simp] theorem State.modBus_pending (f : Bus → Bus) (s : State) :
    (s.modBus f).pending = s.pending := rfl
@[simp] theorem State.modBus_port (f : Bus → Bus) (p : PortId) (s : State) :
    (s.modBus f).port p = s.port p := by cases p <;> rfl

/-! ## `State.modReq` -/

@[simp] theorem State.modReq_powered (f : Req → Req) (s : State) :
    (s.modReq f).powered = s.powered := rfl
@[simp] theorem State.modReq_identity (f : Req → Req) (s : State) :
    (s.modReq f).identity = s.identity := rfl
@[simp] theorem State.modReq_pins (f : Req → Req) (s : State) :
    (s.modReq f).pins = s.pins := rfl
@[simp] theorem State.modReq_proven (f : Req → Req) (s : State) :
    (s.modReq f).proven = s.proven := rfl
@[simp] theorem State.modReq_lp1 (f : Req → Req) (s : State) :
    (s.modReq f).lp1 = s.lp1 := rfl
@[simp] theorem State.modReq_lp2 (f : Req → Req) (s : State) :
    (s.modReq f).lp2 = s.lp2 := rfl
@[simp] theorem State.modReq_relay (f : Req → Req) (s : State) :
    (s.modReq f).relay = s.relay := rfl
@[simp] theorem State.modReq_consist (f : Req → Req) (s : State) :
    (s.modReq f).consist = s.consist := rfl
@[simp] theorem State.modReq_sweep (f : Req → Req) (s : State) :
    (s.modReq f).sweep = s.sweep := rfl
@[simp] theorem State.modReq_bus (f : Req → Req) (s : State) :
    (s.modReq f).bus = s.bus := rfl
@[simp] theorem State.modReq_req (f : Req → Req) (s : State) :
    (s.modReq f).req = f s.req := rfl
@[simp] theorem State.modReq_door (f : Req → Req) (s : State) :
    (s.modReq f).door = s.door := rfl
@[simp] theorem State.modReq_heat (f : Req → Req) (s : State) :
    (s.modReq f).heat = s.heat := rfl
@[simp] theorem State.modReq_store (f : Req → Req) (s : State) :
    (s.modReq f).store = s.store := rfl
@[simp] theorem State.modReq_freeCount (f : Req → Req) (s : State) :
    (s.modReq f).freeCount = s.freeCount := rfl
@[simp] theorem State.modReq_pending (f : Req → Req) (s : State) :
    (s.modReq f).pending = s.pending := rfl
@[simp] theorem State.modReq_port (f : Req → Req) (p : PortId) (s : State) :
    (s.modReq f).port p = s.port p := by cases p <;> rfl

/-! ## `State.modDoor` -/

@[simp] theorem State.modDoor_powered (f : Door → Door) (s : State) :
    (s.modDoor f).powered = s.powered := rfl
@[simp] theorem State.modDoor_identity (f : Door → Door) (s : State) :
    (s.modDoor f).identity = s.identity := rfl
@[simp] theorem State.modDoor_pins (f : Door → Door) (s : State) :
    (s.modDoor f).pins = s.pins := rfl
@[simp] theorem State.modDoor_proven (f : Door → Door) (s : State) :
    (s.modDoor f).proven = s.proven := rfl
@[simp] theorem State.modDoor_lp1 (f : Door → Door) (s : State) :
    (s.modDoor f).lp1 = s.lp1 := rfl
@[simp] theorem State.modDoor_lp2 (f : Door → Door) (s : State) :
    (s.modDoor f).lp2 = s.lp2 := rfl
@[simp] theorem State.modDoor_relay (f : Door → Door) (s : State) :
    (s.modDoor f).relay = s.relay := rfl
@[simp] theorem State.modDoor_consist (f : Door → Door) (s : State) :
    (s.modDoor f).consist = s.consist := rfl
@[simp] theorem State.modDoor_sweep (f : Door → Door) (s : State) :
    (s.modDoor f).sweep = s.sweep := rfl
@[simp] theorem State.modDoor_bus (f : Door → Door) (s : State) :
    (s.modDoor f).bus = s.bus := rfl
@[simp] theorem State.modDoor_req (f : Door → Door) (s : State) :
    (s.modDoor f).req = s.req := rfl
@[simp] theorem State.modDoor_door (f : Door → Door) (s : State) :
    (s.modDoor f).door = f s.door := rfl
@[simp] theorem State.modDoor_heat (f : Door → Door) (s : State) :
    (s.modDoor f).heat = s.heat := rfl
@[simp] theorem State.modDoor_store (f : Door → Door) (s : State) :
    (s.modDoor f).store = s.store := rfl
@[simp] theorem State.modDoor_freeCount (f : Door → Door) (s : State) :
    (s.modDoor f).freeCount = s.freeCount := rfl
@[simp] theorem State.modDoor_pending (f : Door → Door) (s : State) :
    (s.modDoor f).pending = s.pending := rfl
@[simp] theorem State.modDoor_port (f : Door → Door) (p : PortId) (s : State) :
    (s.modDoor f).port p = s.port p := by cases p <;> rfl

/-! ## `State.modHeat` -/

@[simp] theorem State.modHeat_powered (f : Heat → Heat) (s : State) :
    (s.modHeat f).powered = s.powered := rfl
@[simp] theorem State.modHeat_identity (f : Heat → Heat) (s : State) :
    (s.modHeat f).identity = s.identity := rfl
@[simp] theorem State.modHeat_pins (f : Heat → Heat) (s : State) :
    (s.modHeat f).pins = s.pins := rfl
@[simp] theorem State.modHeat_proven (f : Heat → Heat) (s : State) :
    (s.modHeat f).proven = s.proven := rfl
@[simp] theorem State.modHeat_lp1 (f : Heat → Heat) (s : State) :
    (s.modHeat f).lp1 = s.lp1 := rfl
@[simp] theorem State.modHeat_lp2 (f : Heat → Heat) (s : State) :
    (s.modHeat f).lp2 = s.lp2 := rfl
@[simp] theorem State.modHeat_relay (f : Heat → Heat) (s : State) :
    (s.modHeat f).relay = s.relay := rfl
@[simp] theorem State.modHeat_consist (f : Heat → Heat) (s : State) :
    (s.modHeat f).consist = s.consist := rfl
@[simp] theorem State.modHeat_sweep (f : Heat → Heat) (s : State) :
    (s.modHeat f).sweep = s.sweep := rfl
@[simp] theorem State.modHeat_bus (f : Heat → Heat) (s : State) :
    (s.modHeat f).bus = s.bus := rfl
@[simp] theorem State.modHeat_req (f : Heat → Heat) (s : State) :
    (s.modHeat f).req = s.req := rfl
@[simp] theorem State.modHeat_door (f : Heat → Heat) (s : State) :
    (s.modHeat f).door = s.door := rfl
@[simp] theorem State.modHeat_heat (f : Heat → Heat) (s : State) :
    (s.modHeat f).heat = f s.heat := rfl
@[simp] theorem State.modHeat_store (f : Heat → Heat) (s : State) :
    (s.modHeat f).store = s.store := rfl
@[simp] theorem State.modHeat_freeCount (f : Heat → Heat) (s : State) :
    (s.modHeat f).freeCount = s.freeCount := rfl
@[simp] theorem State.modHeat_pending (f : Heat → Heat) (s : State) :
    (s.modHeat f).pending = s.pending := rfl
@[simp] theorem State.modHeat_port (f : Heat → Heat) (p : PortId) (s : State) :
    (s.modHeat f).port p = s.port p := by cases p <;> rfl

/-! ## `State.modStore` -/

@[simp] theorem State.modStore_powered (f : Store → Store) (s : State) :
    (s.modStore f).powered = s.powered := rfl
@[simp] theorem State.modStore_identity (f : Store → Store) (s : State) :
    (s.modStore f).identity = s.identity := rfl
@[simp] theorem State.modStore_pins (f : Store → Store) (s : State) :
    (s.modStore f).pins = s.pins := rfl
@[simp] theorem State.modStore_proven (f : Store → Store) (s : State) :
    (s.modStore f).proven = s.proven := rfl
@[simp] theorem State.modStore_lp1 (f : Store → Store) (s : State) :
    (s.modStore f).lp1 = s.lp1 := rfl
@[simp] theorem State.modStore_lp2 (f : Store → Store) (s : State) :
    (s.modStore f).lp2 = s.lp2 := rfl
@[simp] theorem State.modStore_relay (f : Store → Store) (s : State) :
    (s.modStore f).relay = s.relay := rfl
@[simp] theorem State.modStore_consist (f : Store → Store) (s : State) :
    (s.modStore f).consist = s.consist := rfl
@[simp] theorem State.modStore_sweep (f : Store → Store) (s : State) :
    (s.modStore f).sweep = s.sweep := rfl
@[simp] theorem State.modStore_bus (f : Store → Store) (s : State) :
    (s.modStore f).bus = s.bus := rfl
@[simp] theorem State.modStore_req (f : Store → Store) (s : State) :
    (s.modStore f).req = s.req := rfl
@[simp] theorem State.modStore_door (f : Store → Store) (s : State) :
    (s.modStore f).door = s.door := rfl
@[simp] theorem State.modStore_heat (f : Store → Store) (s : State) :
    (s.modStore f).heat = s.heat := rfl
@[simp] theorem State.modStore_store (f : Store → Store) (s : State) :
    (s.modStore f).store = f s.store := rfl
@[simp] theorem State.modStore_freeCount (f : Store → Store) (s : State) :
    (s.modStore f).freeCount = s.freeCount := rfl
@[simp] theorem State.modStore_pending (f : Store → Store) (s : State) :
    (s.modStore f).pending = s.pending := rfl
@[simp] theorem State.modStore_port (f : Store → Store) (p : PortId) (s : State) :
    (s.modStore f).port p = s.port p := by cases p <;> rfl

/-! ## `State.withPins` -/

@[simp] theorem State.withPins_powered (pins : Pins) (s : State) :
    (s.withPins pins).powered = s.powered := rfl
@[simp] theorem State.withPins_identity (pins : Pins) (s : State) :
    (s.withPins pins).identity = s.identity := rfl
@[simp] theorem State.withPins_pins (pins : Pins) (s : State) :
    (s.withPins pins).pins = pins := rfl
@[simp] theorem State.withPins_proven (pins : Pins) (s : State) :
    (s.withPins pins).proven = s.proven := rfl
@[simp] theorem State.withPins_lp1 (pins : Pins) (s : State) :
    (s.withPins pins).lp1 = s.lp1 := rfl
@[simp] theorem State.withPins_lp2 (pins : Pins) (s : State) :
    (s.withPins pins).lp2 = s.lp2 := rfl
@[simp] theorem State.withPins_relay (pins : Pins) (s : State) :
    (s.withPins pins).relay = s.relay := rfl
@[simp] theorem State.withPins_consist (pins : Pins) (s : State) :
    (s.withPins pins).consist = s.consist := rfl
@[simp] theorem State.withPins_sweep (pins : Pins) (s : State) :
    (s.withPins pins).sweep = s.sweep := rfl
@[simp] theorem State.withPins_bus (pins : Pins) (s : State) :
    (s.withPins pins).bus = s.bus := rfl
@[simp] theorem State.withPins_req (pins : Pins) (s : State) :
    (s.withPins pins).req = s.req := rfl
@[simp] theorem State.withPins_door (pins : Pins) (s : State) :
    (s.withPins pins).door = s.door := rfl
@[simp] theorem State.withPins_heat (pins : Pins) (s : State) :
    (s.withPins pins).heat = s.heat := rfl
@[simp] theorem State.withPins_store (pins : Pins) (s : State) :
    (s.withPins pins).store = s.store := rfl
@[simp] theorem State.withPins_freeCount (pins : Pins) (s : State) :
    (s.withPins pins).freeCount = s.freeCount := rfl
@[simp] theorem State.withPins_pending (pins : Pins) (s : State) :
    (s.withPins pins).pending = s.pending := rfl
@[simp] theorem State.withPins_port (pins : Pins) (p : PortId) (s : State) :
    (s.withPins pins).port p = s.port p := by cases p <;> rfl

/-! ## `State.drawFree` -/

@[simp] theorem State.drawFree_powered (s : State) :
    (s.drawFree).powered = s.powered := rfl
@[simp] theorem State.drawFree_identity (s : State) :
    (s.drawFree).identity = s.identity := rfl
@[simp] theorem State.drawFree_pins (s : State) :
    (s.drawFree).pins = s.pins := rfl
@[simp] theorem State.drawFree_proven (s : State) :
    (s.drawFree).proven = s.proven := rfl
@[simp] theorem State.drawFree_lp1 (s : State) :
    (s.drawFree).lp1 = s.lp1 := rfl
@[simp] theorem State.drawFree_lp2 (s : State) :
    (s.drawFree).lp2 = s.lp2 := rfl
@[simp] theorem State.drawFree_relay (s : State) :
    (s.drawFree).relay = s.relay := rfl
@[simp] theorem State.drawFree_consist (s : State) :
    (s.drawFree).consist = s.consist := rfl
@[simp] theorem State.drawFree_sweep (s : State) :
    (s.drawFree).sweep = s.sweep := rfl
@[simp] theorem State.drawFree_bus (s : State) :
    (s.drawFree).bus = s.bus := rfl
@[simp] theorem State.drawFree_req (s : State) :
    (s.drawFree).req = s.req := rfl
@[simp] theorem State.drawFree_door (s : State) :
    (s.drawFree).door = s.door := rfl
@[simp] theorem State.drawFree_heat (s : State) :
    (s.drawFree).heat = s.heat := rfl
@[simp] theorem State.drawFree_store (s : State) :
    (s.drawFree).store = s.store := rfl
@[simp] theorem State.drawFree_freeCount (s : State) :
    (s.drawFree).freeCount = s.freeCount + 1 := rfl
@[simp] theorem State.drawFree_pending (s : State) :
    (s.drawFree).pending = s.pending := rfl
@[simp] theorem State.drawFree_port (p : PortId) (s : State) :
    (s.drawFree).port p = s.port p := by cases p <;> rfl

/-! ## `State.modPort` -/

@[simp] theorem State.modPort_powered (p : PortId) (f : Port → Port) (s : State) :
    (s.modPort p f).powered = s.powered := by cases p <;> rfl
@[simp] theorem State.modPort_identity (p : PortId) (f : Port → Port) (s : State) :
    (s.modPort p f).identity = s.identity := by cases p <;> rfl
@[simp] theorem State.modPort_pins (p : PortId) (f : Port → Port) (s : State) :
    (s.modPort p f).pins = s.pins := by cases p <;> rfl
@[simp] theorem State.modPort_proven (p : PortId) (f : Port → Port) (s : State) :
    (s.modPort p f).proven = s.proven := by cases p <;> rfl
@[simp] theorem State.modPort_relay (p : PortId) (f : Port → Port) (s : State) :
    (s.modPort p f).relay = s.relay := by cases p <;> rfl
@[simp] theorem State.modPort_consist (p : PortId) (f : Port → Port) (s : State) :
    (s.modPort p f).consist = s.consist := by cases p <;> rfl
@[simp] theorem State.modPort_sweep (p : PortId) (f : Port → Port) (s : State) :
    (s.modPort p f).sweep = s.sweep := by cases p <;> rfl
@[simp] theorem State.modPort_bus (p : PortId) (f : Port → Port) (s : State) :
    (s.modPort p f).bus = s.bus := by cases p <;> rfl
@[simp] theorem State.modPort_req (p : PortId) (f : Port → Port) (s : State) :
    (s.modPort p f).req = s.req := by cases p <;> rfl
@[simp] theorem State.modPort_door (p : PortId) (f : Port → Port) (s : State) :
    (s.modPort p f).door = s.door := by cases p <;> rfl
@[simp] theorem State.modPort_heat (p : PortId) (f : Port → Port) (s : State) :
    (s.modPort p f).heat = s.heat := by cases p <;> rfl
@[simp] theorem State.modPort_store (p : PortId) (f : Port → Port) (s : State) :
    (s.modPort p f).store = s.store := by cases p <;> rfl
@[simp] theorem State.modPort_freeCount (p : PortId) (f : Port → Port) (s : State) :
    (s.modPort p f).freeCount = s.freeCount := by cases p <;> rfl
@[simp] theorem State.modPort_pending (p : PortId) (f : Port → Port) (s : State) :
    (s.modPort p f).pending = s.pending := by cases p <;> rfl

@[simp] theorem State.port_lp1 (s : State) : s.port .lp1 = s.lp1 := rfl
@[simp] theorem State.port_lp2 (s : State) : s.port .lp2 = s.lp2 := rfl

@[simp] theorem PortId.other_other (p : PortId) : p.other.other = p := by cases p <;> rfl
@[simp] theorem PortId.other_ne (p : PortId) : p.other ≠ p := by cases p <;> decide
@[simp] theorem PortId.ne_other (p : PortId) : p ≠ p.other := by cases p <;> decide

/-- The port an update names takes it. -/
@[simp] theorem State.modPort_port_self (p : PortId) (f : Port → Port) (s : State) :
    (s.modPort p f).port p = f (s.port p) := by cases p <;> rfl

/-- The other port is left alone. -/
@[simp] theorem State.modPort_port_other (p : PortId) (f : Port → Port) (s : State) :
    (s.modPort p f).port p.other = s.port p.other := by cases p <;> rfl

theorem State.modPort_port_ne {p q : PortId} (h : q ≠ p) (f : Port → Port) (s : State) :
    (s.modPort p f).port q = s.port q := by
  cases p <;> cases q <;> first | rfl | exact absurd rfl h

/-- Two updates of one port are one. -/
@[simp] theorem State.modPort_modPort (p : PortId) (f g : Port → Port) (s : State) :
    (s.modPort p f).modPort p g = s.modPort p (fun q => g (f q)) := by cases p <;> rfl

theorem State.modPort_id (p : PortId) (s : State) : s.modPort p (fun q => q) = s := by cases p <;> rfl

/-! ## The node's place, which only the map and the identity give -/

@[simp] theorem State.modPort_position (p : PortId) (f : Port → Port) (s : State) :
    (s.modPort p f).position = s.position := by cases p <;> rfl
@[simp] theorem State.modPort_n (p : PortId) (f : Port → Port) (s : State) :
    (s.modPort p f).n = s.n := by cases p <;> rfl
@[simp] theorem State.modPort_headPort (p : PortId) (f : Port → Port) (s : State) :
    (s.modPort p f).headPort = s.headPort := by cases p <;> rfl
@[simp] theorem State.modPort_tailPort (p : PortId) (f : Port → Port) (s : State) :
    (s.modPort p f).tailPort = s.tailPort := by cases p <;> rfl
@[simp] theorem State.modPort_isSettled (p : PortId) (f : Port → Port) (s : State) :
    (s.modPort p f).isSettled = s.isSettled := by cases p <;> rfl
@[simp] theorem State.modPort_actsAsHead (p : PortId) (f : Port → Port) (s : State) :
    (s.modPort p f).actsAsHead = s.actsAsHead := by cases p <;> rfl
@[simp] theorem State.modPort_settledIn (p : PortId) (f : Port → Port) (s : State) (g : Byte) :
    (s.modPort p f).settledIn g = s.settledIn g := by cases p <;> rfl

/-! ## `State.armCleared` -/

@[simp] theorem State.armCleared_powered (s : State) : s.armCleared.powered = s.powered := rfl
@[simp] theorem State.armCleared_identity (s : State) : s.armCleared.identity = s.identity := rfl
@[simp] theorem State.armCleared_pins (s : State) : s.armCleared.pins = s.pins := rfl
@[simp] theorem State.armCleared_proven (s : State) : s.armCleared.proven = s.proven := rfl
@[simp] theorem State.armCleared_lp1 (s : State) : s.armCleared.lp1 = s.lp1 := rfl
@[simp] theorem State.armCleared_lp2 (s : State) : s.armCleared.lp2 = s.lp2 := rfl
@[simp] theorem State.armCleared_relay (s : State) : s.armCleared.relay = s.relay := rfl
@[simp] theorem State.armCleared_consist (s : State) : s.armCleared.consist = s.consist := rfl
@[simp] theorem State.armCleared_sweep (s : State) : s.armCleared.sweep = s.sweep := rfl
@[simp] theorem State.armCleared_bus (s : State) : s.armCleared.bus = s.bus := rfl
@[simp] theorem State.armCleared_req (s : State) :
    s.armCleared.req = { s.req with arm := none } := rfl
@[simp] theorem State.armCleared_door (s : State) : s.armCleared.door = s.door := rfl
@[simp] theorem State.armCleared_heat (s : State) : s.armCleared.heat = s.heat := rfl
@[simp] theorem State.armCleared_store (s : State) : s.armCleared.store = s.store := rfl
@[simp] theorem State.armCleared_freeCount (s : State) : s.armCleared.freeCount = s.freeCount := rfl
@[simp] theorem State.armCleared_pending (s : State) : s.armCleared.pending = s.pending := rfl
@[simp] theorem State.armCleared_port (p : PortId) (s : State) :
    s.armCleared.port p = s.port p := by cases p <;> rfl

/-! ## `Port.countGood` (R19, R29): it touches frames received and the error window only -/

theorem Port.countGood_eq (q : Port) :
    q.countGood =
      { q with
        received := satInc q.received
        windowFrames := if 64 ≤ q.windowFrames + 1 then 0 else q.windowFrames + 1
        windowErrors := if 64 ≤ q.windowFrames + 1 then 0 else q.windowErrors } := by
  simp only [Port.countGood]
  split <;> rfl

@[simp] theorem Port.countGood_link (q : Port) : q.countGood.link = q.link := by
  rw [Port.countGood_eq]
@[simp] theorem Port.countGood_signal (q : Port) : q.countGood.signal = q.signal := by
  rw [Port.countGood_eq]
@[simp] theorem Port.countGood_dropInterval (q : Port) : q.countGood.dropInterval = q.dropInterval := by
  rw [Port.countGood_eq]
@[simp] theorem Port.countGood_contactHoldoff (q : Port) : q.countGood.contactHoldoff = q.contactHoldoff := by
  rw [Port.countGood_eq]
@[simp] theorem Port.countGood_settle (q : Port) : q.countGood.settle = q.settle := by
  rw [Port.countGood_eq]
@[simp] theorem Port.countGood_neighbour (q : Port) : q.countGood.neighbour = q.neighbour := by
  rw [Port.countGood_eq]
@[simp] theorem Port.countGood_lastDown (q : Port) : q.countGood.lastDown = q.lastDown := by
  rw [Port.countGood_eq]
@[simp] theorem Port.countGood_silence (q : Port) : q.countGood.silence = q.silence := by
  rw [Port.countGood_eq]
@[simp] theorem Port.countGood_helloTimer (q : Port) : q.countGood.helloTimer = q.helloTimer := by
  rw [Port.countGood_eq]
@[simp] theorem Port.countGood_glitchTimer (q : Port) : q.countGood.glitchTimer = q.glitchTimer := by
  rw [Port.countGood_eq]
@[simp] theorem Port.countGood_offer (q : Port) : q.countGood.offer = q.offer := by
  rw [Port.countGood_eq]
@[simp] theorem Port.countGood_testDue (q : Port) : q.countGood.testDue = q.testDue := by
  rw [Port.countGood_eq]
@[simp] theorem Port.countGood_run (q : Port) : q.countGood.run = q.run := by
  rw [Port.countGood_eq]
@[simp] theorem Port.countGood_result (q : Port) : q.countGood.result = q.result := by
  rw [Port.countGood_eq]
@[simp] theorem Port.countGood_errored (q : Port) : q.countGood.errored = q.errored := by
  rw [Port.countGood_eq]
@[simp] theorem Port.countGood_dropped (q : Port) : q.countGood.dropped = q.dropped := by
  rw [Port.countGood_eq]
@[simp] theorem Port.countGood_dropHoldoff (q : Port) : q.countGood.dropHoldoff = q.dropHoldoff := by
  rw [Port.countGood_eq]
@[simp] theorem Port.countGood_urgent (q : Port) : q.countGood.urgent = q.urgent := by
  rw [Port.countGood_eq]
@[simp] theorem Port.countGood_normal (q : Port) : q.countGood.normal = q.normal := by
  rw [Port.countGood_eq]
@[simp] theorem Port.countGood_transmitter (q : Port) : q.countGood.transmitter = q.transmitter := by
  rw [Port.countGood_eq]
@[simp] theorem Port.countGood_carries (q : Port) : q.countGood.carries = q.carries := by
  simp [Port.carries]

end Sys2Proof.Machine
end

