-- ==== Sys2Proof/Laws/Egress.lean ====
section
/-! SUPPORT. What sending can do: a frame offered, dropped, routed or delivered, a notice raised or forwarded,
an answer sent and the end of a command touch only the egress side of the ports, the Relay Unit, the notices
with their spacing, and the cab outbound queue. Cited instead of unfolding any of them. -/

namespace Sys2Proof.Machine

open Sys2Proof

/-- Nothing but the egress side has changed: the parts `SameCore` names and the link side of both ports
stand. -/
def EgressOnly (s t : State) : Prop :=
  SameCore s t ∧ ∀ p, (t.port p).linkSide = (s.port p).linkSide

theorem SameCore.refl (s : State) : SameCore s s :=
  ⟨rfl, rfl, rfl, rfl, rfl, rfl, rfl, rfl, rfl, rfl, rfl, rfl⟩

theorem SameCore.trans {s t u : State} (h : SameCore s t) (k : SameCore t u) : SameCore s u := by
  obtain ⟨h1, h2, h3, h4, h5, h6, h7, h8, h9, h10, h11, h12⟩ := h
  obtain ⟨k1, k2, k3, k4, k5, k6, k7, k8, k9, k10, k11, k12⟩ := k
  refine ⟨k1.trans h1, k2.trans h2, k3.trans h3, k4.trans h4, k5.trans h5, k6.trans h6,
    k7.trans h7, k8.trans h8, k9.trans h9, k10.trans h10, ?_, ?_⟩
  · rw [← h11, ← k11]
  · rw [← h12, ← k12]

theorem EgressOnly.refl (s : State) : EgressOnly s s := ⟨SameCore.refl s, fun _ => rfl⟩

theorem EgressOnly.trans {s t u : State} (h : EgressOnly s t) (k : EgressOnly t u) : EgressOnly s u :=
  ⟨h.1.trans k.1, fun p => (k.2 p).trans (h.2 p)⟩

/-! ## Updates that stay on the egress side -/

theorem EgressOnly.modPort (p : PortId) (f : Port → Port) (s : State)
    (h : (f (s.port p)).linkSide = (s.port p).linkSide) : EgressOnly s (s.modPort p f) := by
  refine ⟨by cases p <;> exact SameCore.refl _, fun q => ?_⟩
  cases p <;> cases q <;> first | exact h | rfl

theorem EgressOnly.modRelay (f : Relay → Relay) (s : State) : EgressOnly s (s.modRelay f) :=
  ⟨⟨rfl, rfl, rfl, rfl, rfl, rfl, rfl, rfl, rfl, rfl, rfl, rfl⟩, fun p => by simp⟩

theorem EgressOnly.modBus (f : Bus → Bus) (s : State)
    (h : { f s.bus with outbound := s.bus.outbound, cabDrop := s.bus.cabDrop } = s.bus) :
    EgressOnly s (s.modBus f) :=
  ⟨⟨rfl, rfl, rfl, rfl, rfl, rfl, rfl, rfl, rfl, rfl, h, rfl⟩, fun p => by simp⟩

theorem EgressOnly.modReq (f : Req → Req) (s : State)
    (h : { f s.req with
        notices := s.req.notices, overflow := s.req.overflow, spacing := s.req.spacing,
        requestDrop := s.req.requestDrop, resetDue := s.req.resetDue } = s.req) :
    EgressOnly s (s.modReq f) :=
  ⟨⟨rfl, rfl, rfl, rfl, rfl, rfl, rfl, rfl, rfl, rfl, rfl, h⟩, fun p => by simp⟩

theorem EgressOnly.setProven (b : Bool) (s : State) : EgressOnly s { s with proven := b } :=
  ⟨⟨rfl, rfl, rfl, rfl, rfl, rfl, rfl, rfl, rfl, rfl, rfl, rfl⟩, fun p => by cases p <;> rfl⟩

/-! ## Cab frames and notices -/

theorem resetReplyGone_egress (s : State) : EgressOnly s (resetReplyGone s) := EgressOnly.modReq _ _ rfl

theorem cabFrameGone_egress (f : CabFrame) (s : State) : EgressOnly s (cabFrameGone f s) := by
  unfold cabFrameGone
  split
  · exact resetReplyGone_egress s
  · exact EgressOnly.refl s

theorem offerCab_egress (f : CabFrame) (s : State) : EgressOnly s (offerCab f s) := by
  unfold offerCab
  split
  · exact EgressOnly.modBus _ _ rfl
  · exact (EgressOnly.modBus _ s rfl).trans (cabFrameGone_egress f _)

theorem enqueueNotice_egress (n : Notice) (s : State) : EgressOnly s (enqueueNotice n s) := by
  unfold enqueueNotice
  split
  · exact offerCab_egress _ s
  · split <;> exact EgressOnly.modReq _ _ rfl

/-! ## Lanes -/

theorem laneFrameGone_egress (p : PortId) (e : LaneEntry) (s : State) :
    EgressOnly s (laneFrameGone p e s) := by
  unfold laneFrameGone
  split
  · exact EgressOnly.refl s
  · refine EgressOnly.modPort p _ s ?_
    split <;> rfl
  · exact resetReplyGone_egress s

theorem dropFrame_egress (p : PortId) (e : LaneEntry) (s : State) : EgressOnly s (dropFrame p e s) := by
  unfold dropFrame
  refine (EgressOnly.modPort p (fun q => { q with dropped := satInc q.dropped }) s rfl).trans ?_
  refine EgressOnly.trans ?_ (laneFrameGone_egress p e _)
  split
  · exact (EgressOnly.modPort p _ _ rfl).trans (enqueueNotice_egress _ _)
  · exact EgressOnly.refl _

theorem dropFrames_egress (p : PortId) (es : List LaneEntry) (s : State) :
    EgressOnly s (dropFrames p es s) := by
  unfold dropFrames
  induction es generalizing s with
  | nil => exact EgressOnly.refl s
  | cons e rest ih => exact (dropFrame_egress p e s).trans (ih _)

theorem pump_egress (p : PortId) (s : State) : EgressOnly s (pump p s) := by
  unfold pump
  dsimp only
  split
  · split
    · exact EgressOnly.modPort p _ s rfl
    · exact EgressOnly.modPort p _ s rfl
    · exact EgressOnly.refl s
  · exact EgressOnly.refl s

theorem joinUrgent_egress (p : PortId) (e : LaneEntry) (s : State) :
    EgressOnly s (joinUrgent p e s) := by
  unfold joinUrgent
  dsimp only
  split
  · exact EgressOnly.modPort p _ s rfl
  · split
    · exact (EgressOnly.modPort p _ s rfl).trans (dropFrame_egress p _ _)
    · exact dropFrame_egress p e s

theorem joinNormal_egress (p : PortId) (e : LaneEntry) (s : State) :
    EgressOnly s (joinNormal p e s) := by
  unfold joinNormal
  split
  · exact EgressOnly.modPort p _ s rfl
  · exact dropFrame_egress p e s

/-- A frame offered to a port (R13 to R18). -/
theorem offer_egress (p : PortId) (e : LaneEntry) (s : State) : EgressOnly s (offer p e s) := by
  unfold offer
  dsimp only
  split
  · refine EgressOnly.trans ?_ (pump_egress p _)
    split
    · exact joinNormal_egress p e s
    · exact joinUrgent_egress p e s
  · exact (EgressOnly.modRelay _ s).trans (laneFrameGone_egress p e _)

theorem offerIfCarrying_egress (p : PortId) (f : Frame) (s : State) :
    EgressOnly s (offerIfCarrying p f s) := by
  unfold offerIfCarrying
  split
  · exact offer_egress p _ s
  · exact EgressOnly.refl s

theorem broadcast_egress (f : Frame) (s : State) : EgressOnly s (broadcast f s) :=
  (offerIfCarrying_egress .lp1 f s).trans (offerIfCarrying_egress .lp2 f _)

/-! ## Frames by position, answers, notices -/

theorem route_egress (e : LaneEntry) (s : State) : EgressOnly s (route e s) := by
  unfold route
  dsimp only
  split
  · exact offer_egress _ e s
  · split
    · exact offer_egress _ e s
    · exact (EgressOnly.modRelay _ s).trans (laneFrameGone_egress _ e _)

theorem deliverNotice_egress (f : Frame) (s : State) : EgressOnly s (deliverNotice f s) := by
  unfold deliverNotice
  split
  · exact offerCab_egress _ s
  · exact EgressOnly.modReq _ _ rfl

theorem originateNotice_egress (n : Notice) (s : State) : EgressOnly s (originateNotice n s) := by
  unfold originateNotice
  dsimp only
  split
  · exact (EgressOnly.modRelay _ s).trans (laneFrameGone_egress _ _ _)
  · split
    · exact deliverNotice_egress _ s
    · exact route_egress _ s

/-- One look at notice forwarding (R193). -/
theorem forwardNotices_egress (s : State) : EgressOnly s (forwardNotices s) := by
  unfold forwardNotices
  split
  · split
    · exact EgressOnly.refl s
    · exact (EgressOnly.modReq _ s rfl).trans (originateNotice_egress _ _)
  · exact EgressOnly.refl s

/-- A notice raised (R191, R193). -/
theorem raise_egress (kind : NoticeKind) (subject : Byte) (value : Nat) (s : State) :
    EgressOnly s (raise kind subject value s) :=
  (enqueueNotice_egress _ s).trans (forwardNotices_egress _)

/-- The end of a command (R148, R193). -/
theorem finish_egress (s : State) : EgressOnly s (finish s) :=
  (forwardNotices_egress s).trans (EgressOnly.setProven _ _)

theorem finish_sameCore (s : State) : SameCore s (finish s) := (finish_egress s).1

/-- The PROVEN output stands at its source at the end of a command (R148). -/
theorem finish_proven (s : State) : (finish s).proven = provenSource (finish s) := rfl

theorem finish_linkSide (p : PortId) (s : State) :
    ((finish s).port p).linkSide = (s.port p).linkSide := (finish_egress s).2 p

/-! ## The fields themselves, for what the egress side leaves alone -/

theorem EgressOnly.powered {s t : State} (h : EgressOnly s t) : t.powered = s.powered := h.1.1
theorem EgressOnly.identity {s t : State} (h : EgressOnly s t) : t.identity = s.identity := h.1.2.1
theorem EgressOnly.pins {s t : State} (h : EgressOnly s t) : t.pins = s.pins := h.1.2.2.1
theorem EgressOnly.consist {s t : State} (h : EgressOnly s t) : t.consist = s.consist := h.1.2.2.2.1
theorem EgressOnly.sweep {s t : State} (h : EgressOnly s t) : t.sweep = s.sweep := h.1.2.2.2.2.1
theorem EgressOnly.door {s t : State} (h : EgressOnly s t) : t.door = s.door := h.1.2.2.2.2.2.1
theorem EgressOnly.heat {s t : State} (h : EgressOnly s t) : t.heat = s.heat := h.1.2.2.2.2.2.2.1
theorem EgressOnly.store {s t : State} (h : EgressOnly s t) : t.store = s.store :=
  h.1.2.2.2.2.2.2.2.1
theorem EgressOnly.freeCount {s t : State} (h : EgressOnly s t) : t.freeCount = s.freeCount :=
  h.1.2.2.2.2.2.2.2.2.1
theorem EgressOnly.pending {s t : State} (h : EgressOnly s t) : t.pending = s.pending :=
  h.1.2.2.2.2.2.2.2.2.2.1

theorem EgressOnly.bus {s t : State} (h : EgressOnly s t) :
    t.bus = { s.bus with outbound := t.bus.outbound, cabDrop := t.bus.cabDrop } := by
  have hb := h.1.2.2.2.2.2.2.2.2.2.2.1
  rw [← hb]

theorem EgressOnly.req {s t : State} (h : EgressOnly s t) :
    t.req =
      { s.req with
        notices := t.req.notices, overflow := t.req.overflow, spacing := t.req.spacing
        requestDrop := t.req.requestDrop, resetDue := t.req.resetDue } := by
  have hr := h.1.2.2.2.2.2.2.2.2.2.2.2
  rw [← hr]

/-- The link state of a port is on the link side. -/
theorem EgressOnly.link {s t : State} (h : EgressOnly s t) (p : PortId) :
    (t.port p).link = (s.port p).link := by
  have hl := congrArg Port.link (h.2 p)
  exact hl

@[simp] theorem finish_powered (s : State) : (finish s).powered = s.powered := (finish_egress s).powered
@[simp] theorem finish_identity (s : State) : (finish s).identity = s.identity :=
  (finish_egress s).identity
@[simp] theorem finish_pins (s : State) : (finish s).pins = s.pins := (finish_egress s).pins
@[simp] theorem finish_consist (s : State) : (finish s).consist = s.consist := (finish_egress s).consist
@[simp] theorem finish_sweep (s : State) : (finish s).sweep = s.sweep := (finish_egress s).sweep
@[simp] theorem finish_door (s : State) : (finish s).door = s.door := (finish_egress s).door
@[simp] theorem finish_heat (s : State) : (finish s).heat = s.heat := (finish_egress s).heat
@[simp] theorem finish_store (s : State) : (finish s).store = s.store := (finish_egress s).store
@[simp] theorem finish_pending (s : State) : (finish s).pending = s.pending := (finish_egress s).pending

end Sys2Proof.Machine
end

