-- ==== Sys2Proof/Laws/Bus.lean ====
section
/-! SUPPORT. What the bus arbiter and the offers to the class queues can do: they change the Coach Bus
Controller alone, and there only a class queue, the transaction in flight with its reply timer, and the
persist timeout of the poll entry (R82, R83, R85 to R88). -/

namespace Sys2Proof.Machine

open Sys2Proof

/-- Only the Coach Bus Controller has changed. -/
def BusOnly (s t : State) : Prop := t = { s with bus := t.bus }

theorem BusOnly.refl (s : State) : BusOnly s s := rfl

theorem BusOnly.modBus (f : Bus → Bus) (s : State) : BusOnly s (s.modBus f) := rfl

theorem BusOnly.trans {s t u : State} (h : BusOnly s t) (k : BusOnly t u) : BusOnly s u := by
  unfold BusOnly at *
  rw [k, h]

theorem BusOnly.consist {s t : State} (h : BusOnly s t) : t.consist = s.consist := by rw [h]
theorem BusOnly.sweep {s t : State} (h : BusOnly s t) : t.sweep = s.sweep := by rw [h]
theorem BusOnly.door {s t : State} (h : BusOnly s t) : t.door = s.door := by rw [h]
theorem BusOnly.heat {s t : State} (h : BusOnly s t) : t.heat = s.heat := by rw [h]
theorem BusOnly.store {s t : State} (h : BusOnly s t) : t.store = s.store := by rw [h]
theorem BusOnly.req {s t : State} (h : BusOnly s t) : t.req = s.req := by rw [h]
theorem BusOnly.relay {s t : State} (h : BusOnly s t) : t.relay = s.relay := by rw [h]
theorem BusOnly.pins {s t : State} (h : BusOnly s t) : t.pins = s.pins := by rw [h]
theorem BusOnly.port {s t : State} (h : BusOnly s t) (p : PortId) : t.port p = s.port p := by
  rw [h]; cases p <;> rfl

/-- The arbiter gives a busy bus to nobody (R85). -/
theorem arbitrate_busy (s : State) (h : s.bus.flight ≠ none) : arbitrate s = s := by
  simp [arbitrate, h]

/-- The arbiter changes the Coach Bus Controller alone (R85). -/
theorem arbitrate_busOnly (s : State) : BusOnly s (arbitrate s) := by
  unfold arbitrate
  split
  · unfold startNext
    split
    · exact rfl
    · split
      · exact rfl
      · split
        · exact rfl
        · split
          · exact rfl
          · cases nextPoll s with
            | none => exact BusOnly.refl s
            | some x => exact rfl
  · exact BusOnly.refl s

/-- An entry put back behind a walk or before the queue makes it one longer (R83). -/
@[simp] theorem behindWalk_length (e : QueueEntry) (q : List QueueEntry) :
    (behindWalk e q).length = q.length + 1 := by
  cases q with
  | nil => rfl
  | cons x rest => simp only [behindWalk]; split <;> rfl

/-- An entry at the end of its retry wait makes the rest of its queue one longer (R82). -/
@[simp] theorem toFront_length (e : QueueEntry) (q : List QueueEntry) :
    (toFront e q).length = q.length + 1 := by
  cases q with
  | nil => rfl
  | cons x rest => simp only [toFront]; split <;> rfl

/-- The arbiter starts one entry of a queue and takes none out: every queue keeps its length (R85). -/
theorem startFirst_length (held : List (Byte × Byte)) (q q' : List QueueEntry)
    (h : startFirst held q = some q') : q'.length = q.length := by
  induction q generalizing held q' with
  | nil => simp [startFirst] at h
  | cons e rest ih =>
    unfold startFirst at h
    split at h
    · cases h; simp
    · obtain ⟨r, hr, rfl⟩ := Option.map_eq_some_iff.mp h
      rw [behindWalk_length, ih _ _ hr, List.length_cons]

/-- The arbiter keeps the length of every class queue, and everything of the bus but the class queues, the
transaction in flight, its reply timer and the persist timeout of the poll entry (R82, R85). -/
theorem arbitrate_bus (s : State) :
    (arbitrate s).bus.doorQueue.length = s.bus.doorQueue.length
      ∧ (arbitrate s).bus.heatQueue.length = s.bus.heatQueue.length
      ∧ (arbitrate s).bus.remoteQueue.length = s.bus.remoteQueue.length
      ∧ { (arbitrate s).bus with
            doorQueue := s.bus.doorQueue, heatQueue := s.bus.heatQueue
            remoteQueue := s.bus.remoteQueue, flight := s.bus.flight, replyTimer := s.bus.replyTimer
            pollPersist := s.bus.pollPersist } = s.bus := by
  unfold arbitrate
  split
  · unfold startNext
    split
    · rename_i q hq
      exact ⟨startFirst_length _ _ _ hq, rfl, rfl, rfl⟩
    · split
      · rename_i q hq
        exact ⟨rfl, startFirst_length _ _ _ hq, rfl, rfl⟩
      · split
        · exact ⟨rfl, rfl, rfl, rfl⟩
        · split
          · rename_i q hq
            exact ⟨rfl, rfl, startFirst_length _ _ _ hq, rfl⟩
          · cases nextPoll s with
            | none => exact ⟨rfl, rfl, rfl, rfl⟩
            | some x => exact ⟨rfl, rfl, rfl, rfl⟩
  · exact ⟨rfl, rfl, rfl, rfl⟩

/-- The status records are none of the arbiter's (R92). -/
@[simp] theorem arbitrate_records (s : State) : (arbitrate s).bus.records = s.bus.records := by
  have h := congrArg Bus.records (arbitrate_bus s).2.2.2
  exact h

@[simp] theorem arbitrate_outbound (s : State) : (arbitrate s).bus.outbound = s.bus.outbound := by
  have h := congrArg Bus.outbound (arbitrate_bus s).2.2.2
  exact h

/-! ## Offers -/

theorem withoutOldest_length (o : Owner) (q q' : List QueueEntry) (h : withoutOldest o q = some q') :
    q'.length + 1 = q.length := by
  induction q generalizing q' with
  | nil => simp [withoutOldest] at h
  | cons e rest ih =>
    unfold withoutOldest at h
    split at h
    · cases h; simp
    · obtain ⟨r, hr, rfl⟩ := Option.map_eq_some_iff.mp h
      simp [← ih _ hr]

/-- A door write changes the Coach Bus Controller alone; with room in class 1 it joins, and QUEUE-FULL
leaves everything as it was (R86). -/
theorem offerDoorWrite_spec (k : Nat) (station item command : Byte) (s : State) :
    BusOnly s (offerDoorWrite k station item command s).1
      ∧ (s.bus.doorQueue.length < 16 → (offerDoorWrite k station item command s).2 = false
          ∧ (offerDoorWrite k station item command s).1.bus.doorQueue.length =
              s.bus.doorQueue.length + 1)
      ∧ ((offerDoorWrite k station item command s).2 = true →
          (offerDoorWrite k station item command s).1 = s ∧ 16 ≤ s.bus.doorQueue.length) := by
  unfold offerDoorWrite
  dsimp only
  by_cases hq : s.bus.doorQueue.length < Config.doorQueueSize
  · have hq' : s.bus.doorQueue.length < 16 := hq
    simp only [hq, if_true]
    refine ⟨(BusOnly.modBus _ s).trans (arbitrate_busOnly _), fun _ => ⟨trivial, ?_⟩, by simp⟩
    rw [(arbitrate_bus _).1]
    simp
  · have hq' : ¬s.bus.doorQueue.length < 16 := hq
    simp only [hq, if_false]
    cases hw : withoutOldest (.leaf k) s.bus.doorQueue with
    | none => exact ⟨BusOnly.refl s, fun h => absurd h hq', fun _ => ⟨rfl, by omega⟩⟩
    | some rest =>
      exact ⟨(BusOnly.modBus _ s).trans (arbitrate_busOnly _), fun h => absurd h hq', by simp⟩

/-- A new heat write in the place of waiting ones never makes class 2 longer, and leaves the group no other
write that is not in flight (R87, R160). -/
theorem replaceWaiting_spec (o : Owner) (new : QueueEntry) (q q' : List QueueEntry)
    (h : replaceWaiting o new q = some q') :
    q'.length ≤ q.length ∧ ∀ e ∈ q', e.waitsFor o = true → e = new := by
  induction q generalizing q' with
  | nil => cases h
  | cons x rest ih =>
    simp only [replaceWaiting] at h
    split at h
    · cases h
      refine ⟨by simpa using List.length_filter_le _ rest, fun e he hw => ?_⟩
      rcases List.mem_cons.mp he with rfl | he
      · rfl
      · simp [hw] at he
    · rename_i hx
      obtain ⟨r, hr, rfl⟩ := Option.map_eq_some_iff.mp h
      obtain ⟨hlen, hone⟩ := ih _ hr
      refine ⟨by simpa using hlen, fun e he hw => ?_⟩
      rcases List.mem_cons.mp he with rfl | he
      · exact absurd hw hx
      · exact hone e he hw

/-- A heat write changes the Coach Bus Controller alone (R87). -/
theorem offerHeatWrite_busOnly (g : Nat) (station item : Byte) (count : Nat) (s : State) :
    BusOnly s (offerHeatWrite g station item count s) := by
  unfold offerHeatWrite
  exact (BusOnly.modBus _ s).trans (arbitrate_busOnly _)

/-- A remote transaction joins class 4 where it has room (R88). -/
theorem offerRemote_spec (src : ReqSource) (op : BusOp) (mode : BusMode) (s t : State)
    (h : offerRemote src op mode s = some t) :
    BusOnly s t ∧ t.bus.remoteQueue.length = s.bus.remoteQueue.length + 1
      ∧ s.bus.remoteQueue.length < 8 := by
  unfold offerRemote at h
  split at h
  · cases h
    refine ⟨(BusOnly.modBus _ s).trans (arbitrate_busOnly _), ?_, by assumption⟩
    rw [(arbitrate_bus _).2.2.1]
    simp
  · cases h

end Sys2Proof.Machine
end

