-- ==== Sys2Proof/Laws/Commands.lean ====
section
/-! SUPPORT. What a command comes to before its own effect: the node with power, the envelope of a request,
the checks before the consumer of a received frame, the answer to a request, and routing. -/

namespace Sys2Proof.Machine

open Sys2Proof

/-! ## A command of a node with power -/

theorem live_powered (f : State → State) (s : State) (h : s.powered = true) :
    live f s = .next (finish (f s)) := by simp [live, liveState, h]

theorem live_unpowered (f : State → State) (s : State) (h : s.powered = false) :
    live f s = .next s := by simp [live, liveState, h]

@[simp] theorem onlyIf_true (f : State → State) (s : State) : onlyIf true f s = f s := rfl
@[simp] theorem onlyIf_false (f : State → State) (s : State) : onlyIf false f s = s := rfl

/-! ## Requests (R109, R187, R195) -/

/-- An executed request acts on the state with the arm cleared, and is given the arm as it stood. -/
theorem envelope_executable (src : ReqSource) (body : Option Arm → State → State) (s : State)
    (h : Executable src s) : envelope src body s = body s.req.arm s.armCleared := by
  obtain ⟨-, hp, hs⟩ := h
  unfold envelope
  split
  · exact absurd rfl (hs _ _)
  · have hr : s.armCleared.req.resetPending = false := hp
    change (if s.armCleared.req.resetPending = true then _ else _) = _
    rw [hr]
    rfl

theorem handle_executable (src : ReqSource) (body : State → State) (s : State)
    (h : Executable src s) : handle src body s = body s.armCleared :=
  envelope_executable src (fun _ => body) s h

/-- A request row at an executing node: its body on the state with the arm cleared, then the end of the
command. -/
theorem live_handle (src : ReqSource) (body : State → State) (s : State) (h : Executable src s) :
    live (handle src body) s = .next (finish (body s.armCleared)) := by
  rw [live_powered _ s h.1, handle_executable src body s h]

theorem live_envelope (src : ReqSource) (body : Option Arm → State → State) (s : State)
    (h : Executable src s) :
    live (envelope src body) s = .next (finish (body s.req.arm s.armCleared)) := by
  rw [live_powered _ s h.1, envelope_executable src body s h]

/-- While a reset is pending every request with a source is refused with BUSY (R187). -/
theorem handle_resetPending (src : ReqSource) (body : State → State) (s : State)
    (hp : s.req.resetPending = true) (hs : ∀ g t, src ≠ .line 0#8 g t) :
    handle src body s = refuse src .busy s.armCleared := by
  unfold handle envelope
  split
  · exact absurd rfl (hs _ _)
  · change (if s.armCleared.req.resetPending = true then _ else _) = _
    rw [show s.armCleared.req.resetPending = true from hp]
    rfl

/-! ## Received frames (R3, R4, R5) -/

/-- A frame that passes every check is counted at its port and goes to its consumer. -/
theorem receive_accepted (p : PortId) (kind : Byte) (h : Header) (payload : List Byte) (s : State)
    (ha : Accepted p kind h payload s) (h1 : kind ≠ Config.kindHello) (h2 : kind ≠ Config.kindTest) :
    receive p { kind := kind, header := h, payload := payload } s =
      relayAccepted p { kind := kind, header := h, payload := payload } (s.modPort p Port.countGood) := by
  obtain ⟨-, hl, hp, hh, hg⟩ := ha
  simp only [receive, hp, Bool.not_true, Bool.false_eq_true, if_false, hl, upFrame, h1, h2, relayFrame,
    hh, State.modPort_settledIn]
  by_cases hn : needsGeneration kind = true
  · simp [hn, hg hn]
  · simp [hn]

/-- A frame that passes R3 is discarded in DOWN and GLITCH (R3). -/
theorem receive_deaf (p : PortId) (f : Frame) (s : State)
    (hl : (s.port p).link = .down ∨ (s.port p).link = .glitch) : receive p f s = s := by
  unfold receive erroredFrame
  rcases hl with hl | hl <;> simp [hl]

/-! ## Answers (R97, R104, R109, R110) -/

/-- What an answer leaves alone: every unit but the egress side, the Relay Unit and the counters of the
Request Unit. -/
def UnitsKept (s t : State) : Prop :=
  t.powered = s.powered ∧ t.identity = s.identity ∧ t.pins = s.pins ∧ t.consist = s.consist
    ∧ t.sweep = s.sweep ∧ t.door = s.door ∧ t.heat = s.heat ∧ t.store = s.store
    ∧ t.freeCount = s.freeCount ∧ t.pending = s.pending
    ∧ ∀ p, (t.port p).linkSide = (s.port p).linkSide

theorem EgressOnly.unitsKept {s t : State} (h : EgressOnly s t) : UnitsKept s t :=
  ⟨h.powered, h.identity, h.pins, h.consist, h.sweep, h.door, h.heat, h.store, h.freeCount, h.pending,
    h.2⟩

theorem UnitsKept.trans {s t u : State} (h : UnitsKept s t) (k : UnitsKept t u) : UnitsKept s u := by
  obtain ⟨h1, h2, h3, h4, h5, h6, h7, h8, h9, h10, h11⟩ := h
  obtain ⟨k1, k2, k3, k4, k5, k6, k7, k8, k9, k10, k11⟩ := k
  exact ⟨k1.trans h1, k2.trans h2, k3.trans h3, k4.trans h4, k5.trans h5, k6.trans h6, k7.trans h7,
    k8.trans h8, k9.trans h9, k10.trans h10, fun p => (k11 p).trans (h11 p)⟩

theorem modReq_unitsKept (f : Req → Req) (s : State) : UnitsKept s (s.modReq f) :=
  ⟨rfl, rfl, rfl, rfl, rfl, rfl, rfl, rfl, rfl, rfl, fun p => by simp⟩

theorem deliverReply_unitsKept (f : Frame) (mark : Mark) (s : State) :
    UnitsKept s (deliverReply f mark s) := by
  unfold deliverReply
  split
  · split
    · exact (offerCab_egress _ s).unitsKept
    · dsimp only
      split
      · exact (modReq_unitsKept _ s).trans (modReq_unitsKept _ _)
      · exact modReq_unitsKept _ s
  · exact modReq_unitsKept _ s

/-- An answer to a request (R104, R109). -/
theorem answer_unitsKept (src : ReqSource) (st : Status) (payload : List Byte) (mark : Mark)
    (s : State) : UnitsKept s (answer src st payload mark s) := by
  unfold answer
  split
  · exact (offerCab_egress _ s).unitsKept
  · unfold originateReply
    dsimp only
    split
    · exact ((EgressOnly.modRelay _ s).trans (laneFrameGone_egress _ _ _)).unitsKept
    · split
      · exact deliverReply_unitsKept _ _ s
      · exact (route_egress _ s).unitsKept

/-- An answer to the cab station is a reply cab frame (R104). -/
theorem answer_cab (tag : Byte) (st : Status) (payload : List Byte) (mark : Mark) (s : State) :
    answer (.cab tag) st payload mark s =
      offerCab { bytes := [0x02#8, tag, statusCode st, 0#8] ++ payload, mark := mark } s := rfl

/-- A frame that nothing waits for leaves no mark behind. -/
@[simp] theorem laneFrameGone_plain (p : PortId) (e : LaneEntry) (s : State) (h : e.mark = .plain) :
    laneFrameGone p e s = s := by simp [laneFrameGone, h]

/-- A plain frame offered where the port neither carries nor settles with a HELLO is no-route (R13). -/
theorem offer_noRoute (p : PortId) (e : LaneEntry) (s : State) (hc : (s.port p).carries = false)
    (hk : ¬((s.port p).link = .settling ∧ e.frame.kind = Config.kindHello)) (hm : e.mark = .plain) :
    offer p e s = s.modRelay fun r => { r with noRoute := satInc r.noRoute } := by
  simp only [offer, hc, Bool.false_eq_true, false_or, hk, if_false, noRoute]
  exact laneFrameGone_plain p e _ hm

/-- A frame joins an urgent lane with room at its newest end (R13). -/
theorem joinUrgent_room (p : PortId) (e : LaneEntry) (s : State) (h : (s.port p).urgent.length < 8) :
    joinUrgent p e s = s.modPort p fun q => { q with urgent := q.urgent ++ [e] } := by
  simp [joinUrgent, Config.urgentLaneSize, h]

/-- An urgent entry offered to a port joins it (R13, R14). -/
theorem offer_joinsLane (p : PortId) (e : LaneEntry) (s : State) (h : isNormalKind e.frame.kind = false) :
    JoinsLane p e s (offer p e s) := by
  intro hc hl
  simp only [offer, hc, true_or, if_true, h, Bool.false_eq_true, if_false, joinUrgent_room p _ s hl, pump]
  cases p <;> cases hu : (s.port _).urgent <;> simp_all [State.port, State.modPort] <;> split <;> simp_all

/-- An urgent frame handed to a port joins it (R13, R14). -/
theorem offerFrame_joinsUrgent (p : PortId) (f : Frame) (s : State) (h : isNormalKind f.kind = false) :
    JoinsUrgent p f s (offerFrame p f s) := offer_joinsLane p _ s h

/-- What one port shows of an entry taken stands in every state that shows the same there. -/
theorem JoinsLane.congr {p : PortId} {e : LaneEntry} {s s' t t' : State} (h : JoinsLane p e s t)
    (hs : s'.port p = s.port p) (ht : t'.port p = t.port p) : JoinsLane p e s' t' := by
  unfold JoinsLane
  rw [hs, ht]
  exact h

/-- What one port shows of a frame taken stands in every state that shows the same there. -/
theorem JoinsUrgent.congr {p : PortId} {f : Frame} {s s' t t' : State} (h : JoinsUrgent p f s t)
    (hs : s'.port p = s.port p) (ht : t'.port p = t.port p) : JoinsUrgent p f s' t' :=
  JoinsLane.congr h hs ht

end Sys2Proof.Machine
end

