-- ==== Sys2Proof/Laws/Heat.lean ====
section
/-! SUPPORT. What the operations of the Heat Unit can do: a heat write changes one group and the bus, and the
discard of a pending increase the increase and its counter (R151, R160, R163, R166). -/

namespace Sys2Proof.Machine

open Sys2Proof

/-- Only the groups of the Heat Unit and the bus have changed. -/
def GroupsOnly (s t : State) : Prop :=
  t = { s with heat := { s.heat with groups := t.heat.groups }, bus := t.bus }
    ∧ t.heat.groups.length = s.heat.groups.length

theorem GroupsOnly.refl (s : State) : GroupsOnly s s := ⟨rfl, rfl⟩

theorem GroupsOnly.trans {s t u : State} (h : GroupsOnly s t) (k : GroupsOnly t u) : GroupsOnly s u := by
  refine ⟨?_, k.2.trans h.2⟩
  have h1 := h.1
  have k1 := k.1
  rw [k1, h1]

theorem GroupsOnly.consist {s t : State} (h : GroupsOnly s t) : t.consist = s.consist := by rw [h.1]
theorem GroupsOnly.sweep {s t : State} (h : GroupsOnly s t) : t.sweep = s.sweep := by rw [h.1]
theorem GroupsOnly.door {s t : State} (h : GroupsOnly s t) : t.door = s.door := by rw [h.1]
theorem GroupsOnly.store {s t : State} (h : GroupsOnly s t) : t.store = s.store := by rw [h.1]
theorem GroupsOnly.req {s t : State} (h : GroupsOnly s t) : t.req = s.req := by rw [h.1]
theorem GroupsOnly.take {s t : State} (h : GroupsOnly s t) : t.heat.take = s.heat.take := by rw [h.1]
theorem GroupsOnly.increase {s t : State} (h : GroupsOnly s t) :
    t.heat.increase = s.heat.increase := by rw [h.1]

/-- A change of one group is read back at that group alone (R150). -/
theorem State.modGroup_group (g j : Nat) (f : Group → Group) (s : State) :
    (s.modGroup g f).group j = if j = g then (s.group j).map f else s.group j := by
  unfold State.modGroup State.group
  by_cases hg : g = 0
  · by_cases hj : j = 0
    · simp [hg, hj]
    · simp [hg, hj]
  · by_cases hj : j = 0
    · simp [hj]
    · by_cases hjg : j = g
      · subst hjg
        simp [hj]
      · have hne : g - 1 ≠ j - 1 := by omega
        simp [hg, hj, hjg, hne]

theorem State.modGroup_groupsOnly (g : Nat) (f : Group → Group) (s : State) :
    GroupsOnly s (s.modGroup g f) := by
  unfold State.modGroup
  split
  · exact GroupsOnly.refl s
  · exact ⟨rfl, by simp⟩

/-- A heat write of a stage count for a group (R151, R166). -/
theorem offerGroup_groupsOnly (g count : Nat) (s : State) : GroupsOnly s (offerGroup g count s) := by
  unfold offerGroup
  split
  · exact GroupsOnly.refl s
  · rename_i c _
    have hm := State.modGroup_groupsOnly g
      (fun x => { x with commanded := count, settled := false, mismatch := 0 }) s
    have ho := offerHeatWrite_busOnly g c.commandStation c.commandItem count
      (s.modGroup g fun x => { x with commanded := count, settled := false, mismatch := 0 })
    refine hm.trans ⟨?_, ?_⟩
    · rw [ho]
    · rw [ho.heat]

/-- The written group takes the count, unsettled and without mismatches; every other group is left as it was
(R151, R166). -/
theorem offerGroup_group (g count j : Nat) (s : State) (c : GroupConfig) (h : s.groupConfig g = some c) :
    (offerGroup g count s).group j =
      if j = g then
        (s.group j).map fun x => { x with commanded := count, settled := false, mismatch := 0 }
      else s.group j := by
  have hb : (offerGroup g count s).heat =
      (s.modGroup g fun x => { x with commanded := count, settled := false, mismatch := 0 }).heat := by
    unfold offerGroup
    rw [h]
    exact (offerHeatWrite_busOnly _ _ _ _ _).heat
  rw [← State.modGroup_group]
  simp [State.group, hb]

theorem lowerGroup_groupsOnly (g count : Nat) (s : State) : GroupsOnly s (lowerGroup g count s) := by
  unfold lowerGroup
  split
  · exact GroupsOnly.refl s
  · split
    · exact offerGroup_groupsOnly g count s
    · exact GroupsOnly.refl s

/-- Groups lowered one after another (R160). -/
theorem lowerGroups_groupsOnly (fitted : List Nat) (s : State) :
    GroupsOnly s (lowerGroups fitted s) := by
  unfold lowerGroups
  generalize s.groupNumbers.zip fitted = l
  induction l generalizing s with
  | nil => exact GroupsOnly.refl s
  | cons x rest ih => exact (lowerGroup_groupsOnly x.1 x.2 s).trans (ih _)

/-- Every group commanded to 0 (R151, R165, R170). -/
theorem commandAllOff_groupsOnly (s : State) : GroupsOnly s (commandAllOff s) := by
  unfold commandAllOff
  generalize s.groupNumbers = l
  induction l generalizing s with
  | nil => exact GroupsOnly.refl s
  | cons g rest ih => exact (offerGroup_groupsOnly g 0 s).trans (ih _)

/-- A discarded increase is gone, and counted where there was one (R163). -/
theorem discardIncrease_eq (s : State) :
    discardIncrease s =
      { s with
        heat :=
          { s.heat with
            increase := none
            increaseDiscard :=
              if s.heat.increase = none then s.heat.increaseDiscard
              else satInc s.heat.increaseDiscard } } := by
  unfold discardIncrease
  cases h : s.heat.increase with
  | none => simp [← h]
  | some inc => simp [State.modHeat]

/-- A pending increase applied writes groups and is gone (R162). -/
theorem applyIncrease_eq (s : State) :
    ∃ t, GroupsOnly s t ∧ applyIncrease s = { t with heat := { t.heat with increase := none } } := by
  unfold applyIncrease
  split
  · rename_i h
    exact ⟨s, GroupsOnly.refl s, by rw [← h]⟩
  · rename_i inc hinc
    refine ⟨_, ?_, rfl⟩
    generalize s.groupNumbers.zip inc.targets = l
    clear hinc
    induction l generalizing s with
    | nil => exact GroupsOnly.refl s
    | cons x rest ih =>
      refine GroupsOnly.trans ?_ (ih _)
      show GroupsOnly s (match s.group x.1 with
        | none => s
        | some y => if y.commanded < x.2 then offerGroup x.1 x.2 s else s)
      split
      · exact GroupsOnly.refl s
      · split
        · exact offerGroup_groupsOnly _ _ s
        · exact GroupsOnly.refl s

end Sys2Proof.Machine
end

