-- ==== Sys2Proof/Laws/Consist.lean ====
section
/-! SUPPORT. What the operations of the Consist Unit can do to the unit itself: the consist state, the
generation, UNKNOWN, a commit, a CHANGE and leaving a census (R41 to R45, R57, R66, R126, R171). -/

namespace Sys2Proof.Machine

open Sys2Proof

/-! ## The consist state (R66, R147) -/

@[simp] theorem setConsistState_consist (st : ConsistState) (s : State) :
    (setConsistState st s).consist = { s.consist with state := st } := by
  unfold setConsistState
  dsimp only
  split <;> rfl

/-- Beside the consist state a change of it touches the period timer, the outstanding sweep and the train
proof, and only where the node leaves SETTLED. -/
theorem setConsistState_eq (st : ConsistState) (s : State) :
    setConsistState st s =
      if s.consist.state = .settled ∧ st ≠ .settled then
        { s with
          consist := { s.consist with state := st }
          sweep := { s.sweep with periodTimer := none, outstanding := none }
          door := { s.door with trainProof := false } }
      else { s with consist := { s.consist with state := st } } := by
  unfold setConsistState State.isSettled
  by_cases h : s.consist.state = .settled <;> by_cases k : st = .settled <;> simp [h, k] <;> rfl

/-! ## The generation (R11, R74, R171) -/

@[simp] theorem setGeneration_same (s : State) : setGeneration s.consist.generation s = s := by
  simp [setGeneration]

theorem setGeneration_eq (g : Byte) (s : State) (h : g ≠ s.consist.generation) :
    setGeneration g s =
      { s with
        consist := { s.consist with generation := g }
        relay := { s.relay with lastSerial := none }
        sweep := s.sweep.discardLatches
        heat :=
          { s.heat with
            latch := none, increase := none
            increaseDiscard :=
              if s.heat.increase = none then s.heat.increaseDiscard
              else satInc s.heat.increaseDiscard } } := by
  simp only [setGeneration, h, if_false, heatGenerationChanged, discardIncrease_eq]
  rfl

@[simp] theorem setGeneration_consist (g : Byte) (s : State) :
    (setGeneration g s).consist = { s.consist with generation := g } := by
  by_cases h : g = s.consist.generation
  · subst h
    simp
  · rw [setGeneration_eq g s h]

@[simp] theorem setGeneration_door (g : Byte) (s : State) : (setGeneration g s).door = s.door := by
  by_cases h : g = s.consist.generation
  · subst h
    simp
  · rw [setGeneration_eq g s h]

@[simp] theorem setGeneration_store (g : Byte) (s : State) : (setGeneration g s).store = s.store := by
  by_cases h : g = s.consist.generation
  · subst h
    simp
  · rw [setGeneration_eq g s h]

/-! ## UNKNOWN and commit (R44, R45, R57, R58, R126) -/

/-- The node in UNKNOWN holds no map, and its generation is 0 (R44). -/
theorem enterUnknown_consist (s : State) :
    (enterUnknown s).consist =
      { s.consist with state := .unknown, activeMap := [], wait := .stopped, generation := 0#8 } := by
  unfold enterUnknown
  dsimp only
  split <;> simp [startHeadless, State.modDoor, State.modConsist]

/-- A commit makes the map active under its generation, SETTLED, and ends the census and its wait (R57). -/
theorem commit_consist (g : Byte) (m : List ConsistEntry) (s : State) :
    (commit g m s).consist =
      { s.consist with
        state := .settled, activeMap := m, phase := .none, wait := .stopped, generation := g } := by
  unfold commit
  simp [stopHeadless, State.modDoor, State.modConsist]

/-- A commit stops the headless close delay and leaves the leaves alone (R126). -/
theorem commit_door (g : Byte) (m : List ConsistEntry) (s : State) :
    (commit g m s).door = { s.door with headless := .stopped } := by
  unfold commit
  simp [stopHeadless, State.modDoor, State.modConsist, setConsistState_eq]

/-! ## CHANGE (R42, R43) -/

/-- What a CHANGE does at a node, by its consist state (the table of R43). -/
theorem changeEffect_consist (s : State) :
    (changeEffect s).consist =
      match s.consist.state with
      | .settled => { s.consist with state := .stale, wait := .running 4000 }
      | .stale | .pending => { s.consist with wait := .running 4000 }
      | .unknown => s.consist := by
  unfold changeEffect
  split <;> rename_i h <;> simp [h, State.modConsist, Config.censusWaitMs]

/-! ## Leaving a census (R45) -/

theorem leaveCensus_consist (s : State) :
    (leaveCensus s).consist =
      let c := { s.consist with pendingMap := none, holdTimer := none, rollTimer := none }
      match s.consist.state, s.consist.wait with
      | .pending, .running _ => { c with state := .stale }
      | .pending, .stopped => { c with state := .stale, wait := .running 4000 }
      | .pending, .expired =>
        { c with state := .unknown, activeMap := [], wait := .stopped, generation := 0#8 }
      | _, _ => c := by
  unfold leaveCensus
  dsimp only [State.modConsist]
  split <;> simp_all [enterUnknown_consist, Config.censusWaitMs]

/-! ## Claims (R38, R39) -/

/-- The claims as they stand change nothing; a change of them clears the conflict hold. -/
theorem setClaims_consist (c1 c2 : Bool) (s : State) :
    (setClaims c1 c2 s).consist =
      { s.consist with
        claim1 := c1, claim2 := c2
        conflictHold :=
          if s.consist.claim1 = c1 ∧ s.consist.claim2 = c2 then s.consist.conflictHold else false } := by
  unfold setClaims
  split
  · rename_i h
    obtain ⟨rfl, rfl⟩ := h
    simp
  · rename_i h
    simp [State.modConsist]

end Sys2Proof.Machine
end

