-- ==== Sys2Proof/Laws/Doors.lean ====
section
/-! SUPPORT. What entering a leaf state can do (R118, R127, R133, R139): one leaf, the vehicle proof, the leaf
faults, class 1 and the egress side. -/

namespace Sys2Proof.Machine

open Sys2Proof

/-- Only leaf `k`, the vehicle proof, the leaf faults, the bus and the egress side have changed. -/
def LeafOnly (k : Nat) (s t : State) : Prop :=
  t.powered = s.powered ∧ t.identity = s.identity ∧ t.pins = s.pins ∧ t.consist = s.consist
    ∧ t.sweep = s.sweep ∧ t.heat = s.heat ∧ t.store = s.store
    ∧ t.door.leaves.length = s.door.leaves.length ∧ (∀ j, j ≠ k → t.leaf j = s.leaf j)
    ∧ t.door.headless = s.door.headless ∧ t.door.trainProof = s.door.trainProof
    ∧ t.door.releaseSerial = s.door.releaseSerial ∧ t.door.closeSerial = s.door.closeSerial
    ∧ t.door.releasesApplied = s.door.releasesApplied ∧ t.door.releasesVoid = s.door.releasesVoid
    ∧ t.door.closes = s.door.closes

theorem LeafOnly.refl (k : Nat) (s : State) : LeafOnly k s s :=
  ⟨rfl, rfl, rfl, rfl, rfl, rfl, rfl, rfl, fun _ _ => rfl, rfl, rfl, rfl, rfl, rfl, rfl, rfl⟩

theorem LeafOnly.trans {k : Nat} {s t u : State} (h : LeafOnly k s t) (g : LeafOnly k t u) :
    LeafOnly k s u := by
  obtain ⟨h1, h2, h3, h4, h5, h6, h7, h8, h9, h10, h11, h12, h13, h14, h15, h16⟩ := h
  obtain ⟨g1, g2, g3, g4, g5, g6, g7, g8, g9, g10, g11, g12, g13, g14, g15, g16⟩ := g
  exact ⟨g1.trans h1, g2.trans h2, g3.trans h3, g4.trans h4, g5.trans h5, g6.trans h6, g7.trans h7,
    g8.trans h8, fun j hj => (g9 j hj).trans (h9 j hj), g10.trans h10, g11.trans h11, g12.trans h12,
    g13.trans h13, g14.trans h14, g15.trans h15, g16.trans h16⟩

theorem State.leaf_eq_of_door {s t : State} (h : t.door = s.door) (k : Nat) : t.leaf k = s.leaf k := by
  simp [State.leaf, h]

theorem BusOnly.leafOnly {k : Nat} {s t : State} (h : BusOnly s t) : LeafOnly k s t := by
  rw [h]
  exact LeafOnly.refl k s

theorem EgressOnly.leafOnly {k : Nat} {s t : State} (h : EgressOnly s t) : LeafOnly k s t := by
  have hd := h.door
  exact ⟨h.powered, h.identity, h.pins, h.consist, h.sweep, h.heat, h.store, by rw [hd],
    fun j _ => State.leaf_eq_of_door hd j, by rw [hd], by rw [hd], by rw [hd], by rw [hd], by rw [hd],
    by rw [hd], by rw [hd]⟩

/-- A change of leaf `k` is read back at leaf `k` (R115). -/
theorem State.modLeaf_leaf (k : Nat) (f : Leaf → Leaf) (s : State) :
    (s.modLeaf k f).leaf k = (s.leaf k).map f := by
  unfold State.modLeaf State.leaf
  by_cases hk : k = 0
  · simp [hk]
  · simp [hk]

/-- A change of leaf `k` leaves every other leaf and everything else as it was. -/
theorem State.modLeaf_leafOnly (k : Nat) (f : Leaf → Leaf) (s : State) :
    LeafOnly k s (s.modLeaf k f) := by
  unfold State.modLeaf
  split
  · exact LeafOnly.refl k s
  · refine ⟨rfl, rfl, rfl, rfl, rfl, rfl, rfl, by simp, fun j hj => ?_, rfl, rfl, rfl, rfl, rfl, rfl,
      rfl⟩
    unfold State.leaf
    by_cases h0 : j = 0
    · simp [h0]
    · have hne : k - 1 ≠ j - 1 := by omega
      simp [h0, hne]

theorem State.modDoor_leafOnly (k : Nat) (f : Door → Door) (s : State)
    (h : { f s.door with
        vehicleProof := s.door.vehicleProof, leafFaults := s.door.leafFaults } = s.door) :
    LeafOnly k s (s.modDoor f) := by
  have h' : ∀ {α} (g : Door → α), (∀ d v l, g { d with vehicleProof := v, leafFaults := l } = g d) →
      g (f s.door) = g s.door := by
    intro α g hg
    have := congrArg g h
    rwa [hg] at this
  refine ⟨rfl, rfl, rfl, rfl, rfl, rfl, rfl, ?_, fun j _ => ?_, ?_, ?_, ?_, ?_, ?_, ?_, ?_⟩
  · exact congrArg List.length (h' Door.leaves fun _ _ _ => rfl)
  · have hl : (f s.door).leaves = s.door.leaves := h' Door.leaves fun _ _ _ => rfl
    simp [State.leaf, hl]
  · exact h' Door.headless fun _ _ _ => rfl
  · exact h' Door.trainProof fun _ _ _ => rfl
  · exact h' Door.releaseSerial fun _ _ _ => rfl
  · exact h' Door.closeSerial fun _ _ _ => rfl
  · exact h' Door.releasesApplied fun _ _ _ => rfl
  · exact h' Door.releasesVoid fun _ _ _ => rfl
  · exact h' Door.closes fun _ _ _ => rfl

theorem evalVehicleProof_leafOnly (k : Nat) (s : State) : LeafOnly k s (evalVehicleProof s) :=
  State.modDoor_leafOnly k _ s rfl

@[simp] theorem evalVehicleProof_leaf (k : Nat) (s : State) : (evalVehicleProof s).leaf k = s.leaf k :=
  rfl
@[simp] theorem evalVehicleProof_bus (s : State) : (evalVehicleProof s).bus = s.bus := rfl
@[simp] theorem evalVehicleProof_store (s : State) : (evalVehicleProof s).store = s.store := rfl

theorem supersedeLeaf_leafOnly (k : Nat) (s : State) : LeafOnly k s (supersedeLeaf k s) :=
  (BusOnly.modBus _ s).leafOnly

@[simp] theorem supersedeLeaf_leaf (j k : Nat) (s : State) : (supersedeLeaf k s).leaf j = s.leaf j := rfl

@[simp] theorem supersedeLeaf_length (k : Nat) (s : State) :
    (supersedeLeaf k s).bus.doorQueue.length = s.bus.doorQueue.length := by
  simp [supersedeLeaf, supersede]

/-- A leaf enters FAULT (R118, R139). -/
theorem enterFault_leafOnly (k : Nat) (value : Nat) (s : State) :
    LeafOnly k s (enterFault k value s) := by
  unfold enterFault
  exact ((State.modLeaf_leafOnly k _ s).trans (supersedeLeaf_leafOnly k _)).trans
    ((State.modDoor_leafOnly k _ _ rfl).trans
      ((evalVehicleProof_leafOnly k _).trans (raise_egress _ _ _ _).leafOnly))

theorem enterFault_leaf (k : Nat) (value : Nat) (s : State) :
    (enterFault k value s).leaf k =
      (s.leaf k).map fun l => { l with state := .fault, timer := none } := by
  unfold enterFault
  rw [State.leaf_eq_of_door (raise_egress _ _ _ _).door]
  exact State.modLeaf_leaf k _ s

/-- A leaf enters a state: only that leaf, its command, and what follows from it (R118, R133). -/
theorem enterLeaf_leafOnly (k : Nat) (st : LeafState) (s : State) :
    LeafOnly k s (enterLeaf k st s) := by
  unfold enterLeaf
  dsimp only
  have entry := (State.modLeaf_leafOnly k
    (Leaf.entered s.store.content (enteredState s.store.content st)) s).trans
    ((supersedeLeaf_leafOnly k _).trans (evalVehicleProof_leafOnly k _))
  refine entry.trans ?_
  split
  · split
    · exact (offerDoorWrite_spec _ _ _ _ _).1.leafOnly.trans (enterFault_leafOnly k _ _)
    · exact (offerDoorWrite_spec _ _ _ _ _).1.leafOnly
  · exact LeafOnly.refl k _

/-- A leaf that enters a state holds what the entry gives it, or is in FAULT where class 1 was full
(R118, R127, R133). -/
theorem enterLeaf_leaf (k : Nat) (st : LeafState) (s : State) :
    (enterLeaf k st s).leaf k =
        (s.leaf k).map (Leaf.entered s.store.content (enteredState s.store.content st))
      ∨ (16 ≤ s.bus.doorQueue.length
          ∧ ((enterLeaf k st s).leaf k).map Leaf.state = (s.leaf k).map fun _ => LeafState.fault) := by
  unfold enterLeaf
  dsimp only
  split
  · rename_i command f _ _
    split
    · rename_i hfull
      right
      have hspec := (offerDoorWrite_spec k f.station f.commandItem command
        (evalVehicleProof (supersedeLeaf k (s.modLeaf k
          (Leaf.entered s.store.content (enteredState s.store.content st)))))).2.2 hfull
      refine ⟨?_, ?_⟩
      · have h := hspec.2
        rw [evalVehicleProof_bus, supersedeLeaf_length] at h
        have hb : (s.modLeaf k
            (Leaf.entered s.store.content (enteredState s.store.content st))).bus = s.bus := by
          unfold State.modLeaf; split <;> rfl
        rwa [hb] at h
      · rw [enterFault_leaf, hspec.1, evalVehicleProof_leaf, supersedeLeaf_leaf, State.modLeaf_leaf]
        cases s.leaf k <;> rfl
    · left
      rw [State.leaf_eq_of_door (offerDoorWrite_spec _ _ _ _ _).1.door, evalVehicleProof_leaf,
        supersedeLeaf_leaf, State.modLeaf_leaf]
  · left
    rw [evalVehicleProof_leaf, supersedeLeaf_leaf, State.modLeaf_leaf]

end Sys2Proof.Machine
end

