-- ==== Sys2Proof/Laws/Links.lean ====
section
/-! SUPPORT. What the operations of a line port can do to the port: a frame lost, both lanes emptied, DOWN
entered, and the claim status by the link states (R17, R18, R22, R30, R40). -/

namespace Sys2Proof.Machine

open Sys2Proof

/-! ## Lost frames at a port (R17, R18) -/

/-- The ports after a cab frame was offered or a notice raised by a block: as they were. -/
theorem offerCab_port (f : CabFrame) (p : PortId) (s : State) : (offerCab f s).port p = s.port p := by
  unfold offerCab cabFrameGone resetReplyGone
  split
  · simp
  · split <;> simp

theorem enqueueNotice_port (n : Notice) (p : PortId) (s : State) :
    (enqueueNotice n s).port p = s.port p := by
  unfold enqueueNotice
  split
  · exact offerCab_port _ p s
  · split <;> simp

/-- A lost frame leaves the lanes and the transmitter of its port as they are, and the other port alone. -/
theorem dropFrame_lanes (p : PortId) (e : LaneEntry) (s : State) :
    ((dropFrame p e s).port p).urgent = (s.port p).urgent
      ∧ ((dropFrame p e s).port p).normal = (s.port p).normal
      ∧ ((dropFrame p e s).port p).transmitter = (s.port p).transmitter
      ∧ (dropFrame p e s).port p.other = s.port p.other := by
  have hgone : ∀ t : State,
      ((laneFrameGone p e t).port p).urgent = (t.port p).urgent
        ∧ ((laneFrameGone p e t).port p).normal = (t.port p).normal
        ∧ ((laneFrameGone p e t).port p).transmitter = (t.port p).transmitter
        ∧ (laneFrameGone p e t).port p.other = t.port p.other := by
    intro t
    unfold laneFrameGone resetReplyGone
    split
    · exact ⟨rfl, rfl, rfl, rfl⟩
    · refine ⟨?_, ?_, ?_, by simp⟩ <;> (rw [State.modPort_port_self]; split <;> rfl)
    · refine ⟨?_, ?_, ?_, ?_⟩ <;> simp
  unfold dropFrame
  dsimp only
  obtain ⟨h1, h2, h3, h4⟩ := hgone _
  refine ⟨h1.trans ?_, h2.trans ?_, h3.trans ?_, h4.trans ?_⟩ <;> split <;>
    simp [enqueueNotice_port]

/-- Every frame lost leaves the lanes and the transmitter as they are, and the other port alone. -/
theorem dropFrames_lanes (p : PortId) (es : List LaneEntry) (s : State) :
    ((dropFrames p es s).port p).urgent = (s.port p).urgent
      ∧ ((dropFrames p es s).port p).normal = (s.port p).normal
      ∧ ((dropFrames p es s).port p).transmitter = (s.port p).transmitter
      ∧ (dropFrames p es s).port p.other = s.port p.other := by
  unfold dropFrames
  induction es generalizing s with
  | nil => exact ⟨rfl, rfl, rfl, rfl⟩
  | cons e rest ih =>
    obtain ⟨h1, h2, h3, h4⟩ := ih (dropFrame p e s)
    obtain ⟨g1, g2, g3, g4⟩ := dropFrame_lanes p e s
    exact ⟨h1.trans g1, h2.trans g2, h3.trans g3, h4.trans g4⟩

/-- Both lanes and the transmitter of a port are empty once its egress side is lost, and its link side
stands (R17). -/
theorem loseEgress_port (p : PortId) (s : State) :
    ((loseEgress p s).port p).urgent = [] ∧ ((loseEgress p s).port p).normal = []
      ∧ ((loseEgress p s).port p).transmitter = none
      ∧ (loseEgress p s).port p.other = s.port p.other
      ∧ ((loseEgress p s).port p).linkSide = (s.port p).linkSide := by
  unfold loseEgress
  dsimp only
  obtain ⟨h1, h2, h3, h4⟩ := dropFrames_lanes p
    ((s.port p).urgent ++ (s.port p).normal ++ (s.port p).transmitter.toList)
    (s.modPort p fun q => { q with urgent := [], normal := [], transmitter := none })
  refine ⟨h1.trans ?_, h2.trans ?_, h3.trans ?_, h4.trans (by simp), ?_⟩
  · simp
  · simp
  · simp
  · rw [(dropFrames_egress p _ _).2 p, State.modPort_port_self]
    rfl

/-- Losing the egress side of a port is a matter of the egress side (R17). -/
theorem loseEgress_egress (p : PortId) (s : State) : EgressOnly s (loseEgress p s) := by
  unfold loseEgress
  exact (EgressOnly.modPort p _ s rfl).trans (dropFrames_egress p _ _)

/-! ## DOWN (R22) -/

/-- What a port that has entered DOWN holds: no neighbour, no timer of supervision, no frame, and the drop
interval (R17, R22). -/
theorem enterDown_port (p : PortId) (holdoff : Bool) (s : State) :
    let q := (enterDown p holdoff s).port p
    q.link = .down ∧ q.neighbour = none ∧ q.silence = none ∧ q.helloTimer = none
      ∧ q.glitchTimer = none ∧ q.run = none ∧ q.offer = .none ∧ q.lastDown = (s.port p).lastDown
      ∧ q.dropInterval = some (if holdoff then 5000 else 200)
      ∧ q.contactHoldoff = (if holdoff then some 5000 else (s.port p).contactHoldoff)
      ∧ q.urgent = [] ∧ q.normal = [] ∧ q.transmitter = none
      ∧ (enterDown p holdoff s).port p.other = s.port p.other := by
  unfold enterDown
  obtain ⟨h1, h2, h3, h4, h5⟩ := loseEgress_port p (s.modPort p (Port.fallen holdoff))
  have hf : ((s.modPort p (Port.fallen holdoff)).port p) = (s.port p).fallen holdoff := by simp
  rw [hf] at h5
  have side : ∀ {α} (g : Port → α), (∀ q : Port, g q.linkSide = g q) →
      g ((loseEgress p (s.modPort p (Port.fallen holdoff))).port p) =
        g ((s.port p).fallen holdoff) := by
    intro α g hg
    have h := congrArg g h5
    rwa [hg, hg] at h
  have endOffer : ∀ q : Port, q.endOffer.offer = .none ∧ q.endOffer.lastDown = q.lastDown := by
    intro q
    unfold Port.endOffer
    split <;> exact ⟨rfl, rfl⟩
  refine ⟨side Port.link fun _ => rfl, side Port.neighbour fun _ => rfl, side Port.silence fun _ => rfl,
    side Port.helloTimer fun _ => rfl, side Port.glitchTimer fun _ => rfl, side Port.run fun _ => rfl,
    (side Port.offer fun _ => rfl).trans (endOffer _).1,
    (side Port.lastDown fun _ => rfl).trans (endOffer _).2, side Port.dropInterval fun _ => rfl,
    side Port.contactHoldoff fun _ => rfl, h1, h2, h3, h4.trans (by simp)⟩

/-! ## The claim status (R40) -/

/-- The claim status depends on the claims and the link states alone. -/
theorem claimStatusNow_congr (s t : State) (h1 : t.consist.claim1 = s.consist.claim1)
    (h2 : t.consist.claim2 = s.consist.claim2) (h3 : t.lp1.link = s.lp1.link)
    (h4 : t.lp2.link = s.lp2.link) : claimStatusNow t = claimStatusNow s := by
  simp only [claimStatusNow, h1, h2, h3, h4]

/-- A claim status that stands leaves everything as it is (R40). -/
theorem evalClaims_same (s : State) (h : claimStatusNow s = s.consist.status) : evalClaims s = s := by
  simp [evalClaims, h]

/-! ## The line signal (R22) -/

/-- A node sends the line signal at a port exactly while it has power and neither the drop interval nor the
contact holdoff of the port runs. -/
theorem State.sendsSignal_iff (p : PortId) (s : State) :
    s.sendsSignal p = true ↔
      s.powered = true ∧ (s.port p).dropInterval = none ∧ (s.port p).contactHoldoff = none := by
  simp [State.sendsSignal, and_assoc]

/-- A port that enters DOWN withholds its signal. -/
theorem Port.fallen_withholds (holdoff : Bool) (q : Port) : (q.fallen holdoff).dropInterval ≠ none := by
  simp [Port.fallen]

end Sys2Proof.Machine
end

