-- ==== Sys2Proof/Laws/PerInstr.lean ====
section
/-! SUPPORT. The family `Framed`: a received-frame command with well-formed operands is the command its own
frame stands for, so that no row of a received frame is out of reach of the line (section 12.2). The other
commands carry no frame. -/

namespace Sys2Proof.Laws.Framed

open Sys2Proof Sys2Proof.Machine

/-- The port and frame a received-frame command carries. -/
def carried : Instr → Option (PortId × Frame)
  | .hello p h payload => some (p, { kind := Config.kindHello, header := h, payload := payload })
  | .testOffer p h payload => some (p, { kind := Config.kindHello, header := h, payload := payload })
  | .testAccept p h payload => some (p, { kind := Config.kindHello, header := h, payload := payload })
  | .testRefused p h payload => some (p, { kind := Config.kindHello, header := h, payload := payload })
  | .test p h payload => some (p, { kind := Config.kindTest, header := h, payload := payload })
  | .change p h payload => some (p, { kind := Config.kindChange, header := h, payload := payload })
  | .count p h payload => some (p, { kind := Config.kindCount, header := h, payload := payload })
  | .roll p h payload => some (p, { kind := Config.kindRoll, header := h, payload := payload })
  | .confirm p h payload => some (p, { kind := Config.kindConfirm, header := h, payload := payload })
  | .sweepOut p h payload => some (p, { kind := Config.kindSweepOut, header := h, payload := payload })
  | .sweepBack p h payload => some (p, { kind := Config.kindSweepBack, header := h, payload := payload })
  | .doorReleaseFrame p h payload => some (p, { kind := Config.kindDoorRelease, header := h, payload := payload })
  | .doorCloseFrame p h payload => some (p, { kind := Config.kindDoorClose, header := h, payload := payload })
  | .request p h payload => some (p, { kind := Config.kindRequest, header := h, payload := payload })
  | .reply p h payload => some (p, { kind := Config.kindReply, header := h, payload := payload })
  | .notice p h payload => some (p, { kind := Config.kindNotice, header := h, payload := payload })
  | .frameUnknownKind p kind h payload => some (p, { kind := kind, header := h, payload := payload })
  | .powerOn _ => none
  | .powerFail => none
  | .nodeReset => none
  | .standstillFall => none
  | .supplyFall => none
  | .lockGained _ => none
  | .lockLost _ => none
  | .dropIntervalEnd _ => none
  | .contactHoldoffEnd _ => none
  | .settleTimeReached _ => none
  | .helloTimer _ => none
  | .silenceTimeout _ => none
  | .glitchToleranceExpiry _ => none
  | .offerTimeout _ => none
  | .testEntry _ => none
  | .testFrameSent _ => none
  | .testQuietTimeout _ => none
  | .queueDropHoldoffEnd _ => none
  | .transmitEnd _ => none
  | .frameErrored _ => none
  | .changeIdExpiry _ => none
  | .changeRepeat _ => none
  | .rollTimeout => none
  | .censusHoldTimeout => none
  | .censusWaitExpiry => none
  | .retryTimeout => none
  | .periodTimerRunout => none
  | .freshnessExpiry => none
  | .noticeSpacingEnd => none
  | .hostRequest _ => none
  | .hostFrameDiscard _ => none
  | .requestUnknownKind _ _ _ => none
  | .identify _ => none
  | .readStatus _ => none
  | .readMap _ _ => none
  | .readCounters _ => none
  | .clearCounters _ => none
  | .readNotices _ => none
  | .setNoticeForwarding _ _ => none
  | .resetArm _ => none
  | .resetNode _ _ => none
  | .portRestart _ _ => none
  | .linkTest _ _ _ => none
  | .linkResult _ _ => none
  | .leadSet _ _ => none
  | .leadClear _ _ => none
  | .censusStart _ => none
  | .setTrainState _ _ _ => none
  | .aliasWrite _ _ _ _ => none
  | .aliasClear _ _ => none
  | .aliasRead _ _ => none
  | .remoteStationRead _ _ _ _ _ => none
  | .remoteStationWrite _ _ _ _ _ _ => none
  | .remoteStationWalk _ _ _ => none
  | .remoteStationRoster _ => none
  | .doorRelease _ _ _ _ _ => none
  | .doorClose _ _ => none
  | .doorIsolate _ _ => none
  | .doorRestore _ _ => none
  | .setAllowance _ _ _ => none
  | .groupReset _ _ => none
  | .recordEdit _ _ _ => none
  | .recordEditReset _ => none
  | .recordRead _ _ _ _ => none
  | .recordStore _ => none
  | .setProtection _ _ => none
  | .recordWriteEnd _ => none
  | .settingWriteEnd => none
  | .recordLive => none
  | .busAnswer _ _ _ _ => none
  | .busReplyTimeout => none
  | .retryWaitEnd _ _ => none
  | .persistTimeout _ _ => none
  | .roundTimerRunout => none
  | .roundOverrunHoldoffEnd => none
  | .warningTimeEnd _ => none
  | .closeConfirmTimeout _ => none
  | .reopenDwellEnd _ => none
  | .headlessCloseDelayExpiry => none
  | .increaseWaitExpiry => none
  | .staggerDelayEnd => none
  | .heatHoldExpiry => none

/-- A frame a command carries stands for that command. -/
def Statement (i : Instr) : Prop :=
  ∀ p f, carried i = some (p, f) → i.wellFormed = true → frameCommand p f = i

/-- The variant byte of a HELLO names its row. -/
theorem hello_row (p : PortId) (h : Header) (payload : List Byte) (row : Nat)
    (w : helloWellFormed row h payload = true) :
    frameCommand p { kind := Config.kindHello, header := h, payload := payload } =
      (match row with
        | 1 => .testOffer p h payload
        | 2 => .testAccept p h payload
        | 3 => .testRefused p h payload
        | _ => .hello p h payload) := by
  have hr : (if (payload.getD 8 0#8).toNat = 1 ∨ (payload.getD 8 0#8).toNat = 2
      ∨ (payload.getD 8 0#8).toNat = 3 then (payload.getD 8 0#8).toNat else 0) = row := by
    have w' := w
    simp only [helloWellFormed, Bool.and_eq_true, decide_eq_true_eq] at w'
    exact w'.2
  change helloCommand p h payload = _
  unfold helloCommand
  generalize (payload.getD 8 0#8).toNat = v at hr
  match v, hr with
  | 0, hr => subst hr; rfl
  | 1, hr => subst hr; rfl
  | 2, hr => subst hr; rfl
  | 3, hr => subst hr; rfl
  | n + 4, hr =>
    have h0 : row = 0 := by rw [← hr, if_neg (by omega)]
    subst h0
    rfl

theorem powerOn (pins : Pins) : Statement (.powerOn pins) :=
  fun _ _ h => by cases h
theorem powerFail : Statement .powerFail :=
  fun _ _ h => by cases h
theorem nodeReset : Statement .nodeReset :=
  fun _ _ h => by cases h
theorem standstillFall : Statement .standstillFall :=
  fun _ _ h => by cases h
theorem supplyFall : Statement .supplyFall :=
  fun _ _ h => by cases h
theorem lockGained (port : PortId) : Statement (.lockGained port) :=
  fun _ _ h => by cases h
theorem lockLost (port : PortId) : Statement (.lockLost port) :=
  fun _ _ h => by cases h
theorem dropIntervalEnd (port : PortId) : Statement (.dropIntervalEnd port) :=
  fun _ _ h => by cases h
theorem contactHoldoffEnd (port : PortId) : Statement (.contactHoldoffEnd port) :=
  fun _ _ h => by cases h
theorem settleTimeReached (port : PortId) : Statement (.settleTimeReached port) :=
  fun _ _ h => by cases h
theorem helloTimer (port : PortId) : Statement (.helloTimer port) :=
  fun _ _ h => by cases h
theorem silenceTimeout (port : PortId) : Statement (.silenceTimeout port) :=
  fun _ _ h => by cases h
theorem glitchToleranceExpiry (port : PortId) : Statement (.glitchToleranceExpiry port) :=
  fun _ _ h => by cases h
theorem offerTimeout (port : PortId) : Statement (.offerTimeout port) :=
  fun _ _ h => by cases h
theorem testEntry (port : PortId) : Statement (.testEntry port) :=
  fun _ _ h => by cases h
theorem testFrameSent (port : PortId) : Statement (.testFrameSent port) :=
  fun _ _ h => by cases h
theorem testQuietTimeout (port : PortId) : Statement (.testQuietTimeout port) :=
  fun _ _ h => by cases h
theorem queueDropHoldoffEnd (port : PortId) : Statement (.queueDropHoldoffEnd port) :=
  fun _ _ h => by cases h
theorem transmitEnd (port : PortId) : Statement (.transmitEnd port) :=
  fun _ _ h => by cases h
theorem frameErrored (port : PortId) : Statement (.frameErrored port) :=
  fun _ _ h => by cases h
theorem frameUnknownKind (port : PortId) (kind : Byte) (header : Header) (payload : List Byte) :
    Statement (.frameUnknownKind port kind header payload) := by
  intro p f h w
  cases h
  simp only [Instr.wellFormed, Bool.and_eq_true, decide_eq_true_eq] at w
  unfold frameCommand
  dsimp only
  split <;> first | rfl | (exfalso; omega)
theorem hello (port : PortId) (header : Header) (payload : List Byte) :
    Statement (.hello port header payload) := by
  intro p f h w
  cases h
  exact hello_row _ _ _ 0 w
theorem testOffer (port : PortId) (header : Header) (payload : List Byte) :
    Statement (.testOffer port header payload) := by
  intro p f h w
  cases h
  exact hello_row _ _ _ 1 w
theorem testAccept (port : PortId) (header : Header) (payload : List Byte) :
    Statement (.testAccept port header payload) := by
  intro p f h w
  cases h
  exact hello_row _ _ _ 2 w
theorem testRefused (port : PortId) (header : Header) (payload : List Byte) :
    Statement (.testRefused port header payload) := by
  intro p f h w
  cases h
  exact hello_row _ _ _ 3 w
theorem test (port : PortId) (header : Header) (payload : List Byte) :
    Statement (.test port header payload) := by
  intro p f h _
  cases h
  rfl
theorem change (port : PortId) (header : Header) (payload : List Byte) :
    Statement (.change port header payload) := by
  intro p f h _
  cases h
  rfl
theorem changeIdExpiry (id : ChangeId) : Statement (.changeIdExpiry id) :=
  fun _ _ h => by cases h
theorem changeRepeat (counter : Byte) : Statement (.changeRepeat counter) :=
  fun _ _ h => by cases h
theorem count (port : PortId) (header : Header) (payload : List Byte) :
    Statement (.count port header payload) := by
  intro p f h _
  cases h
  rfl
theorem roll (port : PortId) (header : Header) (payload : List Byte) :
    Statement (.roll port header payload) := by
  intro p f h _
  cases h
  rfl
theorem confirm (port : PortId) (header : Header) (payload : List Byte) :
    Statement (.confirm port header payload) := by
  intro p f h _
  cases h
  rfl
theorem rollTimeout : Statement .rollTimeout :=
  fun _ _ h => by cases h
theorem censusHoldTimeout : Statement .censusHoldTimeout :=
  fun _ _ h => by cases h
theorem censusWaitExpiry : Statement .censusWaitExpiry :=
  fun _ _ h => by cases h
theorem retryTimeout : Statement .retryTimeout :=
  fun _ _ h => by cases h
theorem periodTimerRunout : Statement .periodTimerRunout :=
  fun _ _ h => by cases h
theorem sweepOut (port : PortId) (header : Header) (payload : List Byte) :
    Statement (.sweepOut port header payload) := by
  intro p f h _
  cases h
  rfl
theorem sweepBack (port : PortId) (header : Header) (payload : List Byte) :
    Statement (.sweepBack port header payload) := by
  intro p f h _
  cases h
  rfl
theorem freshnessExpiry : Statement .freshnessExpiry :=
  fun _ _ h => by cases h
theorem doorReleaseFrame (port : PortId) (header : Header) (payload : List Byte) :
    Statement (.doorReleaseFrame port header payload) := by
  intro p f h _
  cases h
  rfl
theorem doorCloseFrame (port : PortId) (header : Header) (payload : List Byte) :
    Statement (.doorCloseFrame port header payload) := by
  intro p f h _
  cases h
  rfl
theorem request (port : PortId) (header : Header) (payload : List Byte) :
    Statement (.request port header payload) := by
  intro p f h _
  cases h
  rfl
theorem reply (port : PortId) (header : Header) (payload : List Byte) :
    Statement (.reply port header payload) := by
  intro p f h _
  cases h
  rfl
theorem notice (port : PortId) (header : Header) (payload : List Byte) :
    Statement (.notice port header payload) := by
  intro p f h _
  cases h
  rfl
theorem noticeSpacingEnd : Statement .noticeSpacingEnd :=
  fun _ _ h => by cases h
theorem hostRequest (frame : List Byte) : Statement (.hostRequest frame) :=
  fun _ _ h => by cases h
theorem hostFrameDiscard (frame : List Byte) : Statement (.hostFrameDiscard frame) :=
  fun _ _ h => by cases h
theorem requestUnknownKind (source : ReqSource) (kind : Byte) (fields : List Byte) : Statement (.requestUnknownKind source kind fields) :=
  fun _ _ h => by cases h
theorem identify (source : ReqSource) : Statement (.identify source) :=
  fun _ _ h => by cases h
theorem readStatus (source : ReqSource) : Statement (.readStatus source) :=
  fun _ _ h => by cases h
theorem readMap (source : ReqSource) (page : Byte) : Statement (.readMap source page) :=
  fun _ _ h => by cases h
theorem readCounters (source : ReqSource) : Statement (.readCounters source) :=
  fun _ _ h => by cases h
theorem clearCounters (source : ReqSource) : Statement (.clearCounters source) :=
  fun _ _ h => by cases h
theorem readNotices (source : ReqSource) : Statement (.readNotices source) :=
  fun _ _ h => by cases h
theorem setNoticeForwarding (source : ReqSource) (setting : Byte) : Statement (.setNoticeForwarding source setting) :=
  fun _ _ h => by cases h
theorem resetArm (source : ReqSource) : Statement (.resetArm source) :=
  fun _ _ h => by cases h
theorem resetNode (source : ReqSource) (armTag : Byte) : Statement (.resetNode source armTag) :=
  fun _ _ h => by cases h
theorem portRestart (source : ReqSource) (number : Byte) : Statement (.portRestart source number) :=
  fun _ _ h => by cases h
theorem linkTest (source : ReqSource) (number : Byte) (frames : Word16) : Statement (.linkTest source number frames) :=
  fun _ _ h => by cases h
theorem linkResult (source : ReqSource) (number : Byte) : Statement (.linkResult source number) :=
  fun _ _ h => by cases h
theorem leadSet (source : ReqSource) (cabEnd : Byte) : Statement (.leadSet source cabEnd) :=
  fun _ _ h => by cases h
theorem leadClear (source : ReqSource) (cabEnd : Byte) : Statement (.leadClear source cabEnd) :=
  fun _ _ h => by cases h
theorem censusStart (source : ReqSource) : Statement (.censusStart source) :=
  fun _ _ h => by cases h
theorem setTrainState (source : ReqSource) (bits : TrainBits) (period : Option Word16) : Statement (.setTrainState source bits period) :=
  fun _ _ h => by cases h
theorem aliasWrite (source : ReqSource) (number : Byte) (vehicle : VehicleRef) (station : Byte) : Statement (.aliasWrite source number vehicle station) :=
  fun _ _ h => by cases h
theorem aliasClear (source : ReqSource) (number : Byte) : Statement (.aliasClear source number) :=
  fun _ _ h => by cases h
theorem aliasRead (source : ReqSource) (number : Byte) : Statement (.aliasRead source number) :=
  fun _ _ h => by cases h
theorem remoteStationRead (source : ReqSource) (mode station item : Byte) (timeout : Word16) : Statement (.remoteStationRead source mode station item timeout) :=
  fun _ _ h => by cases h
theorem remoteStationWrite (source : ReqSource) (mode station item : Byte) (data : List Byte) (timeout : Word16) : Statement (.remoteStationWrite source mode station item data timeout) :=
  fun _ _ h => by cases h
theorem remoteStationWalk (source : ReqSource) (first last : Byte) : Statement (.remoteStationWalk source first last) :=
  fun _ _ h => by cases h
theorem remoteStationRoster (source : ReqSource) : Statement (.remoteStationRoster source) :=
  fun _ _ h => by cases h
theorem doorRelease (source : ReqSource) (side first last : Byte) (outside : Bool) : Statement (.doorRelease source side first last outside) :=
  fun _ _ h => by cases h
theorem doorClose (source : ReqSource) (mask : Byte) : Statement (.doorClose source mask) :=
  fun _ _ h => by cases h
theorem doorIsolate (source : ReqSource) (leaf : Byte) : Statement (.doorIsolate source leaf) :=
  fun _ _ h => by cases h
theorem doorRestore (source : ReqSource) (leaf : Byte) : Statement (.doorRestore source leaf) :=
  fun _ _ h => by cases h
theorem setAllowance (source : ReqSource) (allowance : Word16) (stagger : Option Word16) : Statement (.setAllowance source allowance stagger) :=
  fun _ _ h => by cases h
theorem groupReset (source : ReqSource) (group : Byte) : Statement (.groupReset source group) :=
  fun _ _ h => by cases h
theorem recordEdit (source : ReqSource) (offset : Word16) (data : List Byte) : Statement (.recordEdit source offset data) :=
  fun _ _ h => by cases h
theorem recordEditReset (source : ReqSource) : Statement (.recordEditReset source) :=
  fun _ _ h => by cases h
theorem recordRead (source : ReqSource) (image : Byte) (offset : Word16) (length : Byte) : Statement (.recordRead source image offset length) :=
  fun _ _ h => by cases h
theorem recordStore (source : ReqSource) : Statement (.recordStore source) :=
  fun _ _ h => by cases h
theorem setProtection (source : ReqSource) (mode : Byte) : Statement (.setProtection source mode) :=
  fun _ _ h => by cases h
theorem recordWriteEnd (readBack : List Byte) : Statement (.recordWriteEnd readBack) :=
  fun _ _ h => by cases h
theorem settingWriteEnd : Statement .settingWriteEnd :=
  fun _ _ h => by cases h
theorem recordLive : Statement .recordLive :=
  fun _ _ h => by cases h
theorem busAnswer (station item : Byte) (ready : Bool) (data : List Byte) : Statement (.busAnswer station item ready data) :=
  fun _ _ h => by cases h
theorem busReplyTimeout : Statement .busReplyTimeout :=
  fun _ _ h => by cases h
theorem retryWaitEnd (cls : BusClass) (place : Nat) : Statement (.retryWaitEnd cls place) :=
  fun _ _ h => by cases h
theorem persistTimeout (cls : BusClass) (place : Nat) : Statement (.persistTimeout cls place) :=
  fun _ _ h => by cases h
theorem roundTimerRunout : Statement .roundTimerRunout :=
  fun _ _ h => by cases h
theorem roundOverrunHoldoffEnd : Statement .roundOverrunHoldoffEnd :=
  fun _ _ h => by cases h
theorem warningTimeEnd (leaf : Nat) : Statement (.warningTimeEnd leaf) :=
  fun _ _ h => by cases h
theorem closeConfirmTimeout (leaf : Nat) : Statement (.closeConfirmTimeout leaf) :=
  fun _ _ h => by cases h
theorem reopenDwellEnd (leaf : Nat) : Statement (.reopenDwellEnd leaf) :=
  fun _ _ h => by cases h
theorem headlessCloseDelayExpiry : Statement .headlessCloseDelayExpiry :=
  fun _ _ h => by cases h
theorem increaseWaitExpiry : Statement .increaseWaitExpiry :=
  fun _ _ h => by cases h
theorem staggerDelayEnd : Statement .staggerDelayEnd :=
  fun _ _ h => by cases h
theorem heatHoldExpiry : Statement .heatHoldExpiry :=
  fun _ _ h => by cases h

end Sys2Proof.Laws.Framed
end

