-- ==== Sys2Proof/Laws/Record.lean ====
section
/-! SUPPORT. A record left partly written fails its check, whatever its bytes: the layout of an image lies
before its check word, and a check word that differs by one gives another sum (R174, R183). -/

namespace Sys2Proof.Machine

open Sys2Proof

theorem imageByte_modify (img : List Byte) (f : Byte → Byte) {i k : Nat} (h : i ≠ k) :
    imageByte (img.modify k f) i = imageByte img i := by
  simp [imageByte, List.getD_eq_getElem?_getD, Ne.symm h]

/-- The group offsets are read from the bytes before their end. -/
theorem groupOffsets_congr (a b : List Byte) (n off stop : Nat) (offs : List Nat)
    (h : groupOffsets a n off = some (offs, stop)) :
    off ≤ stop ∧ ((∀ i, i < stop → imageByte b i = imageByte a i) →
      groupOffsets b n off = some (offs, stop)) := by
  induction n generalizing off offs with
  | zero =>
    cases h
    exact ⟨Nat.le_refl _, fun _ => rfl⟩
  | succ n ih =>
    simp only [groupOffsets] at h ⊢
    split at h
    · rename_i hs
      obtain ⟨⟨offs', stop'⟩, hr, heq⟩ := Option.map_eq_some_iff.mp h
      cases heq
      obtain ⟨hle, hcongr⟩ := ih _ _ hr
      refine ⟨by omega, fun hb => ?_⟩
      have hoff : imageNat b off = imageNat a off := by unfold imageNat; rw [hb off (by omega)]
      rw [hoff, if_pos hs, hcongr hb]
      rfl
    · cases h

/-- The layout of an image is read from the bytes before its end. -/
theorem readLayout_congr (a b : List Byte) (l : Layout) (h : readLayout a = some l)
    (hb : ∀ i, i < l.stop → imageByte b i = imageByte a i) : readLayout b = some l := by
  have hn : ∀ i, i < l.stop → imageNat b i = imageNat a i := fun i hi => by
    unfold imageNat; rw [hb i hi]
  unfold readLayout at h ⊢
  dsimp only at h ⊢
  split at h
  · rename_i hranges
    split at h
    · cases h
    · rename_i offs poll hgroups
      split at h
      · rename_i hpoll
        cases h
        dsimp only at hb hn
        obtain ⟨hle, hcongr⟩ := groupOffsets_congr a b _ _ _ _ hgroups
        have h3 := hn 3 (by omega)
        have hd := hn (4 + imageNat a 3 + 3) (by omega)
        have hh := hn (4 + imageNat a 3 + 3 + 1 + 4 * imageNat a (4 + imageNat a 3 + 3) + 6) (by omega)
        have hp := hn poll (by omega)
        have hg := hcongr fun i hi => hb i (by omega)
        rw [h3, hd, hh, if_pos hranges, hg]
        dsimp only
        rw [hp, if_pos hpoll]
      · cases h
  · cases h

/-- The sum of `n + 1` words is that of the first `n` and the last. -/
theorem wordSum_succ (img : List Byte) (n : Nat) :
    wordSum img (n + 1) = (wordSum img n + imageNum16 img (2 * n)) % 65536 := by
  simp [wordSum, List.range_succ, List.foldl_append]

theorem wordSum_congr (a b : List Byte) (n : Nat)
    (h : ∀ i, i < 2 * n → imageByte b i = imageByte a i) : wordSum b n = wordSum a n := by
  induction n with
  | zero => simp [wordSum]
  | succ n ih =>
    rw [wordSum_succ, wordSum_succ, ih fun i hi => h i (by omega)]
    unfold imageNum16
    rw [h _ (by omega), h _ (by omega)]

/-- A byte with its lowest bit turned is one more or one less. -/
theorem toNat_xor_one (b : Byte) :
    (b ^^^ 1#8).toNat = b.toNat + 1 ∨ b.toNat = (b ^^^ 1#8).toNat + 1 := by
  revert b
  decide

/-- An image that passes the check has a layout, and its words sum to the signature (R174). -/
theorem checkImage_passes (img : List Byte) (h : checkImage img = none) :
    ∃ l, readLayout img = some l ∧ l.imageLength ≤ Config.imageSize
      ∧ wordSum img (l.imageLength / 2) = Config.recordSignature := by
  unfold checkImage at h
  cases hl : readLayout img with
  | none =>
    rw [hl] at h
    dsimp only at h
    repeat' (split at h; · cases h)
    cases h
  | some l =>
    rw [hl] at h
    dsimp only at h
    repeat' (split at h; · cases h)
    rename_i h1 _ h2
    exact ⟨l, rfl, by omega, by simpa using h2⟩

/-- An image that passes the check no longer does once the lowest bit of its check word is turned. -/
theorem checkImage_turned (img : List Byte) (l : Layout) (hlen : img.length = Config.imageSize)
    (hpass : checkImage img = none) (hl : readLayout img = some l) :
    checkImage (img.modify (l.checkOffset + 1) (· ^^^ 1#8)) ≠ none := by
  intro hturned
  have hsame : ∀ i, i ≠ l.checkOffset + 1 →
      imageByte (img.modify (l.checkOffset + 1) (· ^^^ 1#8)) i = imageByte img i :=
    fun i hi => imageByte_modify img _ hi
  have hstop : l.stop ≤ l.checkOffset := by unfold Layout.checkOffset; omega
  have hl' := readLayout_congr img _ l hl fun i hi => hsame i (by omega)
  obtain ⟨m, hm, hfit, hs⟩ := checkImage_passes img hpass
  obtain ⟨m', hm', -, hs'⟩ := checkImage_passes _ hturned
  obtain rfl := Option.some.inj (hl.symm.trans hm)
  obtain rfl := Option.some.inj (hl'.symm.trans hm')
  have hwords : l.imageLength / 2 = l.checkOffset / 2 + 1 := by unfold Layout.imageLength; omega
  have heven : 2 * (l.checkOffset / 2) = l.checkOffset := by unfold Layout.checkOffset; omega
  rw [hwords, wordSum_succ, heven] at hs hs'
  rw [wordSum_congr img _ (l.checkOffset / 2) fun i hi => hsame i (by omega)] at hs'
  have hlow : imageByte (img.modify (l.checkOffset + 1) (· ^^^ 1#8)) (l.checkOffset + 1) =
      imageByte img (l.checkOffset + 1) ^^^ 1#8 := by
    have : l.checkOffset + 1 < img.length := by unfold Layout.imageLength at hfit; omega
    simp [imageByte, List.getD_eq_getElem?_getD, this]
  unfold imageNum16 num16 at hs hs'
  rw [hsame _ (by omega), hlow] at hs'
  have := toNat_xor_one (imageByte img (l.checkOffset + 1))
  omega

/-- A record left partly written fails its check (R183). -/
theorem tornImage_fails (n : Nat) : checkImage (tornImage n) ≠ none := by
  unfold tornImage
  dsimp only
  split
  · rename_i l hpass hl
    exact checkImage_turned _ l (by rw [List.length_map, List.length_range]) hpass hl
  · rename_i hother
    intro hpass
    obtain ⟨l, hl, -⟩ := checkImage_passes _ hpass
    exact hother l hpass hl

end Sys2Proof.Machine
end

