-- ==== Sys2Proof/Laws/Sweeps.lean ====
section
/-! SUPPORT. What the operations of the Sweep Unit come to: the outward pass as its start and the two tallies, the
frames it sends; and the census frames (R12, R69 to R71). -/

namespace Sys2Proof.Machine

open Sys2Proof

/-- The outward pass is its start, then the proof tally, then the heat tally (R69 step 3). -/
theorem processOutward_eq (f : SweepOut) (s : State) :
    processOutward f s =
      let m := outwardStart f s
      heatOutward { f with tally := tallyVehicle m f.tally } m := rfl

/-- A SWEEP-BACK goes out through the head-side port (R70, R71). -/
theorem sendBack_joinsUrgent (payload : List Byte) (s : State) :
    JoinsUrgent s.headPort (buildFrame s Config.kindSweepBack 0#8 0#8 payload) s (sendBack payload s) :=
  offerFrame_joinsUrgent _ _ s rfl

/-- A census frame goes out through the port it is handed for (R12). -/
theorem sendCensus_joinsUrgent (p : PortId) (generation kind : Byte) (payload : List Byte) (s : State)
    (h : isNormalKind kind = false) :
    JoinsUrgent p (buildFrameIn s generation kind 0#8 0#8 payload) s (sendCensus p generation kind payload s) :=
  offerFrame_joinsUrgent p _ s h

end Sys2Proof.Machine
end

