-- ==== Sys2Proof/Tests/Slice0.lean ====
section
/-! SUPPORT. The model's own tests: operands that WellFormed refuses, the worked examples of the manual, and a
witness for the hypotheses of every statement. Each is about one small state and at most one command. -/

namespace Sys2Proof.Tests

-- The evaluations below run one after another: side by side each would hold a thread.
set_option Elab.async false

open Sys2Proof Sys2Proof.Machine

/-! ## Small states -/

/-- The node of the tests: as after power-on. -/
def node : State := State.reset

/-- A header with its flags, destination and generation; source 1 and tag 3. -/
def hdr (flags destination generation : Byte) : Header where
  generation := generation
  flags := flags
  destination := destination
  source := 1#8
  tag := 3#8

/-- A frame of a kind with its header and payload. -/
def frameOf (kind : Byte) (h : Header) (payload : List Byte) : Frame where
  kind := kind
  header := h
  payload := payload

/-- A waiting frame of a kind, told apart by its tag. -/
def waiting (kind tag : Byte) : LaneEntry where
  frame := frameOf kind { (hdr 1#8 0#8 0#8) with tag := tag } []
  mark := .plain

/-- A port in UP with nothing waiting. -/
def upPort : Port := { Port.reset with link := .up, signal := true }

/-- The node with LP1 as given. -/
def withLp1 (q : Port) : State := { node with lp1 := q }

/-- A consist entry of an identity. -/
def entryOf (i : Identity) (o : Orientation) (head : Bool) : ConsistEntry where
  identity := i
  orientation := o
  recordValid := true
  isHead := head
  claimedEnd := none
  weight := 4#8
  leavesA := 0#8
  leavesB := 0#8
  vehicleNumber := []

/-- Identities 9, 0 (the node itself) and 8: the node at position 2 of 3. -/
def map3 : List ConsistEntry :=
  [entryOf 9#48 .forward true, entryOf 0#48 .forward false, entryOf 8#48 .forward false]

/-- The node SETTLED in generation 5 at position 2 of 3, both ports UP. -/
def settled3 : State :=
  { node with
    lp1 := upPort, lp2 := upPort
    consist := { Consist.reset with state := .settled, generation := 5#8, activeMap := map3 } }

/-- A head SETTLED in generation 5 at position 1 of 2, with End 1 claimed and LP2 UP. -/
def head2 : State :=
  { node with
    lp2 := upPort
    consist :=
      { Consist.reset with
        claim1 := true, status := .valid, state := .settled, generation := 5#8
        activeMap := [entryOf 0#48 .forward true, entryOf 8#48 .forward false] } }

/-- A leaf in a state with a running timer. -/
def leafIn (st : LeafState) : Leaf where
  state := st
  timer := some 0
  attempts := 0
  closeMark := false

/-- A leaf of the record. -/
def leafCfg (side : Side) : LeafConfig where
  side := side
  station := 4#8
  statusItem := 2#8
  commandItem := 1#8

/-- A group of the record with stage currents. -/
def groupCfg (currents : List Nat) : GroupConfig where
  currents := currents
  requestStation := 9#8
  requestItem := 3#8
  commandStation := 6#8
  commandItem := 1#8
  feedbackItem := 4#8

/-- The node with leaves in the given states, on alternating sides from A. -/
def withLeaves (s : State) (states : List LeafState) : State :=
  { s with
    door := { s.door with leaves := states.map leafIn }
    store :=
      { s.store with
        content :=
          { s.store.content with
            leaves := states.mapIdx fun i _ => leafCfg (if i % 2 = 0 then .a else .b) } } }

/-- A neighbour at End 1 of identity 9. -/
def neighbour9 : Neighbour where
  identity := 9#48
  farEnd := .end1
  generation := 0#8

/-- An entry of a class queue that waits. -/
def doorEntry (phase : EntryPhase) (persist : Persist) : QueueEntry where
  op := .write 4#8 1#8 [2#8]
  mode := .persist 200
  owner := .leaf 1
  phase := phase
  persist := persist
  current := true

/-- A host at the cab station. -/
def cab : ReqSource := .cab 7#8

/-- A request from position 1, of generation 5. -/
def line : ReqSource := .line 1#8 5#8 7#8

/-- The state after a command; the model stops on none. -/
def after (i : Instr) (s : State) : State :=
  match exec i s with
  | .next t => t
  | .fault _ => s
  | .refused _ => s

/-! ## WellFormed refuses, one ill-formed operand for each check -/

theorem test_illformed_source : (Instr.identify (.line 33#8 0#8 0#8)).wellFormed = false := by decide
theorem test_illformed_frame_length :
    (Instr.change .lp1 (hdr 1#8 255#8 0#8) (List.replicate 721 0#8)).wellFormed = false := by
  decide +kernel
theorem test_illformed_odd_test : (Instr.test .lp1 (hdr 0#8 0#8 0#8) [0#8]).wellFormed = false := by decide
theorem test_illformed_hello_variant :
    (Instr.testAccept .lp1 (hdr 1#8 0#8 0#8)
      (helloPayload 9#48 .end1 0#8 .plain)).wellFormed = false := by decide
theorem test_illformed_known_kind :
    (Instr.frameUnknownKind .lp1 0x0D#8 (hdr 0#8 1#8 0#8) []).wellFormed = false := by decide
theorem test_illformed_host_request : (Instr.hostRequest [0x02#8, 0#8, 0#8, 1#8]).wellFormed = false := by
  decide
theorem test_illformed_host_discard : (Instr.hostFrameDiscard [0x01#8, 0#8, 0#8, 1#8]).wellFormed = false := by
  decide
theorem test_illformed_request_kind : (Instr.requestUnknownKind cab 30#8 []).wellFormed = false := by decide
/-- A ROSTER of mode WALK is refused with RANGE by step 3 of R111, of another mode it is the command of the row. -/
theorem test_roster_mode :
    readRequest cab 19#8 [3#8, 4#8, 0#8, 0#8, 0#8, 0#8, 0#8, 0#8] = .malformed
      ∧ readRequest cab 19#8 [3#8, 5#8, 0#8, 0#8, 0#8, 0#8, 0#8, 0#8] = .command (.remoteStationRoster cab) :=
  ⟨rfl, rfl⟩

theorem test_illformed_remote_mode :
    (Instr.remoteStationRead cab 4#8 1#8 0#8 0#16).wellFormed = false := by decide
theorem test_illformed_data_count :
    (Instr.recordEdit cab 0#16 (List.replicate 256 0#8)).wellFormed = false := by decide +kernel
theorem test_illformed_read_back : (Instr.recordWriteEnd []).wellFormed = false := by decide
theorem test_illformed_place : (Instr.retryWaitEnd .door 16).wellFormed = false := by decide
theorem test_illformed_leaf : (Instr.warningTimeEnd 9).wellFormed = false := by decide

/-- No row of the table has bits, so no word spells a command. -/
theorem test_no_word_spells_a_command (nbits w : Nat) : decodeTableWord nbits w = none := rfl

/-! ## Worked examples of the manual -/

/-- Section 1.10: the urgent lane X4, Y9, DR12, X4, Y9, SO39 of LP2 in GLITCH, told apart by tags 1 to 6. -/
def glitchLane : State :=
  { node with
    lp2 :=
      { Port.reset with
        link := .glitch
        urgent := [waiting 3#8 1#8, waiting 3#8 2#8, waiting 9#8 3#8, waiting 3#8 4#8, waiting 3#8 5#8,
          waiting 7#8 6#8] } }

/-- Steps 1 to 5: SO40 and DC5 join, SO41 displaces SO39, a CHANGE is dropped, DC6 evicts the oldest
CHANGE; three drops, one notice with subject 2 and value 1. -/
theorem test_lane_through_a_glitch :
    let s := [waiting 7#8 40#8, waiting 10#8 5#8, waiting 7#8 41#8, waiting 3#8 9#8, waiting 10#8 6#8].foldl
      (fun s e => offer .lp2 e s) glitchLane
    s.lp2.urgent.map (fun e => e.frame.header.tag) = [2#8, 3#8, 4#8, 5#8, 40#8, 5#8, 41#8, 6#8]
      ∧ s.lp2.dropped = 3
      ∧ s.req.notices.map (fun n => (n.kind, n.subject, n.value)) =
          [(.recordInvalid, 0#8, 1#16), (.queueDrop, 2#8, 1#16)] := by decide +kernel

/-- Section 2.10, last row of the first table: the eighth errored frame of a block takes the port DOWN with
reason CONTACT, received and errored 95 and 13, and the signal withheld for 5000 ms. -/
theorem test_bouncing_contact :
    let s := after (.frameErrored .lp1)
      (withLp1 { upPort with received := 94, errored := 12, windowFrames := 30, windowErrors := 7 })
    s.lp1.link = .down ∧ s.lp1.lastDown = .contact ∧ s.lp1.received = 95 ∧ s.lp1.errored = 13
      ∧ s.lp1.contactHoldoff = some 5000 := by decide +kernel

/-- Section 2.11: the result record of Q. -/
theorem test_link_test_record :
    TestRun.result
        { frames := 100, sent := 100, received := 97, errored := 2, last := some 99, quiet := none }
        .complete =
      { frames := 100, sent := 100, received := 97, errored := 2, missing := 3, outcome := .complete } := by
  decide

/-- Section 9.13, the return at position 4: G is 85, the fitted count 2, and 15 remain. -/
theorem test_four_vehicle_pass_position_4 :
    let l : HeatLatch :=
      { sequence := 1#8, dPre := 310, wPre := 10, demand := 140, weight := 4, requested := [4] }
    heatShare l 300 = 85
      ∧ ((fitStages [{ currents := [35, 35, 35, 35], want := 4, fitted := 0, stopped := false }] 85).1.map
            Fit.fitted,
          (fitStages [{ currents := [35, 35, 35, 35], want := 4, fitted := 0, stopped := false }] 85).2) =
        ([2], 15) := by decide

/-- Section 9.13, the return at position 2: G is 138, the fitted counts 2 and 1, and 8 remain. -/
theorem test_four_vehicle_pass_position_2 :
    let l : HeatLatch :=
      { sequence := 1#8, dPre := 120, wPre := 4, demand := 190, weight := 6, requested := [2, 3] }
    let out := fitStages
      [{ currents := [50, 50], want := 2, fitted := 0, stopped := false },
       { currents := [30, 30, 30], want := 3, fitted := 0, stopped := false }] 138
    heatShare l 230 = 138 ∧ out.1.map Fit.fitted = [2, 1] ∧ out.2 = 8 := by decide

/-- Section 7.11: position 2 of a span 3 to 4 with the outside flag lies in range, position 3 does not; the
train's RIGHT is Side A of a REVERSED vehicle and Side B of a FORWARD one. -/
theorem test_selective_release :
    let r : Release := { serial := 9#8, side := .right, first := 3, last := 4, outside := true }
    r.covers 2 = true ∧ r.covers 3 = false ∧ vehicleSide .reversed .right = .a
      ∧ vehicleSide .forward .right = .b := by decide

/-- Section 1.9: a REQUEST for position 7 reaches position 5 of 5 and is counted there as beyond-tail. -/
theorem test_request_beyond_the_tail :
    let five := [1#48, 2#48, 3#48, 4#48, 0#48].map fun i => entryOf i .forward (decide (i = 1#48))
    let s : State := { settled3 with consist := { settled3.consist with activeMap := five } }
    (after (.request .lp1 (hdr 0#8 7#8 5#8) [1#8]) s).relay.beyondTail = 1 := by decide +kernel

/-- Section 5.9, step 2: STANDSTILL clear in a SWEEP-OUT sends a RELEASED leaf to WARNING, and WARN (2) is
offered to its station at its command item. -/
theorem test_sweep_warns_released_leaf :
    let s := enterLeaf 1 .warning (withLeaves node [.released])
    (s.leaf 1).map Leaf.state = some .warning
      ∧ s.bus.doorQueue.map (fun e => e.op) = [.write 4#8 1#8 [2#8]] := by decide +kernel

/-- The check of R3 over nine bytes: the published check value of the polynomial x^16 + x^12 + x^5 + 1 from
all ones, for the digits 1 to 9. -/
theorem test_frame_check :
    crc16 [0x31#8, 0x32#8, 0x33#8, 0x34#8, 0x35#8, 0x36#8, 0x37#8, 0x38#8, 0x39#8] = 0x29B1#16 := by
  decide +kernel

/-- Section 10.7's arithmetic of the check word: 0x9A30 and 0xE1EE add up to the signature. -/
theorem test_check_word : (0x9A30 + 0xE1EE) % 65536 = Config.recordSignature := by decide


/-! ## Witnesses: states and operands that meet the hypotheses of each clause of a statement -/

/-- A store in a state. -/
def inStore (st : StoreState) : State := { node with store := { node.store with state := st } }

/-- The node with a reset pending, its store in a state. -/
def resetIn (st : StoreState) : State :=
  { inStore st with req := { node.req with resetPending := true } }

/-- LP1 in a link state, else as after power-on. -/
def lp1In (l : LinkState) : State := withLp1 { Port.reset with link := l }

/-- The node at a standstill, with leaves RELEASED and CLOSED. -/
def standing : State :=
  { withLeaves node [.released, .closed] with pins := { node.pins with standstill := true } }

/-- LP1 in SETTLING with the candidate of neighbour 9 counted so often. -/
def settlingAt (count : Nat) : State :=
  withLp1
    { Port.reset with
      link := .settling, signal := true, helloTimer := some 0
      settle := { candidate := some neighbour9, count := count, time := some 0 } }

/-- LP1 in UP beside neighbour 9, with an offer. -/
def besideNine (o : Offer) : State :=
  withLp1 { upPort with neighbour := some neighbour9, silence := some 1, helloTimer := some 0, offer := o }

/-- A link test of 16 frames. -/
def testOf (sent : Nat) (last quiet : Option Nat) : TestRun :=
  { frames := 16, sent := sent, received := 0, errored := 0, last := last, quiet := quiet }

/-- LP1 in TEST with a run. -/
def testing (r : TestRun) : State := withLp1 { Port.reset with link := .test, run := some r }

/-- LP1 in UP with an urgent and a normal lane. -/
def lanes (urgent normal : List LaneEntry) : State := withLp1 { upPort with urgent := urgent, normal := normal }

theorem test_witness_StepRunsTheFrontCommand :
    ({ node with pending := [.identify cab, .nodeReset] } : State).pending =
      .identify cab :: [.nodeReset] := rfl

theorem test_witness_EmptyQueueCommandsWhatIsDue :
    (let s := { node with req := { node.req with resetPending := true, resetDue := true } }
     s.pending = [] ∧ s.powered = true ∧ dueCommand s = some .nodeReset)
      ∧ (node.pending = [] ∧ node.powered = true ∧ dueCommand node = none)
      ∧ ({ node with powered := false } : State).powered = false := by decide +kernel

/-- One millisecond of a SETTLED node lowers its timers and holds the rest. -/
theorem test_tick_lowers_the_timers :
    let s : State :=
      { settled3 with sweep := { settled3.sweep with freshness := some 5 }, req := { settled3.req with spacing := some 0 } }
    (tick s).sweep.freshness = some 4 ∧ (tick s).req.spacing = some 0 ∧ (tick s).untimed = s.untimed := by
  decide +kernel

theorem test_witness_PowerOnOfABlankNodeGivesReset :
    let s : State := { node with powered := false, lp1 := upPort, consist := settled3.consist }
    s.powered = false ∧ s.identity = 0#48 ∧ s.freeCount = 0 ∧ s.pending = []
      ∧ s.store.stored = blankImage ∧ s.store.storedMark = .whole
      ∧ s.store.storedSetting = some .unlocked := by decide +kernel

/-- The settled node with its stored record whole, or left by a failed read-back. -/
def marked (m : StoreMark) : State :=
  { settled3 with store := { settled3.store with storedMark := m } }

theorem test_witness_PowerOnLoadsTheStoredRecord :
    ∀ m ∈ [StoreMark.whole, .failedReadBack],
      let s : State := { marked m with powered := false }
      s.powered = false ∧ s.store.storedMark = m ∧ checkImage s.store.stored = some .signature := by
  decide +kernel

theorem test_witness_PowerFailureMeetsAStore :
    ∀ st ∈ [StoreState.idle, .awaitingDoors, .writing, .setting],
      (inStore st).powered = true ∧ (inStore st).store.state = st := by decide +kernel

theorem test_witness_NodeResetTakesPlaceOrIsHeldBack :
    ∀ st ∈ [StoreState.idle, .awaitingDoors, .writing, .setting],
      (resetIn st).powered = true ∧ (resetIn st).req.resetPending = true ∧ (resetIn st).store.state = st
        ∧ ∀ m ∈ [StoreMark.whole, .failedReadBack],
            ({ (resetIn st).store with storedMark := m } : Store).storedMark = m := by decide +kernel

theorem test_witness_FallsAndDelaysCloseReleasedLeaves :
    (standing.powered = true ∧ standing.pins.standstill = true
        ∧ standing.leaf 1 = some (leafIn .released) ∧ standing.leaf 2 = some (leafIn .closed))
      ∧ (let leaves := withLeaves node (List.replicate 8 .released)
         let s := { leaves with
           door := { leaves.door with headless := .running 1 }
           bus := { leaves.bus with doorQueue := List.replicate 8 (doorEntry .waiting .unstarted) } }
         s.powered = true ∧ s.door.headless = .running 1
           ∧ s.bus.doorQueue.length + s.door.leaves.length = 16) := by decide +kernel

theorem test_witness_LockTakesAPortFromDownToSettling :
    (node.powered = true ∧ (node.port .lp1).link = .down ∧ (node.port .lp1).dropInterval = none
        ∧ (node.port .lp1).contactHoldoff = none ∧ (node.port .lp1).urgent = []
        ∧ (node.port .lp1).transmitter = none ∧ (node.port .lp1).testDue = false)
      ∧ (let q := (withLp1 { Port.reset with signal := true, dropInterval := some 1 }).port .lp1
         q.link = .down ∧ q.dropInterval ≠ none ∧ q.contactHoldoff = none ∧ q.signal = true)
      ∧ (let q := (withLp1 { Port.reset with signal := true, contactHoldoff := some 1 }).port .lp1
         q.link = .down ∧ q.contactHoldoff ≠ none ∧ q.signal = true) := by decide +kernel

theorem test_witness_LockLostInUpIsAGlitch :
    node.powered = true ∧ ((lp1In .up).port .lp1).link = .up
      ∧ ((lp1In .glitch).port .lp1).link = .glitch := by decide +kernel

theorem test_witness_PortDownEvents :
    (let q := (withLp1 { upPort with silence := some 1, dropped := 65535 }).port .lp1
     q.dropped ≤ 65535 ∧ q.silence ≠ none ∧ q.link = .up)
      ∧ ((lp1In .glitch).port .lp1).link = .glitch
      ∧ (let q := (withLp1 { upPort with windowErrors := 7 }).port .lp1
         q.link = .up ∧ q.windowErrors = 7) := by decide +kernel

/-- A HELLO of another identity, and one of another end, than the recorded neighbour's. -/
theorem test_witness_PortDownEvents_changed :
    let q := (besideNine .none).port .lp1
    q.link = .up ∧ q.neighbour = some neighbour9 ∧ (hdr 1#8 0#8 0#8).destination = 0#8
      ∧ (hdr 0x81#8 0#8 0#8).flags.getLsbD 0 = true
      ∧ (∀ who ∈ [{ neighbour9 with identity := 8#48 }, { neighbour9 with farEnd := .end2 }],
          who.identity ≠ (besideNine .none).identity
            ∧ (neighbour9.identity ≠ who.identity ∨ neighbour9.farEnd ≠ who.farEnd)) := by decide +kernel

/-- An offer that ends with the port, and a port event that leaves the claim status and one that ends VALID. -/
theorem test_witness_PortDownEvents_told :
    ((besideNine (.pending 16 none)).port .lp1).offer = .pending 16 none
      ∧ (claimStatusNow head2 = .valid ↔ head2.consist.status = .valid)
      ∧ ¬(claimStatusNow { head2 with lp1 := upPort } = .valid
          ↔ ({ head2 with lp1 := upPort } : State).consist.status = .valid) := by decide +kernel

theorem test_witness_SettlingEndsInUpAndHelloIsTimed :
    (let q := (settlingAt 3).port .lp1
     q.link = .settling ∧ q.settle.time ≠ none ∧ q.settle.candidate = some neighbour9 ∧ q.settle.count = 3
       ∧ q.helloTimer ≠ none ∧ q.testDue = false ∧ q.urgent = [] ∧ q.transmitter = none)
      ∧ (let q := (settlingAt 2).port .lp1
         q.link = .settling ∧ q.settle.time ≠ none ∧ q.settle.count ≠ 3)
      ∧ (let q := (besideNine .none).port .lp1
         q.link = .up ∧ q.helloTimer ≠ none ∧ q.testDue = false ∧ q.urgent = []
           ∧ q.transmitter = none) := by decide +kernel

theorem test_witness_OffersEndInRefusalOrTest :
    (let s := besideNine (.pending 16 (some 1))
     s.powered = true ∧ (s.port .lp1).offer = .pending 16 (some 1) ∧ (s.port .lp1).link = .up
       ∧ (s.port .lp1).neighbour = some neighbour9 ∧ neighbour9.identity ≠ s.identity
       ∧ (hdr 1#8 0#8 0#8).destination = 0#8 ∧ (hdr 1#8 0#8 0#8).flags = 1#8)
      ∧ (let s := besideNine (.pending 4096 none)
         (s.port .lp1).offer = .pending 4096 none ∧ (s.port .lp1).link = .up
           ∧ (s.port .lp1).neighbour = some neighbour9)
      ∧ (let q := (withLp1 { upPort with testDue := true, offer := .accepted 4096 }).port .lp1
         q.testDue = true ∧ q.link = .up ∧ q.transmitter = none ∧ q.offer.frames = some 4096) := by
  decide +kernel

theorem test_witness_LinkTestCountsAndFinishes :
    (let r := testOf 14 (some 14) none
     (testing r).powered = true ∧ ((testing r).port .lp1).link = .test
       ∧ ((testing r).port .lp1).run = some r ∧ 0 < r.frames ∧ r.sent + 1 < r.frames ∧ r.sent ≠ r.frames
       ∧ 15 < r.frames ∧ 15 < 65536 ∧ 15 + 1 = r.frames ∧ r.last ≠ some (r.frames - 1)
       ∧ (∀ l ∈ r.last, l < 15) ∧ (¬∀ l ∈ r.last, l < 14) ∧ r.frames ≤ 16)
      ∧ (let r := testOf 15 none none
         r.sent + 1 = r.frames ∧ r.last ≠ some (r.frames - 1) ∧ 0 + 1 ≠ r.frames ∧ ∀ l ∈ r.last, l < 0)
      ∧ (let r := testOf 15 (some 15) none
         r.sent + 1 = r.frames ∧ r.last = some (r.frames - 1))
      ∧ (let r := testOf 16 (some 14) (some 1)
         ((testing r).port .lp1).run = some r ∧ 15 + 1 = r.frames ∧ r.sent = r.frames
           ∧ (∀ l ∈ r.last, l < 15) ∧ r.quiet ≠ none ∧ r.last ≠ some (r.frames - 1)) := by decide +kernel

/-- A TEST frame without a payload, and one of the greatest length, are no pattern of R35. -/
theorem test_witness_LinkTestCountsAndFinishes_pattern :
    (∀ payload ∈ [[], List.replicate 720 0#8], payload.length ≤ 720 ∧ payload.length % 2 = 0)
      ∧ ∀ i, [] ≠ testPayload i := by
  refine ⟨by decide +kernel, fun i h => ?_⟩
  have := congrArg List.length h
  simp [testPayload, be16] at this

theorem test_witness_TransmittersAndDrops :
    (let s := withLp1 { upPort with transmitter := some (waiting 3#8 1#8), urgent := [waiting 4#8 2#8] }
     s.powered = true ∧ (s.port .lp1).transmitter = some (waiting 3#8 1#8)
       ∧ (waiting 3#8 1#8).mark = .plain ∧ (s.port .lp1).link = .up ∧ (s.port .lp1).testDue = false)
      ∧ (let s := withLp1 { Port.reset with link := .glitch, transmitter := some (waiting 3#8 1#8) }
         (s.port .lp1).transmitter = some (waiting 3#8 1#8) ∧ (s.port .lp1).link = .glitch)
      ∧ (node.consist.status ≠ .valid ∧ node.req.notices.length < 32
          ∧ (node.port .lp1).dropHoldoff = none)
      ∧ ((withLp1 { upPort with dropHoldoff := some 1 }).port .lp1).dropHoldoff = some 1 := by
  decide +kernel

/-- The ends of a TEST-ACCEPT with the offer accepted and of a RESET-NODE reply with the reset pending; and a port
in GLITCH with one place left in each lane. -/
theorem test_witness_TransmittersAndDrops_marked :
    (let e : LaneEntry := { waiting 1#8 1#8 with mark := .testAccept }
     let s := withLp1 { upPort with transmitter := some e, offer := .accepted 16 }
     (s.port .lp1).transmitter = some e ∧ e.mark = .testAccept ∧ (s.port .lp1).offer = .accepted 16)
      ∧ (let e : LaneEntry := { waiting 12#8 1#8 with mark := .resetReply }
         let s : State :=
           { withLp1 { Port.reset with link := .settling, transmitter := some e } with req := (resetIn .idle).req }
         (s.port .lp1).transmitter = some e ∧ e.mark = .resetReply ∧ s.req.resetPending = true
           ∧ (s.port .lp1).link = .settling ∧ (s.port .lp1).testDue = false)
      ∧ ((withLp1 { upPort with testDue := true }).port .lp1).testDue = true
      ∧ (let s := withLp1
           { Port.reset with
             link := .glitch
             urgent := List.replicate 7 (waiting 3#8 1#8), normal := List.replicate 15 (waiting 11#8 1#8) }
         (s.port .lp1).link = .glitch ∧ (s.port .lp1).urgent.length < 8 ∧ (s.port .lp1).normal.length < 16
           ∧ (waiting 3#8 2#8).frame.kind ≠ 0x0B#8 ∧ (waiting 13#8 2#8).frame.kind = 0x0D#8) := by
  decide +kernel

theorem test_witness_FullLaneRules :
    (let others := List.replicate 6 (waiting 3#8 1#8)
     let s := lanes (waiting 4#8 1#8 :: waiting 7#8 2#8 :: others) []
     let before := [waiting 4#8 1#8]
     (s.port .lp1).urgent = before ++ waiting 7#8 2#8 :: others ∧ 8 ≤ (s.port .lp1).urgent.length
       ∧ (waiting 7#8 9#8).frame.kind = Config.kindSweepOut
       ∧ (waiting 7#8 2#8).frame.kind = (waiting 7#8 9#8).frame.kind
       ∧ (∀ x ∈ before, x.frame.kind ≠ (waiting 7#8 9#8).frame.kind)
       ∧ (∀ x ∈ (s.port .lp1).urgent, x.frame.kind ≠ Config.kindSweepBack)
       ∧ (waiting 3#8 9#8).frame.kind ∉ [Config.kindDoorClose, Config.kindSweepOut, Config.kindSweepBack])
      ∧ (let full := List.replicate 7 (waiting 10#8 1#8)
         let s := lanes (waiting 10#8 0#8 :: waiting 3#8 2#8 :: full) []
         (s.port .lp1).urgent = [waiting 10#8 0#8] ++ waiting 3#8 2#8 :: full
           ∧ 8 ≤ (s.port .lp1).urgent.length ∧ (waiting 3#8 2#8).frame.kind ≠ Config.kindDoorClose
           ∧ ∀ x ∈ [waiting 10#8 0#8], x.frame.kind = Config.kindDoorClose)
      ∧ (let s := lanes (List.replicate 8 (waiting 10#8 1#8)) (List.replicate 16 (waiting 11#8 1#8))
         8 ≤ (s.port .lp1).urgent.length ∧ 16 ≤ (s.port .lp1).normal.length
           ∧ ∀ x ∈ (s.port .lp1).urgent, x.frame.kind = Config.kindDoorClose)
      ∧ ((lanes (List.replicate 7 (waiting 3#8 1#8)) []).port .lp1).urgent.length < 8 := by decide +kernel

theorem test_witness_FramesAreCountedAtThePort :
    (node.powered = true ∧ (List.replicate 720 0#8).length ≤ 720 ∧ ((lp1In .up).port .lp1).link = .up
        ∧ ((lp1In .settling).port .lp1).link ≠ .up ∧ 0xFF#8 ≠ 0x01#8)
      ∧ (let q := (withLp1 { upPort with windowErrors := 6 }).port .lp1
         q.link = .up ∧ q.windowErrors < 7)
      ∧ ((lp1In .settling).port .lp1).link = .settling
      ∧ (((testing (testOf 0 none none)).port .lp1).link = .test
          ∧ ((testing (testOf 0 none none)).port .lp1).run = some (testOf 0 none none))
      ∧ ((lp1In .down).port .lp1).link = .down ∧ ((lp1In .glitch).port .lp1).link = .glitch := by
  decide +kernel

/-- HELLO payloads that R24 refuses: too short, too long, a count of 15 and of 4097; one of the node itself; and a
TEST payload of the greatest length. -/
theorem test_witness_FramesAreCountedAtThePort_hello :
    (∀ payload ∈ [List.replicate 10 0#8, List.replicate 12 0#8], payload.length ≠ 11)
      ∧ (∀ n ∈ [15, 4097],
          let payload := helloPayload 9#48 .end1 0#8 (.testOffer n)
          let frames := 256 * (payload.getD 9 0#8).toNat + (payload.getD 10 0#8).toNat
          payload.length ≤ 720 ∧ payload.getD 8 0#8 = 1#8 ∧ (frames < 16 ∨ 4096 < frames))
      ∧ (helloPayload 0#48 .end1 0#8 .plain).take 6 = idBytes node.identity
      ∧ (List.replicate 720 0#8).length % 2 = 0
      ∧ ∀ l ∈ [LinkState.down, .glitch, .test, .up, .settling], ((lp1In l).port .lp1).link = l := by
  decide +kernel

/-- The header conditions of R4, as the statement HeaderCheck writes them. -/
abbrev soundHeader (f : Frame) : Prop :=
  (0x03 ≤ f.kind.toNat ∧ f.kind.toNat ≤ 0x0D)
    ∧ (f.header.flags.getLsbD 0 = true ↔ f.kind.toNat < 0x0B)
    ∧ ((f.kind.toNat = 0x03 ∨ f.kind.toNat = 0x09 ∨ f.kind.toNat = 0x0A) → f.header.destination.toNat = 255)
    ∧ ((0x04 ≤ f.kind.toNat ∧ f.kind.toNat ≤ 0x08) → f.header.destination.toNat = 0)
    ∧ ((f.kind.toNat = 0x0B ∨ f.kind.toNat = 0x0C) →
        1 ≤ f.header.destination.toNat ∧ f.header.destination.toNat ≤ 32)
    ∧ (f.kind.toNat = 0x0D → f.header.destination.toNat = 1)
    ∧ f.header.source.toNat ≤ 32

theorem test_witness_HeaderCheck_sound :
    ∀ f ∈ [frameOf 0x03#8 { (hdr 1#8 255#8 0#8) with source := 32#8 } [], frameOf 0x0B#8 (hdr 0#8 32#8 0#8) [],
        frameOf 0x0D#8 (hdr 0#8 1#8 0#8) []], soundHeader f := by
  delta soundHeader; decide +kernel

theorem test_witness_HeaderCheck_unsound :
    ∀ f ∈ [frameOf 0x03#8 { (hdr 1#8 255#8 0#8) with source := 33#8 } [], frameOf 0x0E#8 (hdr 0#8 1#8 0#8) [],
        frameOf 0x0B#8 (hdr 0#8 33#8 0#8) [], frameOf 0x0A#8 (hdr 0#8 255#8 0#8) []], ¬soundHeader f := by
  delta soundHeader; decide +kernel

theorem test_witness_GenerationAcceptance :
    (∀ f ∈ [frameOf 0x0B#8 (hdr 0#8 2#8 5#8) [], frameOf 0x0C#8 (hdr 0#8 2#8 5#8) [],
          frameOf 0x0D#8 (hdr 0#8 1#8 5#8) [], frameOf 0x09#8 (hdr 1#8 255#8 5#8) [],
          frameOf 0x07#8 (hdr 1#8 0#8 5#8) [], frameOf 0x08#8 (hdr 1#8 0#8 5#8) []],
        headerOk f = true ∧ node.consist.state ≠ .settled ∧ f.header.generation ≠ node.consist.generation
          ∧ settled3.consist.state = .settled ∧ f.header.generation = settled3.consist.generation)
      ∧ (∀ f ∈ [frameOf 0x03#8 (hdr 1#8 255#8 0#8) [], frameOf 0x04#8 (hdr 1#8 0#8 0#8) [],
            frameOf 0x0A#8 (hdr 1#8 255#8 0#8) []],
          headerOk f = true ∧ f.kind ∈ [0x03#8, 0x04#8, 0x05#8, 0x06#8, 0x0A#8]) := by decide +kernel

/-- The node at the tail: position 2 of 2, with LP2 DOWN. -/
def atTail : State :=
  { settled3 with
    lp2 := Port.reset, consist := { settled3.consist with activeMap := map3.take 2 } }

theorem test_witness_AddressedFramesAreRouted :
    (∀ s ∈ [settled3, atTail],
        s.powered = true ∧ (s.port .lp1).link = .up ∧ s.settledIn (hdr 0#8 3#8 5#8).generation = true
          ∧ (hdr 0#8 3#8 5#8).source.toNat ≤ 32 ∧ (hdr 0#8 3#8 5#8).flags.getLsbD 0 = false
          ∧ (hdr 0#8 3#8 5#8).destination.toNat ≤ 32)
      ∧ (2 = settled3.position ∧ 1 < settled3.position ∧ settled3.position < 3
          ∧ settled3.position < settled3.n)
      ∧ (atTail.position < 32 ∧ atTail.position = atTail.n ∧ (atTail.port .lp2).link = .down) := by
  decide +kernel

/-- Frames delivered to the Request Unit: with source 0 and not, a command, a malformed and an unknown
request, a reply in its generation and not, a cab queue with and without room, and NOTICE lengths. -/
theorem test_witness_AnswersGoBackToTheSource_delivered :
    ({ hdr 0#8 2#8 5#8 with source := 0#8 } : Header).source = 0#8 ∧ (hdr 0#8 2#8 5#8).source ≠ 0#8
      ∧ settled3.req.resetPending = false ∧ settled3.powered = true
      ∧ readRequest (.line 1#8 5#8 3#8) 1#8 [] = .command (.identify (.line 1#8 5#8 3#8))
      ∧ readRequest (.line 1#8 5#8 3#8) 1#8 [0#8] = .malformed ∧ 30 < (31#8).toNat
      ∧ (settled3.consist.state = .settled ∧ (hdr 0#8 2#8 5#8).generation = settled3.consist.generation)
      ∧ (hdr 0#8 2#8 6#8).generation ≠ settled3.consist.generation
      ∧ settled3.cabServed = true ∧ settled3.bus.outbound.length < 16
      ∧ (∀ payload ∈ [List.replicate 4 0#8, List.replicate 6 0#8], payload.length ≠ 5) := by decide +kernel

theorem test_witness_HelloSupervisesAndSettles :
    (let s := besideNine .none
     s.powered = true ∧ (hdr 1#8 0#8 0#8).destination = 0#8 ∧ (hdr 1#8 0#8 0#8).flags = 1#8
       ∧ neighbour9.identity ≠ s.identity ∧ (s.port .lp1).link = .up
       ∧ (s.port .lp1).neighbour = some neighbour9 ∧ 16 ≤ 4096 ∧ s.consist.state ≠ .settled
       ∧ (s.port .lp1).offer = .none)
      ∧ (let q := (settlingAt 2).port .lp1
         q.link = .settling ∧ q.settle.time ≠ none ∧ q.settle.candidate = some neighbour9
           ∧ q.settle.count < 3)
      ∧ (∀ c, ((settlingAt 3).port .lp1).settle.candidate = some c →
          c.identity ≠ 8#48 ∨ c.farEnd ≠ .end1) := by
  refine ⟨by decide +kernel, by decide +kernel, ?_⟩
  intro c hc
  obtain rfl : neighbour9 = c := Option.some.inj hc
  decide

/-- A port with room for one more urgent frame, in UP and in GLITCH. -/
theorem test_witness_JoinsUrgent :
    ∀ l ∈ [LinkState.up, .glitch],
      let q : Port := { upPort with link := l, urgent := List.replicate 7 (waiting 3#8 1#8) }
      ((withLp1 q).port .lp1).carries = true ∧ ((withLp1 q).port .lp1).urgent.length < 8 := by decide +kernel

/-- A TEST-OFFER at a SETTLED node, and at a port that holds an offer. -/
theorem test_witness_HelloSupervisesAndSettles_refused :
    (let s : State := { settled3 with lp1 := (besideNine .none).lp1 }
     s.consist.state = .settled ∧ s.pins.workshop = false ∧ (s.port .lp1).link = .up
       ∧ (s.port .lp1).neighbour = some neighbour9 ∧ neighbour9.identity ≠ s.identity)
      ∧ ((besideNine (.accepted 16)).port .lp1).offer ≠ .none := by decide +kernel

/-- The third HELLO after the settle time, and a fourth before it. -/
theorem test_witness_HelloSupervisesAndSettles_up :
    (let q := (withLp1 { (settlingAt 2).lp1 with settle := { (settlingAt 2).lp1.settle with time := none } }).port .lp1
     q.link = .settling ∧ q.settle.candidate = some neighbour9 ∧ q.settle.time = none ∧ q.settle.count = 2)
      ∧ (let q := (settlingAt 3).port .lp1
         q.link = .settling ∧ q.settle.time ≠ none ∧ q.settle.count = 3) := by decide +kernel

/-- The node beside an UP port 2, knowing eight changes of identity 8. -/
def knowing (n : Nat) : State :=
  { settled3 with
    relay := { settled3.relay with changeIds := List.replicate n { id := (8#48, 1#8), left := 5 } } }

theorem test_witness_ChangeActsOnce :
    Accepted .lp1 0x03#8 (hdr 1#8 255#8 0#8) (changePayload (8#48, 1#8)) (knowing 8)
      ∧ Accepted .lp1 0x03#8 (hdr 1#8 255#8 0#8) (changePayload (9#48, 1#8)) (knowing 8)
      ∧ ((knowing 8).port PortId.lp1.other).carries = true
      ∧ (Accepted .lp1 0x03#8 (hdr 1#8 255#8 0#8) (changePayload (9#48, 1#8)) atTail
          ∧ (atTail.port PortId.lp1.other).carries = false)
      ∧ (Accepted .lp2 0x03#8 (hdr 1#8 255#8 0#8) (changePayload (9#48, 1#8)) head2
          ∧ head2.consist.status = .valid)
      ∧ (∀ x ∈ (knowing 8).relay.changeIds, x.id ≠ (9#48, 1#8))
      ∧ ∃ x ∈ (knowing 8).relay.changeIds, x.id = (8#48, 1#8) := by
  delta Accepted; decide +kernel

/-- A CHANGE of 6 and of 8 bytes; and a node that holds the id its next own CHANGE takes, and one that does not. -/
theorem test_witness_ChangeActsOnce_own :
    (∀ payload ∈ [List.replicate 6 0#8, List.replicate 8 0#8],
        Accepted .lp1 0x03#8 (hdr 1#8 255#8 0#8) payload settled3 ∧ payload.length ≠ 7)
      ∧ (let s : State :=
           { settled3 with relay := { settled3.relay with changeIds := [{ id := (0#48, 1#8), left := 5 }] } }
         ∃ x ∈ s.relay.changeIds, x.id = (s.identity, s.consist.changeCounter + 1#8))
      ∧ (∀ x ∈ (knowing 8).relay.changeIds, x.id ≠ ((knowing 8).identity, (knowing 8).consist.changeCounter + 1#8))
      ∧ settled3.consist.state = .settled ∧ node.consist.state ≠ .settled := by
  delta Accepted; decide +kernel

/-- R42: the first CHANGE of a SETTLED node takes counter 1, goes out of both ports, and leaves it in STALE. -/
theorem test_change_of_its_own :
    let t := originateChange settled3
    t.consist.changeCounter = 1#8 ∧ t.consist.state = .stale ∧ t.consist.wait = .running 4000
      ∧ t.consist.copies = [{ counter := 1#8, copies := 2, timer := 100 }]
      ∧ t.relay.changeIds.map SeenChange.id = [(0#48, 1#8)]
      ∧ t.lp1.transmitter.map (fun e => e.frame.payload) = some [0#8, 0#8, 0#8, 0#8, 0#8, 0#8, 1#8]
      ∧ t.lp2.transmitter.map (fun e => e.frame.kind) = some 0x03#8 := by decide +kernel

theorem test_witness_CensusStartsAtAHead :
    head2.powered = true ∧ (head2.port head2.censusTail).link = .up
      ∧ (let s := head2.modConsist fun c => { c with retryTimer := some 0 }
         s.consist.retryTimer ≠ none ∧ s.consist.status = .valid ∧ s.consist.conflictHold = false)
      ∧ (let s := head2.modConsist fun c => { c with retryTimer := some 0, conflictHold := true }
         s.consist.retryTimer ≠ none ∧ s.consist.conflictHold = true) := by decide +kernel

/-- A head whose tail-side port carries nothing. -/
theorem test_witness_CensusStartsAtAHead_alone :
    let s : State := { head2 with lp2 := Port.reset }
    s.powered = true ∧ (s.port s.censusTail).link ≠ .up ∧ (s.port s.censusTail).link ≠ .glitch := by decide +kernel

/-- The settled node in a consist state, with a census phase, a wait and the three census timers. -/
def inCensus (st : ConsistState) (phase : CensusPhase) (wait : CensusWait) : State :=
  settled3.modConsist fun c =>
    { c with state := st, phase := phase, wait := wait, holdTimer := some 0, rollTimer := some 0 }

theorem test_witness_CensusTimersBoundTrust :
    (inCensus .stale .none (.running 0)).consist.wait = .running 0
      ∧ (inCensus .stale .none (.running 0)).consist.state = .stale
      ∧ (∀ wait ∈ [CensusWait.stopped, .running 0, .expired],
          let s := inCensus .pending .holding wait
          let h := inCensus .pending .counting wait
          s.powered = true ∧ s.consist.holdTimer ≠ none ∧ s.consist.phase = .holding
            ∧ s.consist.state = .pending ∧ s.consist.wait = wait ∧ h.consist.rollTimer ≠ none
            ∧ h.consist.phase = .counting ∧ h.consist.state = .pending)
      ∧ (inCensus .unknown .counting .stopped).consist.state = .unknown := by decide +kernel

/-- A list of 32 entries of other identities that starts with the head. -/
def fullList : List ConsistEntry :=
  (List.range 32).map fun i => entryOf (BitVec.ofNat 48 (i + 1)) .forward (decide (i = 0))

theorem test_witness_CountDrawsANodeIn_taken :
    let es := map3.take 1
    Accepted .lp1 0x04#8 (hdr 1#8 0#8 6#8) (entriesBytes es) settled3
      ∧ (∀ e ∈ es, EntryInRange e) ∧ es.length < 32 ∧ (es.map ConsistEntry.identity).Nodup
      ∧ (∀ e ∈ es, e.identity ≠ settled3.identity) ∧ settled3.consist.status ≠ .valid
      ∧ settled3.consist.status ≠ .conflict ∧ (settled3.port PortId.lp1.other).carries = true
      ∧ (atTail.port PortId.lp1.other).carries = false := by
  delta Accepted EntryInRange; decide +kernel

theorem test_witness_CountDrawsANodeIn_plausible :
    ∃ e rest, map3.take 1 = e :: rest ∧ e.isHead = true := ⟨_, _, rfl, rfl⟩

theorem test_witness_CountDrawsANodeIn_refused :
    Accepted .lp1 0x04#8 (hdr 1#8 0#8 6#8) (entriesBytes map3) settled3
      ∧ ¬(∀ e ∈ map3, e.identity ≠ settled3.identity) := by
  delta Accepted; decide +kernel

theorem test_witness_CountDrawsANodeIn_full :
    Accepted .lp1 0x04#8 (hdr 1#8 0#8 6#8) (entriesBytes fullList) settled3
      ∧ (∀ e ∈ fullList, EntryInRange e) ∧ fullList.length = 32
      ∧ (fullList.map ConsistEntry.identity).Nodup ∧ (∀ e ∈ fullList, e.identity ≠ settled3.identity) := by
  delta Accepted EntryInRange; decide +kernel

/-- Entries that end early are none R198 takes. -/
theorem no_entry_in_nothing (n : Nat) : ¬EntriesInRange (n + 1) [] := by
  rintro ⟨_, _, _, _, _, _, _, h, -⟩
  simp [idBytes] at h

/-- A COUNT without a byte, and one that ends before its only entry; and a list of 33. -/
theorem test_witness_CountDrawsANodeIn_malformed :
    (∀ payload ∈ [[], [1#8]], Accepted .lp1 0x04#8 (hdr 1#8 0#8 6#8) payload settled3)
      ∧ (¬∃ n rest, ([] : List Byte) = n :: rest ∧ EntriesInRange n.toNat rest)
      ∧ (¬∃ n rest, [1#8] = n :: rest ∧ EntriesInRange n.toNat rest)
      ∧ (let es := fullList ++ [entryOf 33#48 .forward false]
         Accepted .lp1 0x04#8 (hdr 1#8 0#8 6#8) (entriesBytes es) settled3
           ∧ (∀ e ∈ es, EntryInRange e) ∧ es.length < 256 ∧ ¬es.length ≤ 32) := by
  refine ⟨by delta Accepted; decide +kernel, by simp, ?_, by delta Accepted EntryInRange; decide +kernel⟩
  rintro ⟨n, rest, h, he⟩
  cases h
  exact no_entry_in_nothing 0 he

/-- A node awaiting the ROLL of generation 6 at LP1, at position 2. -/
def awaiting6 : State :=
  settled3.modConsist fun c =>
    { c with phase := .awaitingRoll, arrival := some .lp2, censusPosition := 2, censusGeneration := 6#8 }

/-- A head counting generation 6. -/
def counting6 : State := head2.modConsist fun c => { c with phase := .counting, censusGeneration := 6#8 }

theorem test_witness_RollIsHeldOrEndsThePart_held :
    (∀ e ∈ map3, EntryInRange e) ∧ 1 ≤ map3.length ∧ map3.length ≤ 32
      ∧ (hdr 1#8 0#8 6#8).generation = awaiting6.consist.censusGeneration
      ∧ Accepted .lp1 0x05#8 (hdr 1#8 0#8 6#8) (rollPayload .ok map3) awaiting6
      ∧ awaiting6.consist.status ≠ .valid ∧ awaiting6.consist.phase = .awaitingRoll
      ∧ awaiting6.consist.arrival = some PortId.lp1.other ∧ (map3.map ConsistEntry.identity).Nodup
      ∧ positionIn awaiting6 map3 = awaiting6.consist.censusPosition
      ∧ Accepted .lp1 0x05#8 (hdr 1#8 0#8 6#8) (rollPayload .tooLong []) awaiting6 := by
  delta Accepted EntryInRange; decide +kernel

theorem test_witness_RollIsHeldOrEndsThePart_head :
    let es := head2.consist.activeMap
    (∀ e ∈ es, EntryInRange e) ∧ (hdr 1#8 0#8 6#8).generation = counting6.consist.censusGeneration
      ∧ Accepted .lp2 0x05#8 (hdr 1#8 0#8 6#8) (rollPayload .ok es) counting6
      ∧ Accepted .lp2 0x05#8 (hdr 1#8 0#8 6#8) (rollPayload .leadConflict []) counting6
      ∧ counting6.consist.status = .valid ∧ counting6.consist.phase = .counting
      ∧ .lp2 = counting6.censusTail ∧ (es.map ConsistEntry.identity).Nodup ∧ positionIn counting6 es = 1
      ∧ (counting6.port .lp2).carries = true := by
  delta Accepted EntryInRange; decide +kernel

/-- ROLLs that are only counted: without a byte, of status 1, ending early; out of phase, of another generation, from
the arrival port; empty, with this node at another place; and each of them at a head. -/
theorem test_witness_RollIsHeldOrEndsThePart_refused :
    (∀ payload ∈ [[], [1#8, 0#8], [0#8, 1#8]], Accepted .lp1 0x05#8 (hdr 1#8 0#8 6#8) payload awaiting6)
      ∧ (¬∃ st n rest, ([] : List Byte) = st :: n :: rest ∧ (st = 0#8 ∨ st = 2#8 ∨ st = 3#8)
          ∧ EntriesInRange n.toNat rest)
      ∧ (¬∃ st n rest, [1#8, 0#8] = st :: n :: rest ∧ (st = 0#8 ∨ st = 2#8 ∨ st = 3#8)
          ∧ EntriesInRange n.toNat rest)
      ∧ (¬∃ st n rest, [0#8, 1#8] = st :: n :: rest ∧ (st = 0#8 ∨ st = 2#8 ∨ st = 3#8)
          ∧ EntriesInRange n.toNat rest)
      ∧ (settled3.consist.phase ≠ .awaitingRoll ∧ awaiting6.consist.censusGeneration ≠ 7#8
          ∧ awaiting6.consist.arrival ≠ some PortId.lp2.other)
      ∧ (head2.consist.status = .valid ∧ head2.consist.phase ≠ .counting
          ∧ counting6.consist.censusGeneration ≠ 7#8 ∧ .lp1 ≠ counting6.censusTail)
      ∧ (Accepted .lp1 0x05#8 (hdr 1#8 0#8 6#8) (rollPayload .ok (map3.take 1)) awaiting6
          ∧ positionIn awaiting6 (map3.take 1) ≠ awaiting6.consist.censusPosition)
      ∧ (Accepted .lp2 0x05#8 (hdr 1#8 0#8 6#8) (rollPayload .ok map3) counting6
          ∧ positionIn counting6 map3 ≠ 1)
      ∧ (Accepted .lp1 0x05#8 (hdr 1#8 0#8 6#8) (rollPayload .tooLong map3) awaiting6
          ∧ Accepted .lp2 0x05#8 (hdr 1#8 0#8 6#8) (rollPayload .leadConflict map3) counting6) := by
  refine ⟨by delta Accepted; decide +kernel, by simp, ?_, ?_, by decide +kernel, by decide +kernel,
    by delta Accepted; decide +kernel, by delta Accepted; decide +kernel, by delta Accepted; decide +kernel⟩
  · rintro ⟨st, n, rest, h, hs, -⟩
    cases h
    revert hs; decide
  · rintro ⟨st, n, rest, h, -, he⟩
    cases h
    exact no_entry_in_nothing 0 he

/-- CONFIRMs that are only counted: without a byte, with two, of N 0 and 33, and any at a head; and one that a node
HOLDING another census, or a map of another length, does not take. -/
theorem test_witness_ConfirmCommits_refused :
    (∀ payload ∈ [[], [3#8, 0#8], [0#8], [33#8]], Accepted .lp1 0x06#8 (hdr 1#8 0#8 6#8) payload settled3)
      ∧ (¬∃ n, ([] : List Byte) = [n] ∧ 1 ≤ n.toNat ∧ n.toNat ≤ 32)
      ∧ (¬∃ n, [3#8, 0#8] = [n] ∧ 1 ≤ n.toNat ∧ n.toNat ≤ 32)
      ∧ (¬1 ≤ (0#8).toNat ∧ ¬(33#8).toNat ≤ 32)
      ∧ (Accepted .lp2 0x06#8 (hdr 1#8 0#8 6#8) [2#8] head2 ∧ head2.consist.status = .valid)
      ∧ (let s := settled3.modConsist fun c =>
           { c with state := .pending, phase := .holding, pendingMap := some map3, censusGeneration := 6#8 }
         Accepted .lp1 0x06#8 (hdr 1#8 0#8 7#8) [3#8] s ∧ (hdr 1#8 0#8 7#8).generation ≠ s.consist.censusGeneration
           ∧ Accepted .lp1 0x06#8 (hdr 1#8 0#8 6#8) [2#8] s
           ∧ (∀ m ∈ s.consist.pendingMap, m.length ≠ (2#8).toNat) ∧ s.consist.state ≠ .settled) := by
  refine ⟨by delta Accepted; decide +kernel, by simp, by simp, by decide,
    by delta Accepted; decide +kernel, by delta Accepted; decide +kernel⟩

theorem test_witness_ConfirmCommits :
    (let s := settled3.modConsist fun c =>
       { c with phase := .holding, pendingMap := some map3, censusGeneration := 6#8 }
     Accepted .lp1 0x06#8 (hdr 1#8 0#8 6#8) [3#8] s ∧ 1 ≤ (3#8).toNat ∧ (3#8).toNat ≤ 32
       ∧ s.consist.status ≠ .valid ∧ s.consist.phase = .holding
       ∧ (hdr 1#8 0#8 6#8).generation = s.consist.censusGeneration ∧ s.consist.pendingMap = some map3
       ∧ map3.length = (3#8).toNat ∧ (hdr 1#8 0#8 6#8).generation ≠ s.consist.generation)
      ∧ (Accepted .lp1 0x06#8 (hdr 1#8 0#8 5#8) [32#8] settled3 ∧ settled3.consist.phase ≠ .holding
          ∧ settled3.consist.state = .settled ∧ (hdr 1#8 0#8 5#8).generation = settled3.consist.generation)
      ∧ (Accepted .lp1 0x06#8 (hdr 1#8 0#8 6#8) [1#8] settled3
          ∧ (hdr 1#8 0#8 6#8).generation ≠ settled3.consist.generation) := by
  delta Accepted; decide +kernel

/-- A CONFIRM taken at position 2 of 3, and at the tail of 2. -/
theorem test_witness_ConfirmCommits_passed :
    let h := hdr 1#8 0#8 6#8
    let holding (m : List ConsistEntry) : State := settled3.modConsist fun c =>
      { c with phase := .holding, pendingMap := some m, censusGeneration := 6#8 }
    (after (.confirm .lp1 h [3#8]) (holding map3)).position < (3#8).toNat
      ∧ (2#8).toNat ≤ (after (.confirm .lp1 h [2#8]) (holding (map3.take 2))).position := by decide +kernel

theorem test_witness_SmallTimers :
    ∀ n ∈ [0, 1],
      let copy (counter : Byte) (n : Nat) : ChangeCopies := { counter := counter, copies := n, timer := 0 }
      let s := settled3.modConsist fun c => { c with copies := [copy 6#8 1, copy 7#8 (n + 1), copy 8#8 2] }
      s.powered = true ∧ s.consist.copies = [copy 6#8 1] ++ copy 7#8 (n + 1) :: [copy 8#8 2]
        ∧ (∀ x ∈ [copy 6#8 1] ++ [copy 8#8 2], x.counter ≠ 7#8 ∧ 0 < x.copies)
        ∧ (s.port .lp1).carries = true := by
  decide +kernel

/-- A SWEEP-OUT of sequence 9 at its widest. -/
def out9 : SweepOut :=
  { sequence := 9#8, period := 65535, stagger := 65535
    bits := { standstill := true, enableLeft := true, enableRight := false }
    allowance := 2000, tally := Tally.start, dSum := 65535, wSum := 65535 }

theorem test_witness_SweepOutIsLatched :
    out9.period < 65536 ∧ out9.stagger < 65536
      ∧ (∀ p ∈ [PortId.lp1, .lp2], Accepted p 0x07#8 (hdr 1#8 0#8 5#8) (sweepOutPayload out9) settled3)
      ∧ (.lp1 = settled3.headPort ∧ settled3.consist.status ≠ .valid ∧ .lp2 ≠ settled3.headPort)
      ∧ (let s := settled3.modConsist fun c => { c with status := .valid }
         Accepted .lp1 0x07#8 (hdr 1#8 0#8 5#8) (sweepOutPayload out9) s ∧ .lp1 = s.headPort
           ∧ s.consist.status = .valid) := by
  delta Accepted; decide +kernel

/-- The ranges of a SWEEP-OUT's fields, one passed on at position 2 of 3 and one turned round at the tail. -/
theorem test_witness_SweepOutIsLatched_sent :
    out9.tally.visits < 256 ∧ out9.tally.firstUnproven < 256 ∧ out9.tally.unproven < 256
      ∧ out9.tally.isolated < 65536 ∧ out9.tally.released < 256 ∧ out9.allowance < 65536
      ∧ out9.dSum < 65536 ∧ out9.wSum < 65536
      ∧ settled3.position ≠ settled3.n ∧ (settled3.port settled3.tailPort).carries = true
      ∧ Accepted .lp1 0x07#8 (hdr 1#8 0#8 5#8) (sweepOutPayload out9) atTail ∧ .lp1 = atTail.headPort
      ∧ atTail.consist.status ≠ .valid ∧ atTail.position = atTail.n := by
  delta Accepted; decide +kernel

/-- Sweeps one byte short and one byte long, on either port. -/
theorem test_witness_SweepOutIsLatched_malformed :
    ∀ p ∈ [PortId.lp1, .lp2],
      (∀ n ∈ [18, 20], Accepted p 0x07#8 (hdr 1#8 0#8 5#8) (List.replicate n 0#8) settled3
          ∧ (List.replicate n 0#8).length ≠ 19)
        ∧ (∀ n ∈ [9, 11], Accepted p 0x08#8 (hdr 1#8 0#8 5#8) (List.replicate n 0#8) settled3
            ∧ (List.replicate n 0#8).length ≠ 10)
        ∧ .lp1 = settled3.headPort ∧ .lp2 = settled3.tailPort := by
  delta Accepted; decide +kernel

/-- Sections 4.3 and 4.4: the tail turns the sweep round, with its own visit counted and, without heating, R = B. -/
theorem test_sweep_turned_round :
    ((after (.sweepOut .lp1 (hdr 1#8 0#8 5#8) (sweepOutPayload out9)) atTail).lp1.transmitter.map fun e =>
        (e.frame.kind, (readSweepBack e.frame.payload).map fun b => (b.sequence, b.tally.visits, b.allowance))) =
      some (0x08#8, some (9#8, 1, 2000)) := by decide +kernel

/-- A SWEEP-BACK of sequence 9 at its widest. -/
def back9 : SweepBack :=
  { sequence := 9#8, allowance := 2000
    tally := { visits := 255, provenAll := true, firstUnproven := 255, unproven := 255, isolated := 65535
               released := 255 } }

/-- R198: of the tallies of two visits with proven-all set, one with an unproven vehicle, one with a released one, and
one with more than 16 isolated leaves prove nothing; 16 isolated leaves do. -/
theorem test_tallies_that_prove_a_train :
    let t : Tally := { Tally.start with visits := 2 }
    ({ t with isolated := 16 }.provesTrain 2 = true)
      ∧ ∀ x ∈ [{ t with unproven := 1, firstUnproven := 1 }, { t with released := 1 }, { t with isolated := 17 },
               { t with visits := 1 }, { t with provenAll := false }], x.provesTrain 2 = false := by decide

theorem test_witness_SweepBackIsTakenOrPassed :
    back9.allowance ≤ 2000 ∧ back9.tally.visits < 256 ∧ back9.tally.firstUnproven < 256
      ∧ back9.tally.unproven < 256 ∧ back9.tally.isolated < 65536 ∧ back9.tally.released < 256
      ∧ (let s : State := { head2 with sweep := { head2.sweep with outstanding := some 9#8 } }
         Accepted .lp2 0x08#8 (hdr 1#8 0#8 5#8) (sweepBackPayload back9) s ∧ .lp2 = s.tailPort
           ∧ s.consist.status = .valid ∧ s.sweep.outstanding = some back9.sequence)
      ∧ (Accepted .lp2 0x08#8 (hdr 1#8 0#8 5#8) (sweepBackPayload back9) head2
          ∧ head2.sweep.outstanding ≠ some back9.sequence)
      ∧ (let s : State :=
           { settled3 with sweep := { settled3.sweep with latch := some { sequence := 8#8, returned := false } } }
         Accepted .lp2 0x08#8 (hdr 1#8 0#8 5#8) (sweepBackPayload back9) s ∧ .lp2 = s.tailPort
           ∧ s.consist.status ≠ .valid ∧ (s.port s.headPort).carries = true
           ∧ ∀ l ∈ s.sweep.latch, l.sequence ≠ back9.sequence ∨ l.returned = true) := by
  delta Accepted; decide +kernel

/-- A SWEEP-BACK that matches the latch, with a heat latch of its sequence, of another one and with none; and one
on the head-side port. -/
theorem test_witness_SweepBackIsTakenOrPassed_matching :
    (∀ l ∈ [none, some 8#8, some 9#8],
        let latch (sequence : Byte) : HeatLatch :=
          { sequence := sequence, dPre := 0, wPre := 0, demand := 0, weight := 0, requested := [] }
        let s : State :=
          { settled3 with
            sweep := { settled3.sweep with latch := some { sequence := 9#8, returned := false } }
            heat := { settled3.heat with latch := l.map latch } }
        Accepted .lp2 0x08#8 (hdr 1#8 0#8 5#8) (sweepBackPayload back9) s ∧ .lp2 = s.tailPort
          ∧ s.consist.status ≠ .valid
          ∧ s.sweep.latch = some { sequence := back9.sequence, returned := false }
          ∧ s.heat.latch = l.map latch)
      ∧ (Accepted .lp1 0x08#8 (hdr 1#8 0#8 5#8) (sweepBackPayload back9) settled3
          ∧ .lp1 ≠ settled3.tailPort) := by
  delta Accepted; decide +kernel

/-- R158: an unmatched return takes a group heating at 2 to 0, and one that is off stays as it is. -/
theorem test_unmatched_return_sheds :
    let group (n : Nat) : Group := { commanded := n, settled := true, mismatch := 0, fault := none }
    let s : State :=
      { settled3 with
        store := { settled3.store with content :=
          { settled3.store.content with groups := [groupCfg [10, 10], groupCfg [10]] } }
        heat := { settled3.heat with
          groups := [group 2, group 0], take := 20, increase := some { targets := [2, 1], phase := .waiting 5 } } }
    let t := after (.sweepBack .lp2 (hdr 1#8 0#8 5#8) (sweepBackPayload back9)) s
    t.heat.groups = [{ group 0 with settled := false }, group 0] ∧ t.heat.take = 0
      ∧ t.heat.increaseDiscard = 1 ∧ t.bus.heatQueue.map (fun e => e.op) = [.write 6#8 1#8 [0#8]] := by
  decide +kernel

/-- A head alone, SETTLED: its sweeps are local. -/
def headAlone : State :=
  { head2 with
    lp2 := Port.reset, consist := { head2.consist with activeMap := [entryOf 0#48 .forward true] } }

/-- Launches of a head of two, of one with its tail-side port DOWN and of a head alone; and one whose cab station is
lost at its own round start. -/
theorem test_witness_PeriodRunOutLaunchesWhatR67Builds_launch :
    (∀ s ∈ [head2, { head2 with lp2 := Port.reset }, headAlone],
        s.confirmedHead = true ∧ s.bus.cab = none ∧ s.cabServed = true
          ∧ (outwardStart (builtSweep s) (useSequence s)).confirmedHead = true
          ∧ (outwardStart (builtSweep s) (useSequence s)).bus.outbound.length < 16)
      ∧ head2.n ≠ 1 ∧ headAlone.n = 1 ∧ (headAlone.port headAlone.tailPort).carries = false
      ∧ (let s : State :=
           { head2 with
             bus := { head2.bus with
               silence := 9
               cab := some { CabEntry.fresh with tally := { ended := true, answered := false } } } }
         s.confirmedHead = true
           ∧ (outwardStart (builtSweep s) (useSequence s)).confirmedHead = false) := by decide +kernel

/-- Section 4.2: a head's first sweep goes to its tail-side port with the head's own visit, is outstanding and timed
with the period it carries. -/
theorem test_launch_sends_a_sweep :
    let t := launch head2
    ((t.lp2.transmitter.map fun e => (e.frame.kind, (readSweepOut e.frame.payload).map fun f =>
        (f.sequence, f.period, f.tally.visits))) = some (0x07#8, some (0#8, 100, 1)))
      ∧ t.sweep.outstanding = some 0#8 ∧ t.sweep.periodTimer = some 100 := by decide +kernel

theorem test_witness_PeriodRunOutLaunchesWhatR67Builds :
    (∀ q ∈ [none, some 9#8],
        let s : State := { head2 with sweep := { head2.sweep with periodTimer := some 0, outstanding := q } }
        s.powered = true ∧ s.sweep.periodTimer ≠ none ∧ s.confirmedHead = true ∧ s.sweep.outstanding = q
          ∧ 1 < s.n ∧ s.cabServed = true ∧ s.bus.outbound.length < 16)
      ∧ settled3.confirmedHead = false := by decide +kernel

/-- The settled node with leaves in states, on alternating sides from A, enabled on the left at a standstill. -/
def enabled (states : List LeafState) : State :=
  let s := withLeaves settled3 states
  { s with
    pins := { s.pins with standstill := true }
    sweep :=
      { s.sweep with
        freshness := some 1, bits := { standstill := true, enableLeft := true, enableRight := false } } }

/-- A release on the left of position 2 alone. -/
def release2 : Release := { serial := 9#8, side := .left, first := 2, last := 2, outside := false }

theorem test_witness_ReleaseActsOnQualifyingLeaves :
    let s := enabled [.closed, .closed]
    1 ≤ release2.first ∧ release2.first ≤ release2.last ∧ release2.last ≤ 32
      ∧ (∀ p ∈ [PortId.lp1, .lp2], Accepted p 0x09#8 (hdr 1#8 255#8 5#8) (releasePayload release2) s)
      ∧ (.lp1 = s.headPort ∧ .lp2 ≠ s.headPort ∧ s.relay.lastSerial ≠ some release2.serial)
      ∧ (s.sweep.freshness ≠ none ∧ s.sweep.bits.standstill = true ∧ s.pins.standstill = true
          ∧ s.sweep.bits.enableLeft = true ∧ release2.first ≤ s.position ∧ s.position ≤ release2.last)
      ∧ (s.orientation = some .forward ∧ vehicleSide .forward release2.side = .a
          ∧ s.leaf 1 = some (leafIn .closed) ∧ (s.store.content.leaves[0]?).map LeafConfig.side = some .a
          ∧ s.leaf 2 = some (leafIn .closed) ∧ (s.store.content.leaves[1]?).map LeafConfig.side = some .b) := by
  delta Accepted; decide +kernel

theorem test_witness_ReleaseActsOnQualifyingLeaves_repeated :
    let s : State := { enabled [] with relay := { settled3.relay with lastSerial := some 9#8 } }
    Accepted .lp1 0x09#8 (hdr 1#8 255#8 5#8) (releasePayload release2) s ∧ .lp1 = s.headPort
      ∧ s.relay.lastSerial = some release2.serial := by
  delta Accepted; decide +kernel

/-- Releases that R198 refuses, on either port: too short, of side 3, from 0, backwards, to 33, with outside 2; and
closes: too long, and of the mask bits 2 to 7 alone. -/
theorem test_witness_ReleaseActsOnQualifyingLeaves_malformed :
    (∀ p ∈ [PortId.lp1, .lp2], ∀ payload ∈ [[9#8, 1#8, 2#8, 2#8], [9#8, 3#8, 2#8, 2#8, 0#8], [9#8, 1#8, 0#8, 2#8, 0#8],
          [9#8, 1#8, 3#8, 2#8, 0#8], [9#8, 1#8, 2#8, 33#8, 0#8], [9#8, 1#8, 2#8, 2#8, 2#8]],
        Accepted p 0x09#8 (hdr 1#8 255#8 5#8) payload settled3 ∧ readRelease payload = none)
      ∧ (∀ payload ∈ [[9#8, 1#8, 0#8], [9#8, 0xFC#8]],
          Accepted .lp1 0x0A#8 (hdr 1#8 255#8 5#8) payload settled3
            ∧ (payload.length ≠ 2
              ∨ ((payload.getD 1 0#8).getLsbD 0 = false ∧ (payload.getD 1 0#8).getLsbD 1 = false))) := by
  delta Accepted; decide +kernel

/-- A payload of four bytes is that of no release. -/
theorem test_witness_ReleaseActsOnQualifyingLeaves_short :
    ∀ r : Release, 1 ≤ r.first → r.first ≤ r.last → r.last ≤ 32 → [9#8, 1#8, 2#8, 2#8] ≠ releasePayload r := by
  intro r _ _ _ h
  have := congrArg List.length h
  simp [releasePayload] at this

theorem test_witness_CloseActsOnCoveredLeaves :
    let open3 := enabled [.released, .closed, .reopening]
    let s : State :=
      { open3 with bus := { open3.bus with doorQueue := List.replicate 13 (doorEntry .waiting .unstarted) } }
    let c : Close := { serial := 1#8, left := true, right := false }
    (c.left = true ∨ c.right = true) ∧ Accepted .lp1 0x0A#8 (hdr 1#8 255#8 5#8) (closePayload c) s
      ∧ s.bus.doorQueue.length + s.door.leaves.length ≤ 16
      ∧ s.orientation = some .forward ∧ vehicleSide .forward .left = .a
      ∧ s.leaf 1 = some (leafIn .released) ∧ (s.store.content.leaves[0]?).map LeafConfig.side = some .a
      ∧ s.leaf 2 = some (leafIn .closed)
      ∧ s.leaf 3 = some (leafIn .reopening) ∧ (s.store.content.leaves[2]?).map LeafConfig.side = some .a := by
  delta Accepted; decide +kernel

theorem test_witness_LeafTimersDriveTheCloseSequence :
    (∀ st ∈ [LeafState.warning, .reopening, .closing],
        let one := withLeaves node [st]
        let s : State :=
          { one with bus := { one.bus with doorQueue := List.replicate 15 (doorEntry .waiting .unstarted) } }
        s.powered = true ∧ s.leaf 1 = some (leafIn st) ∧ (leafIn st).timer ≠ none
          ∧ s.store.content.leaves[0]? = some (leafCfg .a) ∧ s.bus.doorQueue.length < 16
          ∧ (leafIn st).attempts = 0)
      ∧ (let l : Leaf := { leafIn .closing with attempts := 1 }
         let s : State := { withLeaves node [.closing] with door := { node.door with leaves := [l] } }
         s.leaf 1 = some l ∧ l.state = .closing ∧ 0 < l.attempts ∧ l.timer ≠ none) := by decide +kernel

/-- The read of leaf 1's status in flight, the leaf in a state with its close mark and attempts. -/
def readingLeaf (l : Leaf) : State :=
  let s := withLeaves node [l.state]
  { s with
    door := { s.door with leaves := [l] }
    bus :=
      { s.bus with
        flight := some (.poll { station := 4#8, item := 2#8, mode := .once, dest := .leafStatus 1 } 1 .current)
        pointer := some 0, records := [{ dest := .leafStatus 1, value := none, age := 255 }]
        doorQueue := List.replicate 15 (doorEntry .waiting .unstarted) } }

/-- A leaf of each state, CLOSING with and without its close mark and with and without attempts, read with
every status and beyond. -/
theorem test_witness_LeafTimersDriveTheCloseSequence_read :
    (∀ l ∈ [leafIn .start, leafIn .closed, leafIn .closing, leafIn .fault, leafIn .released, leafIn .warning,
          leafIn .reopening, leafIn .isolated, { leafIn .closing with closeMark := true },
          { leafIn .closing with closeMark := true, attempts := 1 }],
        let s := readingLeaf l
        s.powered = true ∧ s.bus.flight.isSome ∧ s.bus.pointer = some 0
          ∧ s.record (.leafStatus 1) ≠ none ∧ s.leaf 1 = some l
          ∧ s.store.content.leaves[0]? = some (leafCfg .a) ∧ s.bus.doorQueue.length < 16
          ∧ s.store.content.warning ≠ 0)
      ∧ (List.replicate 15 0#8).length ≤ 15
      ∧ 5 < (6#8).toNat ∧ (255#8 ≠ 2#8 ∧ 255#8 ≠ 3#8 ∧ 255#8 ≠ 1#8)
      ∧ ({ node.store.content with warning := 0 } : Content).warning = 0 := by decide +kernel

theorem test_witness_TallyStepsOfAVehicle :
    node.door.vehicleProof = false
      ∧ ({ node with door := { node.door with vehicleProof := true } } : State).door.vehicleProof = true
      ∧ (∃ l ∈ (withLeaves node [.isolated, .start]).door.leaves, l.state ≠ .closed ∧ l.state ≠ .isolated)
      ∧ ∀ l ∈ (withLeaves node [.isolated, .closed]).door.leaves, l.state = .closed ∨ l.state = .isolated := by
  decide +kernel

/-- A group with a commanded count. -/
def groupAt (commanded : Nat) (fault : Option GroupFault) : Group where
  commanded := commanded
  settled := true
  mismatch := 0
  fault := fault

/-- The node with one group of four stages and a request record of an age. -/
def withGroup (x : Group) (value : Option (List Byte)) (age : Nat) : State :=
  { node with
    heat := { node.heat with groups := [x] }
    store :=
      { node.store with content := { node.store.content with groups := [groupCfg [35, 35, 35, 35]] } }
    bus := { node.bus with records := [{ dest := .groupRequest 1, value := value, age := age }] } }

theorem test_witness_RequestedStages :
    (∀ b ∈ [4#8, 5#8],
        let s := withGroup (groupAt 0 none) (some [b]) 2
        s.group 1 = some (groupAt 0 none) ∧ s.groupConfig 1 = some (groupCfg [35, 35, 35, 35])
          ∧ s.record (.groupRequest 1) = some { dest := .groupRequest 1, value := some [b], age := 2 }
          ∧ 2 ≤ 2 ∧ (groupAt 0 none).fault = none)
      ∧ (4#8).toNat ≤ 4 ∧ 4 < (5#8).toNat
      ∧ (let s := withGroup (groupAt 0 none) (some [4#8]) 3
         s.record (.groupRequest 1) = some { dest := .groupRequest 1, value := some [4#8], age := 3 } ∧ 2 < 3)
      ∧ (groupAt 0 (some .feedback)).fault ≠ none := by decide +kernel

theorem test_witness_HeatShareOfALatch :
    (∃ l : HeatLatch, l.demand = 0)
      ∧ (let l : HeatLatch :=
           { sequence := 1#8, dPre := 310, wPre := 10, demand := 140, weight := 4, requested := [4] }
         l.demand ≠ 0 ∧ min (l.dPre + l.demand) 65535 ≤ 450 ∧ 449 < min (l.dPre + l.demand) 65535
           ∧ 450 ≤ 2000) :=
  ⟨⟨{ sequence := 1#8, dPre := 0, wPre := 0, demand := 0, weight := 0, requested := [] }, rfl⟩, by decide⟩

/-- The outward pass with no increase, one STAGGERING, one WAITING at position 2 and at position 1. -/
theorem test_witness_HeatShareOfALatch_outward :
    let s := withGroup (groupAt 1 none) (some [4#8]) 0
    let pending (phase : IncreasePhase) (s : State) : State :=
      { s with heat := { s.heat with increase := some { targets := [4], phase := phase } } }
    s.store.content.groups.length = s.heat.groups.length ∧ s.heat.increase = none
      ∧ (pending (.staggering 1) s).heat.increase = some { targets := [4], phase := .staggering 1 }
      ∧ (pending (.waiting 1) s).heat.increase = some { targets := [4], phase := .waiting 1 }
      ∧ (settled3.position - 1) * settled3.sweep.latchedStagger.getD 100 ≠ 0
      ∧ (head2.position - 1) * head2.sweep.latchedStagger.getD 100 = 0
      ∧ (pending (.waiting 1) s).heat.groups.length = [4].length
      ∧ (pending (.waiting 1) s).heat.groups[0]? = some (groupAt 1 none) ∧ [4][0]? = some 4 := by
  decide +kernel

/-- Section 9.13's return at position 2: at level 2 the first group's stage is above what is left, at level 3
the second's, and the first group has stopped. -/
theorem test_witness_StageFittingSpendsTheShare :
    let fits : List Fit :=
      [{ currents := [50, 50], want := 2, fitted := 0, stopped := false },
       { currents := [30, 30, 30], want := 3, fitted := 0, stopped := false }]
    let done := fitStages fits 138
    (∀ f ∈ fits, f.fitted = 0 ∧ f.stopped = false)
      ∧ (∀ f ∈ done.1, f.want ≤ 6 ∧ f.want ≤ f.currents.length)
      ∧ (done.1[0]?).map (fun f => (f.want, f.fitted, f.currents[2 - 1]?)) = some (2, 2, some 50)
      ∧ (done.1[1]?).map (fun f => (f.want, f.fitted, f.currents[2 - 1]?)) = some (3, 1, some 30)
      ∧ (let s := withGroup (groupAt 3 none) (some [4#8]) 0
         let l : HeatLatch :=
           { sequence := 1#8, dPre := 310, wPre := 10, demand := 140, weight := 4, requested := [4] }
         s.store.content.groups[0]? = some (groupCfg [35, 35, 35, 35])
           ∧ s.heat.groups[0]? = some (groupAt 3 none) ∧ l.requested[0]? = some 4) := by decide +kernel

/-- A return that lowers and one that raises the group's count, with no increase, with one whose target lies
above the fitted count, and with one whose target is reached. -/
theorem test_witness_AllottedReturnLowersRByTheTake :
    let l : HeatLatch := { sequence := 1#8, dPre := 310, wPre := 10, demand := 140, weight := 4, requested := [4] }
    ∀ commanded ∈ [1, 3], ∀ targets ∈ [none, some [4], some [2]],
      let x := groupAt commanded none
      let one := withGroup x (some [4#8]) 0
      let s : State :=
        { one with
          heat := { one.heat with increase := targets.map fun t => { targets := t, phase := .waiting 1 } } }
      let fitted := (fitStages (fitsOf s l) (heatShare l 300)).1.map Fit.fitted
      300 ≤ 2000 ∧ s.heat.groups[0]? = some x ∧ ((allottedReturn l 300 s).2.heat.groups[0]?).isSome
        ∧ fitted = [2] ∧ (s.groupConfig 1).isSome ∧ (1 < 2 ∧ ¬3 < 2) ∧ (2 < 4 ∧ ¬2 < 2)
        ∧ s.heat.increase.map Increase.targets = targets := by
  decide +kernel

/-- The node with one group, a pending increase and a hold. -/
def heating (phase : IncreasePhase) (allotted : Bool) : State :=
  let s := withGroup (groupAt 1 none) none 255
  { s with
    heat :=
      { s.heat with
        increase := some { targets := [4], phase := phase }, allotted := allotted, hold := some 1 } }

theorem test_witness_HeatTimersAndSupplyFall :
    (heating (.waiting 1) false).heat.increase = some { targets := [4], phase := .waiting 1 }
      ∧ (let s := heating (.staggering 1) true
         s.powered = true ∧ s.heat.increase = some { targets := [4], phase := .staggering 1 }
           ∧ s.heat.groups.length = [4].length ∧ s.store.content.groups.length = s.heat.groups.length
           ∧ s.heat.groups[0]? = some (groupAt 1 none) ∧ [4][0]? = some 4
           ∧ s.heat.hold ≠ none ∧ s.heat.allotted = true)
      ∧ (heating (.waiting 1) false).heat.hold ≠ none ∧ (heating (.waiting 1) false).heat.allotted = false
      ∧ ({ node with pins := { node.pins with supply := true } } : State).pins.supply = true := by
  decide +kernel

theorem test_witness_VehicleProofConditions :
    let s := withLeaves { node with store := { node.store with validity := none } } [.closed]
    let record (b : Byte) : State :=
      { s with bus := { s.bus with records := [{ dest := .leafStatus 1, value := some [b], age := 2 }] } }
    (evalVehicleProof (record 1#8)).door.vehicleProof = true
      ∧ (evalVehicleProof (record 4#8)).door.vehicleProof = false := by decide +kernel

/-- A poll entry, and the node with its read in flight. -/
def poll9 : PollEntry := { station := 4#8, item := 2#8, mode := .once, dest := .leafStatus 1 }

def polling : State :=
  { node with bus := { node.bus with flight := some (.poll poll9 1 .current), pointer := some 0 } }

theorem test_witness_PollReadEnds :
    polling.powered = true ∧ polling.bus.flight = some (.poll poll9 (0 + 1) .current)
      ∧ polling.bus.pointer = some 0 ∧ 1 ≤ [0#8].length ∧ (List.replicate 16 0#8).length ≤ 16
      ∧ 5#8 ≠ poll9.station ∧ 16 < (List.replicate 17 0#8).length ∧ poll9.mode ≠ .persist := by
  decide +kernel

/-- The poll read of the tests in a mode, with its persist timeout as given. -/
def pollingIn (mode : PollMode) (persist : Persist) : State :=
  { polling with
    bus := { polling.bus with
      flight := some (.poll { poll9 with mode := mode } 1 .current), pollPersist := persist } }

theorem test_witness_PollReadEnds_modes :
    (∀ mode ∈ [PollMode.once, .accept, .persist], ∀ persist ∈ [Persist.running 1, .expired],
        let s := pollingIn mode persist
        s.powered = true ∧ s.bus.flight = some (.poll { poll9 with mode := mode } (0 + 1) .current)
          ∧ s.bus.pointer = some 0 ∧ s.bus.pollPersist = persist)
      ∧ Persist.running 1 ≠ .expired := by decide +kernel

/-- A notice-on-change read against a record with another value, with the same one and with none. -/
theorem test_witness_PollReadEnds_change :
    ∀ v ∈ [some [1#8], some [2#8], none],
      let e : PollEntry := { poll9 with dest := .noticeOnChange }
      let held : StatusRecord := { dest := .noticeOnChange, value := v, age := 0 }
      let s : State :=
        { polling with bus := { polling.bus with flight := some (.poll e 1 .current), records := [held] } }
      s.bus.flight = some (.poll e (0 + 1) .current) ∧ s.record .noticeOnChange = some held
        ∧ (v = some [1#8] ∧ [1#8] ≠ [2#8] ∨ v = some [2#8] ∨ v = none) := by decide +kernel

/-- A PERSIST write of a class in its place between two others. -/
def retrying (cls : QueueClass) (owner : Owner) (phase : EntryPhase) (persist : Persist) (flight : Bool) : State :=
  let e : QueueEntry := { doorEntry phase persist with owner := owner }
  let other := doorEntry .waiting .unstarted
  { node with
    bus := { node.bus.withQueue cls [other, e, other] with
      flight := if flight then some (.queue cls) else none } }

/-- Each class with its entry in flight, in a retry wait, and with its persist timeout running or run out. -/
theorem test_witness_PersistWriteRetries :
    ∀ x ∈ [(QueueClass.door, Owner.leaf 1), (.heat, .group 1), (.remote, .remote cab)],
      ∀ y ∈ [(EntryPhase.inFlight, Persist.running 1, true), (.inFlight, .expired, true),
          (.retryWait 2, .running 1, false)],
        let s := retrying x.1 x.2 y.1 y.2.1 y.2.2
        let e : QueueEntry := { doorEntry y.1 y.2.1 with owner := x.2 }
        let other := doorEntry .waiting .unstarted
        s.powered = true ∧ s.bus.queue x.1 = [other] ++ e :: [other] ∧ e.mode = .persist 200
          ∧ e.op = .write 4#8 1#8 [2#8] ∧ (s.bus.flight = if y.2.2 then some (.queue x.1) else none)
          ∧ (∀ z ∈ [other], z.phase ≠ .inFlight) ∧ 1 ≤ [0#8].length
          ∧ (List.replicate 16 0#8).length ≤ 16 := by decide +kernel

/-- A READY to a WRITE carries no data (R80); the entry of the witness above is a WRITE. -/
theorem test_witness_PersistWriteRetries_write :
    ∃ station item bytes, (doorEntry .inFlight .unstarted).op = .write station item bytes := ⟨_, _, _, rfl⟩

/-- A queue behind a walk that runs, and one whose front is none. -/
theorem test_witness_PersistWriteRetries_walk :
    (∃ next last roster, ({ doorEntry .waiting .unstarted with op := .walk 2#8 30#8 true [] } : QueueEntry).op =
        .walk next last true roster)
      ∧ ¬∃ next last roster, (doorEntry .waiting .unstarted).op = .walk next last true roster :=
  ⟨⟨_, _, _, rfl⟩, nofun⟩

theorem test_witness_PersistWriteRetries_poll :
    (let s : State := { node with bus := { node.bus with pollRetry := some 1 } }
     s.powered = true ∧ s.bus.pollRetry ≠ none)
      ∧ (let s : State := { polling with bus := { polling.bus with pollPersist := .running 1 } }
         s.bus.pollPersist = .running 1 ∧ s.bus.flight = some (.poll poll9 1 .current))
      ∧ (let s : State :=
           { node with
             store := { node.store with content := { node.store.content with polls := [poll9] } }
             bus := { node.bus with pollPersist := .running 1, pointer := some 0 } }
         s.bus.flight = none ∧ s.bus.pointer = some 0 ∧ s.store.content.polls[0]? = some poll9) := by
  decide +kernel

/-- The owners of a write: no leaf any longer, leaf 1 in CLOSING, FAULT and another state, group 1 with and
without a fault. -/
theorem test_witness_PersistWriteRetries_owner :
    (∀ st ∈ [LeafState.closing, .fault, .isolated, .warning],
        (withLeaves node [st]).leaf 1 = some (leafIn st))
      ∧ (∀ fault ∈ [none, some GroupFault.feedback],
          let s := withGroup (groupAt 1 fault) none 255
          s.group 1 = some (groupAt 1 fault) ∧ s.groupConfig 1 = some (groupCfg [35, 35, 35, 35])) := by
  decide +kernel

/-- A heat write of group 1 that finds one in flight, and one that finds two waiting behind one of group 2. -/
theorem test_witness_PersistWriteRetries_heat :
    let of (g : Nat) (phase : EntryPhase) : QueueEntry := { doorEntry phase (.running 1) with owner := .group g }
    let s : State := retrying .heat (.group 1) .inFlight (.running 1) true
    s.bus.flight ≠ none
      ∧ (∀ x ∈ s.bus.heatQueue, ¬(x.owner = .group 1 ∧ x.phase ≠ .inFlight))
      ∧ (of 1 (.retryWait 1)).owner = .group 1 ∧ (of 1 (.retryWait 1)).phase ≠ .inFlight
      ∧ ∀ x ∈ [of 2 .waiting], ¬(x.owner = .group 1 ∧ x.phase ≠ .inFlight) := by decide +kernel

theorem test_witness_ArbiterTakesTheClassesInOrder :
    let e := doorEntry .waiting .unstarted
    let s : State :=
      { node with
        bus :=
          { node.bus with
            doorQueue := [e], heatQueue := [e], remoteQueue := [e]
            cab := some { writing := false, readsLeft := 4, writesLeft := 4
                          tally := { ended := false, answered := false } } } }
    polling.bus.flight = some (.poll poll9 1 .current) ∧ s.bus.flight = none
      ∧ startFirst [] s.bus.doorQueue = some [e.started] ∧ startFirst [] node.bus.doorQueue = none
      ∧ startFirst [] s.bus.heatQueue = some [e.started] ∧ startFirst [] node.bus.heatQueue = none
      ∧ nextCabTransfer s.bus = some .read ∧ nextCabTransfer node.bus = none
      ∧ startFirst [] s.bus.remoteQueue = some [e.started]
      ∧ (∀ x ∈ [doorEntry .inFlight (.running 1)], x.phase = .inFlight) ∧ e.phase = .waiting := by
  decide +kernel

/-- Class 5 with a poll entry at the pointer, with one in a retry wait, and past the end. -/
theorem test_witness_ArbiterTakesTheClassesInOrder_poll :
    let b : Bus := { node.bus with round := .inProgress, pointer := some 0 }
    let content : Content := { node.store.content with polls := [poll9] }
    let s : State := { node with bus := b, store := { node.store with content := content } }
    s.bus.flight = none ∧ startFirst [] s.bus.doorQueue = none ∧ startFirst [] s.bus.heatQueue = none
      ∧ nextCabTransfer s.bus = none ∧ startFirst [] s.bus.remoteQueue = none
      ∧ s.bus.round = .inProgress ∧ s.bus.pollRetry = none ∧ s.bus.pointer = some 0
      ∧ s.store.content.polls[0]? = some poll9 ∧ s.store.content.polls.length ≤ 1
      ∧ (∀ c ∈ [true, false],
          let x : CabEntry :=
            { writing := c, readsLeft := 4, writesLeft := 4, tally := { ended := false, answered := false } }
          ({ b with cab := some x } : Bus).cab = some x ∧ x.writing = c) := by
  decide +kernel

/-- An entry behind one in a retry wait of another item and one held back behind it, and a walk behind the two. -/
theorem test_witness_ArbiterTakesTheClassesInOrder_queue :
    let wait := doorEntry (.retryWait 2) (.running 5)
    let later := doorEntry .waiting .unstarted
    let next : QueueEntry := { later with op := .write 5#8 1#8 [2#8] }
    let walk : QueueEntry := { later with op := .walk 1#8 30#8 false [], mode := .once }
    (∀ before e after, [wait, later] = before ++ e :: after →
        e.phase ≠ .waiting ∨ ∃ x ∈ before, (∃ left, x.phase = .retryWait left) ∧ x.op.address = e.op.address)
      ∧ (∀ e ∈ [next, walk], e.phase = .waiting
          ∧ ¬∃ x ∈ [wait, later], (∃ left, x.phase = .retryWait left) ∧ x.op.address = e.op.address)
      ∧ (∀ x ∈ [wait, later], x.phase ≠ .inFlight)
      ∧ (∀ a b c r, next.op ≠ .walk a b c r) ∧ walk.op = .walk 1#8 30#8 false [] ∧ walk.mode = .once
      ∧ later.mode = .persist 200 ∧ later.persist = .unstarted ∧ wait.persist ≠ .unstarted := by
  refine ⟨?_, ?_, by decide, nofun, rfl, rfl, rfl, rfl, by decide⟩
  · rintro (_ | ⟨a, _ | ⟨b, before⟩⟩) e after h
    · rw [← (List.cons.inj h).1]
      exact .inl (by decide)
    · rw [← (List.cons.inj h).1, ← (List.cons.inj (List.cons.inj h).2).1]
      exact .inr ⟨_, List.mem_singleton_self _, ⟨2, rfl⟩, rfl⟩
    · simp at h
  · intro e he
    simp only [List.mem_cons, List.not_mem_nil, or_false] at he
    rcases he with rfl | rfl <;> refine ⟨rfl, ?_⟩ <;> simp [doorEntry, BusOp.address]

/-- A round in progress at the last entry of the list and past its end; with its cab service in flight. -/
theorem test_witness_RoundStartAgesRecords :
    node.powered = true ∧ node.bus.roundTimer ≠ none ∧ node.bus.round ≠ .inProgress
      ∧ (∀ i ∈ [0, 1],
          let s : State :=
            { node with
              store := { node.store with content := { node.store.content with polls := [poll9] } }
              bus := { node.bus with round := .inProgress, pointer := some i } }
          s.store.content.polls ≠ [] ∧ s.bus.round = .inProgress ∧ s.bus.pointer = some i
            ∧ (i < s.store.content.polls.length ↔ i = 0))
      ∧ (let c : CabEntry := { writing := false, readsLeft := 4, writesLeft := 4
                               tally := { ended := false, answered := false } }
         let s : State := { node with bus := { node.bus with cab := some c, flight := some (.cab .read none) } }
         s.bus.flight = some (.cab .read none) ∧ s.bus.cab = some c) := by
  decide +kernel

/-- Group 1 in group fault, unsettled, without fresh feedback, and with a feedback that agrees and one that
does not, the mismatch count at 0 and at 2. -/
theorem test_witness_RoundStartAgesRecords_feedback :
    let one (x : Group) (age : Nat) : State :=
      let s := withGroup x none 255
      { s with bus := { s.bus with records := [{ dest := .groupFeedback 1, value := some [1#8], age := age }] } }
    (groupAt 0 (some .feedback)).fault = some .feedback
      ∧ (∀ x ∈ [groupAt 1 none, { groupAt 1 none with settled := false }, groupAt 2 none,
            { groupAt 2 none with mismatch := 2 }], ∀ age ∈ [1, 2],
          (one x age).group 1 = some x ∧ (one x age).groupConfig 1 = some (groupCfg [35, 35, 35, 35])
            ∧ x.fault = none ∧ x.mismatch < 3
            ∧ (one x age).record (.groupFeedback 1) =
                some { dest := .groupFeedback 1, value := some [1#8], age := age })
      ∧ (1#8).toNat = (groupAt 1 none).commanded ∧ (1#8).toNat ≠ (groupAt 2 none).commanded := by
  decide +kernel

theorem test_witness_AnswersGoBackToTheSource :
    (let last : CabFrame := { bytes := [], mark := .plain }
     let s : State := { node with bus := { node.bus with outbound := List.replicate 15 last } }
     s.cabServed = true ∧ s.bus.outbound.length < 16 ∧ 16 ≤ (last :: s.bus.outbound).length)
      ∧ node.consist.state ≠ .settled ∧ settled3.consist.state = .settled
      ∧ (1#8).toNat ≠ settled3.position ∧ (2#8).toNat = settled3.position
      ∧ settled3.cabServed = true ∧ settled3.bus.outbound.length < 16 := by decide +kernel

/-- With power and no reset pending, a request of the cab and one of another position are executed. -/
theorem test_witness_executable :
    (∀ s ∈ [node, settled3, head2, resetIn .idle], s.powered = true)
      ∧ Executable cab node ∧ Executable line node ∧ Executable line settled3 ∧ Executable cab head2 :=
  ⟨by decide +kernel, ⟨rfl, rfl, nofun⟩, ⟨rfl, rfl, by simp [line]⟩, ⟨rfl, rfl, by simp [line]⟩,
    ⟨rfl, rfl, nofun⟩⟩

/-- An entry of the table of R107 with a number. -/
def aliasOf (number : Byte) : AliasEntry :=
  { number := number, vehicle := .identity 9#48, station := 1#8 }

theorem test_witness_ReadingRequests :
    (3#8).toNat ≤ 3 ∧ 3 < (4#8).toNat ∧ (3#8 : Byte) ≠ 4#8 ∧ (5#8 : Byte) ≠ 4#8
      ∧ ([7#8] : List Byte).length = (1#8 : Byte).toNat
      ∧ (let t : TestResult :=
           { frames := 16, sent := 0, received := 0, errored := 0, missing := 0, outcome := .refused }
         ((withLp1 { Port.reset with result := some t }).port .lp1).result = some t)
      ∧ (node.port .lp1).result = none ∧ (0#8 ≠ 1#8 ∧ 0#8 ≠ 2#8)
      ∧ (let t := [aliasOf 6#8, aliasOf 7#8, aliasOf 8#8]
         t = [aliasOf 6#8] ++ aliasOf 7#8 :: [aliasOf 8#8] ∧ (aliasOf 7#8).number ≠ 0#8
           ∧ (∀ x ∈ [aliasOf 6#8], x.number ≠ (aliasOf 7#8).number) ∧ ∀ e ∈ t, e.number ≠ 9#8)
      ∧ (1 ≤ (64#8).toNat ∧ (64#8).toNat ≤ 64 ∧ (448#16).toNat + (64#8).toNat ≤ 512)
      ∧ (64 < (65#8).toNat ∧ 512 < (449#16).toNat + (64#8).toNat) := by decide +kernel

theorem test_witness_ReadingRequests_state : Executable cab node ∧ Executable line settled3 :=
  ⟨⟨rfl, rfl, nofun⟩, ⟨rfl, rfl, by simp [line]⟩⟩

/-- The node with a reset arm from the cab. -/
def armed : State :=
  { node with req := { node.req with arm := some { source := cab, generation := 0#8 } } }

/-- An arm that a RESET-NODE of the same source, generation and tag meets, and ones of another generation, of
another source and of another tag; a request that its bytes spell. -/
theorem test_witness_ManagementRequests :
    Executable cab armed ∧ armed.req.arm = some { source := cab, generation := 0#8 }
      ∧ (0#8 : Byte) = armed.consist.generation ∧ (0#8 : Byte) ≠ settled3.consist.generation
      ∧ Executable line armed ∧ 8#8 ≠ tagOf cab ∧ node.req.arm = none
      ∧ readRequest cab 14#8 [] = .command (.censusStart cab) :=
  ⟨⟨rfl, rfl, nofun⟩, rfl, rfl, by decide, ⟨rfl, rfl, by simp [line]⟩, by decide, rfl, rfl⟩

/-- A notice at a VALID head with room and without, elsewhere with room and without; a head that has just
become VALID; a node that may forward, at position 2 and at position 1. -/
theorem test_witness_ManagementRequests_notices :
    let n : Notice := { kind := .portUp, subject := 1#8, value := 0#16, generation := 5#8 }
    let last : CabFrame := { bytes := [], mark := .plain }
    let cabs (k : Nat) : State :=
      { head2 with
        store := { head2.store with content := { head2.store.content with cabStation := true } }
        bus := { head2.bus with outbound := List.replicate k last } }
    let held (k : Nat) (s : State) : State :=
      { s with req := { s.req with notices := List.replicate k n, forwarding := true } }
    ((cabs 15).consist.status = .valid ∧ (cabs 15).cabServed = true ∧ (cabs 15).bus.outbound.length < 16
        ∧ 16 ≤ (cabs 16).bus.outbound.length)
      ∧ (node.consist.status ≠ .valid ∧ (held 31 node).req.notices.length < 32
          ∧ 32 ≤ (held 32 node).req.notices.length)
      ∧ (let s : State := { held 16 (cabs 0) with consist := { head2.consist with status := .none } }
         claimStatusNow s = .valid ∧ s.consist.status ≠ .valid ∧ s.cabServed = true
           ∧ s.bus.outbound.length + s.req.notices.length ≤ 16)
      ∧ (∀ s ∈ [held 1 settled3, held 1 { head2 with consist := { head2.consist with status := .none } }],
          s.req.forwarding = true ∧ s.consist.state = .settled ∧ s.consist.status ≠ .valid
            ∧ s.req.spacing = none ∧ s.req.notices = n :: [])
      ∧ settled3.position ≠ 1 ∧ head2.position = 1 := by decide +kernel

theorem test_witness_PortRequests :
    (Executable cab (lp1In .up) ∧ Executable cab (testing (testOf 0 none none)))
      ∧ (0#8 ≠ 1#8 ∧ 3#8 ≠ 2#8) ∧ (node.port .lp1).link = .down
      ∧ (((testing (testOf 0 none none)).port .lp1).link ≠ .down
          ∧ ((testing (testOf 0 none none)).port .lp1).run ≠ none)
      ∧ ((lp1In .up).port .lp1).link = .up ∧ (lp1In .up).consist.state ≠ .settled
      ∧ (16 ≤ (16#16).toNat ∧ (4096#16).toNat ≤ 4096) ∧ ¬16 ≤ (15#16).toNat ∧ ¬(4097#16).toNat ≤ 4096
      ∧ (settled3.port .lp1).link = .up ∧ settled3.consist.state = .settled ∧ settled3.pins.workshop = false
      ∧ ((besideNine (.accepted 16)).port .lp1).offer ≠ .none
      ∧ ((besideNine .none).port .lp1).offer = .none :=
  ⟨⟨⟨rfl, rfl, nofun⟩, ⟨rfl, rfl, nofun⟩⟩, by decide +kernel⟩

/-- A restart with a pending offer, with an accepted one and in a test that runs. -/
theorem test_witness_PortRequests_aborted :
    (∀ o ∈ [Offer.pending 16 (some 1), .pending 4096 none, .accepted 16],
        ((besideNine o).port .lp1).offer = o ∧ ((besideNine o).port .lp1).link ≠ .test
          ∧ ((besideNine o).port .lp1).link ≠ .down)
      ∧ (let r := testOf 14 (some 14) none
         ((testing r).port .lp1).link = .test ∧ ((testing r).port .lp1).run = some r) := by decide +kernel

/-- Executable requests of those ports. -/
theorem test_witness_PortRequests_aborted_executable :
    Executable cab (besideNine (.pending 16 (some 1))) ∧ Executable cab (besideNine (.accepted 16)) :=
  ⟨⟨rfl, rfl, nofun⟩, ⟨rfl, rfl, nofun⟩⟩

/-- The node with cab ends at both ends. -/
def bothEnds (s : State) : State :=
  { s with store := { s.store with content := { s.store.content with cabEnd1 := true, cabEnd2 := true } } }

theorem test_witness_LeadRequestsAndClaimStatus_requests :
    (Executable cab (bothEnds node) ∧ Executable line node ∧ Executable cab head2)
      ∧ (∃ position generation tag, line = .line position generation tag)
      ∧ (¬∃ position generation tag, cab = .line position generation tag)
      ∧ node.store.content.cabEnd1 = false ∧ node.store.content.cabEnd2 = false
      ∧ (bothEnds node).store.content.cabEnd1 = true ∧ (bothEnds node).store.content.cabEnd2 = true
      ∧ node.consist.status ≠ .valid ∧ head2.consist.status = .valid ∧ 0#8 ≠ 1#8 ∧ 3#8 ≠ 2#8 :=
  ⟨⟨⟨rfl, rfl, nofun⟩, ⟨rfl, rfl, by simp [line]⟩, ⟨rfl, rfl, nofun⟩⟩, ⟨_, _, _, rfl⟩, nofun,
    by decide +kernel⟩

theorem test_witness_LeadRequestsAndClaimStatus_table :
    let claimed (c1 c2 : Bool) (q : Port) : State :=
      { node with
        lp1 := q, lp2 := q, consist := { node.consist with claim1 := c1, claim2 := c2 } }
    ∀ c1 ∈ [false, true], ∀ c2 ∈ [false, true], ∀ q ∈ [Port.reset, upPort],
      (claimed c1 c2 q).consist.claim1 = c1 ∧ (claimed c1 c2 q).consist.claim2 = c2
        ∧ ((claimed c1 c2 Port.reset).lp1.link = .down ∧ (claimed c1 c2 upPort).lp2.link ≠ .down) := by
  decide +kernel

/-- Re-evaluations of the claim status: the status kept, VALID entered, CONFLICT and BLOCKED entered with room for
one notice and with none, and VALID left by a head, out of COUNTING and not, towards each other status. -/
theorem test_witness_LeadRequestsAndClaimStatus_evaluated :
    (let s := fun c1 c2 q => { node with lp1 := q, consist := { node.consist with claim1 := c1, claim2 := c2 } }
     claimStatusNow node = node.consist.status
       ∧ claimStatusNow (s true false Port.reset) = .valid ∧ (s true false Port.reset).consist.status ≠ .valid
       ∧ claimStatusNow (s true true Port.reset) = .conflict
       ∧ claimStatusNow (s true false upPort) = .blocked
       ∧ (let notice : Notice := { kind := .portUp, subject := 1#8, value := 1#16, generation := 0#8 }
          let full (n : Nat) : State :=
            { s true true Port.reset with req := { node.req with notices := List.replicate n notice } }
          (full 31).req.notices.length < 32 ∧ 32 ≤ (full 32).req.notices.length
            ∧ claimStatusNow (full 32) ≠ .none ∧ (full 32).consist.status ≠ .valid
            ∧ claimStatusNow (full 32) ≠ (full 32).consist.status))
      ∧ (∀ phase ∈ [CensusPhase.counting, .none], ∀ x ∈ [(false, ClaimStatus.none), (true, .blocked)],
          let s : State :=
            { head2 with
              lp1 := upPort, consist := { head2.consist with phase := phase, claim1 := x.1 } }
          claimStatusNow s = x.2 ∧ s.consist.status = .valid ∧ claimStatusNow s ≠ .valid
            ∧ s.consist.phase = phase ∧ s.req.notices.length < 32
            ∧ (∀ p ∈ [PortId.lp1, .lp2], (s.port p).carries = true ∧ (s.port p).urgent.length < 8)) := by
  decide +kernel

/-- R41: a head of two at whose leading end a vehicle couples sweeps no more, raises LEAD-NOT-AT-END with End 1 and
originates a CHANGE, which takes it to STALE. -/
theorem test_a_head_loses_its_lead :
    let s : State :=
      { head2 with
        lp1 := { Port.reset with link := .settling }
        sweep := { head2.sweep with periodTimer := some 5, outstanding := some 3#8 }
        door := { head2.door with trainProof := true } }
    let t := evalClaims s
    t.consist.status = .blocked ∧ t.consist.state = .stale ∧ t.consist.changeCounter = 1#8
      ∧ t.sweep.periodTimer = none ∧ t.sweep.outstanding = none ∧ t.door.trainProof = false
      ∧ t.req.notices.map (fun n => (n.kind, n.value)) = [(.recordInvalid, 1#16), (.leadNotAtEnd, 1#16)]
      ∧ t.lp1.transmitter = none
      ∧ t.lp2.transmitter.map (fun e => e.frame.kind) = some 0x03#8 := by decide +kernel

/-- The node with so many table entries of numbers from 1. -/
def aliased (n : Nat) : State :=
  { node with req := { node.req with aliases := (List.range n).map fun i => aliasOf (byteOf (i + 1)) } }

theorem test_witness_AliasRequests :
    Executable cab (aliased 16)
      ∧ (17#8 ≠ 0#8 ∧ (1 ≤ (32#8).toNat ∧ (32#8).toNat ≤ 32) ∧ 1 ≤ (30#8).toNat ∧ (30#8).toNat ≤ 30)
      ∧ ¬(31#8).toNat ≤ 30 ∧ ¬(33#8).toNat ≤ 32
      ∧ (16 ≤ (aliased 16).req.aliases.length ∧ ∀ e ∈ (aliased 16).req.aliases, e.number ≠ 17#8)
      ∧ (aliased 15).req.aliases.length < 16
      ∧ ∃ e ∈ (aliased 16).req.aliases, e.number = 16#8 :=
  ⟨⟨rfl, rfl, nofun⟩, by decide +kernel⟩

/-- The node with so many pending remote entries of other tags, its bus busy. -/
def remoting (n : Nat) : State :=
  { polling with
    req :=
      { node.req with
        remotes := List.replicate n
          { source := .cab 9#8, generation := 0#8, op := .read 4#8 2#8, mode := .once, deadline := 1 } } }

theorem test_witness_RemoteRequestsArePending :
    Executable cab (remoting 8) ∧ Executable (.cab 9#8) (remoting 8)
      ∧ (1 ≤ (30#8).toNat ∧ (30#8).toNat ≤ 30 ∧ (63#8).toNat ≤ 63) ∧ ¬(31#8).toNat ≤ 30
      ∧ (3#8 = 3#8 ∧ 10 ≤ (10#16).toNat ∧ (1000#16).toNat ≤ 1000) ∧ ¬10 ≤ (9#16).toNat
      ∧ (1 ≤ [0#8].length ∧ (List.replicate 16 0#8).length ≤ 16)
      ∧ (∃ e ∈ (remoting 8).req.remotes, e.source = .cab 9#8)
      ∧ (¬∃ e ∈ (remoting 8).req.remotes, e.source = cab) ∧ 8 ≤ (remoting 8).req.remotes.length
      ∧ (remoting 7).req.remotes.length < 8 ∧ (remoting 7).bus.remoteQueue.length < 8
      ∧ (remoting 7).bus.flight ≠ none :=
  ⟨⟨rfl, rfl, nofun⟩, ⟨rfl, rfl, nofun⟩, by decide +kernel⟩

/-- A remote transaction in flight between two that wait. -/
def remoteFlight (op : BusOp) (mode : BusMode) : State :=
  let e : QueueEntry :=
    { op := op, mode := mode, owner := .remote cab, phase := .inFlight, persist := .unstarted, current := true }
  let other := doorEntry .waiting .unstarted
  { node with
    store := { node.store with content := { node.store.content with polls := [poll9] } }
    bus :=
      { node.bus with
        remoteQueue := [other, e, other], flight := some (.queue .remote)
        records := [{ dest := poll9.dest, value := some [1#8], age := 3 }] } }

/-- READs and WRITEs in ONCE and ACCEPT, one of them of a polled item with a value; a walk at its last station
and before it. -/
theorem test_witness_RemoteRequestsArePending_ends :
    let other := doorEntry .waiting .unstarted
    (∀ op ∈ [BusOp.read 4#8 2#8, .read 4#8 3#8, .write 4#8 1#8 [2#8], .walk 30#8 30#8 true [], .walk 1#8 30#8 true []],
        ∀ mode ∈ [BusMode.once, .accept],
          let s := remoteFlight op mode
          let e : QueueEntry :=
            { op := op, mode := mode, owner := .remote cab, phase := .inFlight, persist := .unstarted
              current := true }
          s.powered = true ∧ s.bus.flight = some (.queue .remote)
            ∧ s.bus.remoteQueue = [other] ++ e :: [other] ∧ e.phase = .inFlight
            ∧ (∀ x ∈ [other], x.phase ≠ .inFlight)
            ∧ s.store.content.polls = [] ++ poll9 :: [] ∧ poll9.station = 4#8 ∧ poll9.item = 2#8
            ∧ s.record poll9.dest = some { dest := poll9.dest, value := some [1#8], age := 3 })
      ∧ (∀ x ∈ [poll9], x.station ≠ 4#8 ∨ x.item ≠ 3#8)
      ∧ ((1#8 : Byte) ≠ 30#8 ∧ (List.replicate 8 0#8).length = 8 ∧ [0#8].length ≠ 8) := by decide +kernel

/-- A walk behind an entry in a retry wait of another station. -/
theorem test_witness_RemoteRequestsArePending_walk :
    let e : QueueEntry := { doorEntry .waiting .unstarted with op := .walk 1#8 30#8 false [], mode := .once }
    let x := doorEntry (.retryWait 2) (.running 5)
    e.mode = .once ∧ e.phase = .waiting ∧ x.phase = .retryWait 2 ∧ x.op.address ≠ (1#8, 0#8) := by
  decide +kernel

/-- A pending entry of the cab in time and late, one of the line in time, stale by its generation and by the
consist state. -/
theorem test_witness_RemoteRequestsArePending_replies :
    let x (src : ReqSource) (deadline : Nat) : RemoteEntry :=
      { source := src, generation := 5#8, op := .read 4#8 2#8, mode := .once, deadline := deadline }
    let s : State := { settled3 with req := { settled3.req with remotes := [x line 1] } }
    s.req.remotes = [] ++ x line 1 :: [] ∧ (x cab 0).deadline = 0 ∧ 0 < (x line 1).deadline
      ∧ s.consist.state = .settled ∧ (x line 1).generation = s.consist.generation
      ∧ node.consist.state ≠ .settled ∧ (x line 1).generation ≠ node.consist.generation := by decide +kernel

/-- A leaf in ISOLATED known CLOSED-LOCKED. -/
def lockedShut : State :=
  let s := withLeaves node [.isolated]
  { s with bus := { s.bus with records := [{ dest := .leafStatus 1, value := some [1#8], age := 0 }] } }

theorem test_witness_DoorAndGroupRequests :
    (Executable cab head2 ∧ Executable cab lockedShut ∧ (head2.port head2.tailPort).carries = true)
      ∧ ((1#8 = 1#8 ∨ 1#8 = 2#8) ∧ 1 ≤ (2#8).toNat ∧ (2#8).toNat ≤ (255#8).toNat)
      ∧ head2.consist.status = .valid ∧ head2.consist.state = .settled ∧ head2.n < (3#8).toNat
      ∧ (2#8).toNat ≤ head2.n ∧ head2.n ≤ 32
      ∧ ((0#8).getLsbD 0 = false ∧ (4#8).getLsbD 1 = false ∧ (2#8).getLsbD 1 = true)
      ∧ node.leaf (1#8).toNat = none
      ∧ (withLeaves node [.fault]).leaf (1#8).toNat = some (leafIn .fault)
      ∧ lockedShut.leaf (1#8).toNat = some (leafIn .isolated)
      ∧ lockedShut.leafStatus (1#8).toNat = some .closedLocked
      ∧ (let s := withLeaves node [.isolated]
         s.leafStatus (1#8).toNat ≠ some .closedLocked ∧ s.bus.doorQueue.length < 16
           ∧ s.store.content.warning ≠ 0)
      ∧ node.group (1#8).toNat = none
      ∧ (withGroup (groupAt 1 none) none 255).group (1#8).toNat = some (groupAt 1 none)
      ∧ (groupAt 0 (some .feedback)).fault ≠ none := by
  refine ⟨⟨⟨rfl, rfl, nofun⟩, ⟨rfl, rfl, nofun⟩, by decide +kernel⟩, by decide +kernel⟩

/-- A leaf in ISOLATED with an unknown status where the warning time is 0. -/
theorem test_witness_DoorAndGroupRequests_unwarned :
    let s := withLeaves node [.isolated]
    let s : State := { s with store := { s.store with content := { s.store.content with warning := 0 } } }
    s.leaf (1#8).toNat = some (leafIn .isolated) ∧ s.leafStatus (1#8).toNat ≠ some .closedLocked
      ∧ s.bus.doorQueue.length < 16 ∧ s.store.content.warning = 0 := by decide +kernel

/-- An image written out by section 12.4: weight 4, cab ends 3, a cab station, the default door times, and
no leaf, group or poll entry; its check word is 0x10000 − 0x0B49. -/
def goodImage : List Byte :=
  [0x7C#8, 0x1E#8, 1#8, 0#8, 4#8, 3#8, 1#8, 0#8, 3#8, 8#8, 2#8, 2#8, 0#8, 60#8, 0#8, 0#8, 0xF4#8, 0xB7#8]
    ++ List.replicate 494 0#8

theorem test_image_reads :
    checkImage goodImage = none ∧ imageLengthOf goodImage = 18
      ∧ contentOf goodImage none = { Content.defaults with weight := 4, cabEnd1 := true, cabEnd2 := true } := by
  decide +kernel

theorem test_witness_RecordRequests :
    let s : State := { node with store := { node.store with edit := goodImage } }
    Executable cab s ∧ Executable cab (inStore .writing)
      ∧ (1 ≤ [0#8].length ∧ (List.replicate 64 0#8).length ≤ 64 ∧ (448#16).toNat + 64 ≤ 512)
      ∧ ¬(449#16).toNat + 64 ≤ 512
      ∧ s.store.state = .idle ∧ (inStore .writing).store.state ≠ .idle ∧ s.store.edit.length = 512
      ∧ s.store.mode = .unlocked ∧ checkImage s.store.edit = none
      ∧ checkImage node.store.edit = some .signature
      ∧ (∀ l ∈ s.door.leaves, l.state = .closed ∨ l.state = .isolated)
      ∧ ¬(∀ l ∈ (withLeaves node [.start]).door.leaves, l.state = .closed ∨ l.state = .isolated)
      ∧ protectionOf 0#8 = none ∧ protectionOf 3#8 = some .held ∧ protectionOf 1#8 = some .unlocked
      ∧ s.pins.workshop = false :=
  ⟨⟨rfl, rfl, nofun⟩, ⟨rfl, rfl, nofun⟩, by decide +kernel⟩

theorem test_witness_StoreEndsAndGoesLive :
    (let s : State := { inStore .writing with store := { (inStore .writing).store with edit := goodImage } }
     s.powered = true ∧ s.req.resetHeld = false ∧ s.store.state = .writing ∧ s.store.edit.length = 512
       ∧ checkImage s.store.edit = none ∧ doorsAtRest s = true ∧ doorsAtRest (withLeaves s [.start]) = false
       ∧ blankImage.length = 512 ∧ (blankImage ≠ s.store.edit ∨ checkImage blankImage ≠ none))
      ∧ (inStore .setting).store.state = .setting
      ∧ (let s : State :=
           { inStore .awaitingDoors with
             store := { (inStore .awaitingDoors).store with awaiting := some goodImage } }
         s.store.state = .awaitingDoors ∧ s.store.awaiting = some goodImage ∧ doorsAtRest s = true) := by
  decide +kernel

/-- A reset held back in WRITING, with a record that passes the check and one that fails it, and in SETTING. -/
theorem test_witness_StoreEndsAndGoesLive_held :
    (∀ st ∈ [StoreState.writing, .setting],
        let s : State := { inStore st with req := { node.req with resetHeld := true } }
        s.powered = true ∧ s.req.resetHeld = true ∧ s.store.state = st ∧ s.store.mode ≠ .held)
      ∧ goodImage.length = 512 ∧ checkImage goodImage = none ∧ blankImage.length = 512
      ∧ checkImage blankImage ≠ none := by decide +kernel

theorem test_witness_HostFrames :
    (node.powered = true ∧ node.req.resetPending = false ∧ Executable cab node)
      ∧ ([0x02#8, 0#8, 0#8, 1#8].head? ≠ some 0x01#8 ∧ [0x01#8, 0#8].length ≤ 2
          ∧ [0x01#8, 7#8, 3#8].length = 3 ∧ ([0x01#8, 7#8, 3#8].getD 2 0#8).toNat ≤ 3)
      ∧ readRequest (.cab 7#8) 1#8 [] = .command (.identify (.cab 7#8))
      ∧ 30 < (31#8).toNat ∧ 32 < (33#8).toNat ∧ 3 < (4#8).toNat ∧ 1 ≤ (1#8).toNat ∧ (32#8).toNat ≤ 32
      ∧ node.consist.state ≠ .settled ∧ settled3.consist.state = .settled ∧ (1#8).toNat ≠ settled3.position :=
  ⟨⟨rfl, rfl, ⟨rfl, rfl, nofun⟩⟩, by decide +kernel⟩

/-- Host frames too short for their address and a kind byte. -/
theorem test_witness_HostFrames_short :
    ([0x01#8, 7#8, 1#8, 32#8].length = 4 ∧ [0x01#8, 7#8, 1#8, 32#8].getD 2 0#8 = 1#8)
      ∧ ([0x01#8, 7#8, 2#8] ++ idBytes 9#48).length ≤ 9 ∧ ([0x01#8, 7#8, 2#8] ++ idBytes 9#48).getD 2 0#8 = 2#8 := by
  decide +kernel

/-- Requests of the host by identity and by alias at a SETTLED node, and at one that is not: an identity at
position 2, the node's own, one in no map, an alias of each, one of a position and one in no table. -/
theorem test_witness_HostFrames_addresses :
    let by9 : AliasEntry := { number := 9#8, vehicle := .position 32#8, station := 30#8 }
    let s : State := { settled3 with req := { settled3.req with aliases := [aliasOf 1#8, by9] } }
    s.consist.state = .settled ∧ node.consist.state ≠ .settled
      ∧ s.consist.activeMap = [entryOf 9#48 .forward true] ++ entryOf 0#48 .forward false
          :: [entryOf 8#48 .forward false]
      ∧ (∀ y ∈ [entryOf 9#48 .forward true], y.identity ≠ 0#48)
      ∧ (byteOf ([entryOf 9#48 .forward true].length + 1)).toNat = s.position
      ∧ (∀ x ∈ s.consist.activeMap, x.identity ≠ 7#48)
      ∧ s.req.aliases = [aliasOf 1#8] ++ by9 :: [] ∧ (∀ y ∈ [aliasOf 1#8], y.number ≠ 9#8)
      ∧ (aliasOf 1#8).vehicle = .identity 9#48 ∧ (∀ x ∈ s.req.aliases, x.number ≠ 2#8)
      ∧ readRequest line 19#8 [] = .malformed := by decide +kernel

/-- Cab service at its last read and with one write and one frame left; a tally of each kind. -/
theorem test_witness_HostFrames_cab :
    let c (writing : Bool) (reads writes : Nat) : CabEntry :=
      { writing := writing, readsLeft := reads, writesLeft := writes
        tally := { ended := false, answered := false } }
    let s (x : CabEntry) (transfer : CabTransfer) (silence : Nat) : State :=
      { node with
        bus :=
          { node.bus with
            cab := some x, flight := some (.cab transfer none), silence := silence
            outbound := [{ bytes := [4#8], mark := .plain }] } }
    (s (c false 1 4) .read 9).bus.cab = some (c false 1 4)
      ∧ (s (c false 1 4) .read 9).bus.flight = some (.cab .read none)
      ∧ (s (c true 0 1) .write 9).bus.flight = some (.cab .write none)
      ∧ (s (c true 0 1) .write 9).bus.outbound = { bytes := [4#8], mark := .plain } :: []
      ∧ (s (c false 1 4) .read 9).cabServed = true ∧ 10 ≤ (s (c false 1 4) .read 9).bus.silence + 1
      ∧ (s (c false 1 4) .read 8).bus.silence + 1 < 10 ∧ node.bus.cabState = .answering
      ∧ ({ node with
            store := { node.store with content := { node.store.content with cabStation := false } } }
          : State).cabServed = false := by decide +kernel

theorem test_witness_FramesReadBackAsTheyWereSent :
    payloadPasses (frameOf 0x03#8 (hdr 1#8 255#8 0#8) (changePayload (9#48, 1#8))) = true := by decide +kernel

theorem test_witness_PayloadsReadBack :
    fullList.length ≤ 32 ∧ (∀ e ∈ fullList, EntryInRange e) ∧ out9.period < 65536 ∧ out9.allowance ≤ 2000
      ∧ back9.tally.isolated < 65536 ∧ 1 ≤ release2.first ∧ release2.last ≤ 32
      ∧ (16 ≤ 4096 ∧ 4096 ≤ 4096) ∧ 65535 < 65536 ∧ (1 ≤ 32 ∧ 32 ≤ 32)
      ∧ noticeBytes (Notice.mk .heatOff 1#8 2#16 3#8) = noticeBytes (Notice.mk .heatOff 1#8 2#16 3#8)
      ∧ statusCode .ok = statusCode .ok := by
  delta EntryInRange; decide +kernel

theorem test_witness_EveryStep :
    let s : State := { settled3 with pending := [.supplyFall] }
    (∃ t, step s = .next t) ∧ ProvenFollows s ∧ UnknownIsEmpty s ∧ Capacities s ∧ MapsBounded s
      ∧ ImagesWhole s := by
  refine ⟨⟨_, rfl⟩, by delta ProvenFollows; decide +kernel, by delta UnknownIsEmpty; decide +kernel,
    by delta Capacities LanesBounded; decide +kernel, ⟨by decide +kernel, nofun⟩, by decide +kernel,
    by decide +kernel, by decide +kernel, nofun⟩

/-- Class 2 at its 8 entries: two for each of 4 groups. -/
def fullHeat : State :=
  let of (g : Nat) : QueueEntry := { doorEntry .waiting .unstarted with owner := .group g }
  { node with
    pending := [.busReplyTimeout]
    bus :=
      { node.bus with
        heatQueue :=
          { of 1 with phase := .inFlight } :: [of 2, of 3, of 4, of 1, of 2, of 3, of 4]
        flight := some (.queue .heat) } }

theorem test_witness_EveryStep_heat :
    (∃ t, step fullHeat = .next t) ∧ HeatWritesBounded fullHeat ∧ fullHeat.bus.heatQueue.length = 8 := by
  refine ⟨⟨_, rfl⟩, ⟨by decide +kernel, by decide +kernel, ?_, fun g => ?_, by decide +kernel,
    by decide +kernel⟩, rfl⟩
  · intro e he
    fin_cases he <;> exact ⟨_, by decide, by decide, rfl⟩
  · by_cases h : 1 ≤ g ∧ g ≤ 4
    · obtain ⟨h1, h4⟩ := h
      interval_cases g <;> decide
    · simp only [fullHeat, List.countP_cons, List.countP_nil, Owner.group.injEq, decide_eq_true_eq]
      repeat' split
      all_goals omega

/-- A walk before its last station, its working roster and the stored one each of one station. -/
theorem test_witness_EveryStep_rosters :
    let r : List RosterEntry := [{ station := 29#8, identification := none }]
    let s : State :=
      { node with
        pending := [.busReplyTimeout]
        bus :=
          { node.bus with
            roster := r
            remoteQueue := [{ doorEntry .inFlight .unstarted with op := .walk 30#8 30#8 true r }]
            flight := some (.queue .remote) } }
    (∃ t, step s = .next t) ∧ RostersInOrder s := by
  refine ⟨⟨_, rfl⟩, ⟨by decide, by decide, by decide⟩, ?_⟩
  intro cls e he next last started roster h
  cases cls
  · cases he
  · cases he
  · obtain rfl := List.mem_singleton.mp he
    cases h
    exact ⟨by decide, by decide, by decide, by decide, by decide, by decide⟩

end Sys2Proof.Tests
end

section
/-! The rules of a full lane (R15, R16): what the search for a displaced entry finds, which entries each kind
displaces, and what joining a full lane comes to in either outcome of the search. -/

namespace Sys2Proof.Machine

open Sys2Proof

/-! ## The search for the entry to displace -/

theorem takeFirst_eq_some_of_append {test : LaneEntry → Bool} {before after : List LaneEntry}
    {old : LaneEntry} (hbefore : ∀ x ∈ before, test x = false) (hold : test old = true) :
    takeFirst test (before ++ old :: after) = some (old, before ++ after) := by
  induction before with
  | nil => simp [takeFirst, hold]
  | cons x rest ih =>
    obtain ⟨hx, hrest⟩ := List.forall_mem_cons.mp hbefore
    simp [takeFirst, hx, ih hrest]

theorem takeFirst_eq_none {test : LaneEntry → Bool} {lane : List LaneEntry}
    (h : ∀ x ∈ lane, test x = false) : takeFirst test lane = none := by
  induction lane with
  | nil => rfl
  | cons x rest ih =>
    obtain ⟨hx, hrest⟩ := List.forall_mem_cons.mp h
    simp [takeFirst, hx, ih hrest]

/-- A sweep displaces the sweeps of its own kind (R15). -/
theorem displaces_sweep {kind : Byte} (h : kind = Config.kindSweepOut ∨ kind = Config.kindSweepBack)
    (x : LaneEntry) : displaces kind x = decide (x.frame.kind = kind) := by
  rw [displaces, if_pos h]

/-- A DOOR-CLOSE displaces whatever is no DOOR-CLOSE (R16). -/
theorem displaces_doorClose (x : LaneEntry) :
    displaces Config.kindDoorClose x = decide (x.frame.kind ≠ Config.kindDoorClose) := by
  rw [displaces, if_neg (by decide), if_pos rfl]

/-- Every other kind displaces nothing (R16). -/
theorem displaces_other {kind : Byte}
    (h : kind ∉ [Config.kindDoorClose, Config.kindSweepOut, Config.kindSweepBack]) (x : LaneEntry) :
    displaces kind x = false := by
  obtain ⟨hclose, hout, hback⟩ : kind ≠ Config.kindDoorClose ∧ kind ≠ Config.kindSweepOut
      ∧ kind ≠ Config.kindSweepBack := by simpa using h
  rw [displaces, if_neg (not_or.mpr ⟨hout, hback⟩), if_neg hclose]

/-! ## A lost frame is one drop (R18) -/

theorem laneFrameGone_dropped (p : PortId) (e : LaneEntry) (s : State) :
    ((laneFrameGone p e s).port p).dropped = (s.port p).dropped := by
  unfold laneFrameGone resetReplyGone
  split
  · rfl
  · rw [State.modPort_port_self]
    split <;> rfl
  · simp

theorem dropFrame_dropped (p : PortId) (e : LaneEntry) (s : State) :
    ((dropFrame p e s).port p).dropped = satInc (s.port p).dropped := by
  unfold dropFrame
  dsimp only
  rw [laneFrameGone_dropped]
  split <;> simp [enqueueNotice_port]

/-- A frame dropped at a port leaves its urgent lane as it is, and is one drop. -/
theorem dropFrame_urgent_dropped (p : PortId) (e : LaneEntry) (s : State) :
    ((dropFrame p e s).port p).urgent = (s.port p).urgent
      ∧ ((dropFrame p e s).port p).dropped = satInc (s.port p).dropped :=
  ⟨(dropFrame_lanes p e s).1, dropFrame_dropped p e s⟩

/-! ## Joining a full lane (R13, R15, R16) -/

/-- At a full urgent lane the oldest entry a frame displaces makes room for it at the newest end. -/
theorem joinUrgent_displaced {p : PortId} {e old : LaneEntry} {s : State} {before after : List LaneEntry}
    (hfull : 8 ≤ (s.port p).urgent.length) (hlane : (s.port p).urgent = before ++ old :: after)
    (hbefore : ∀ x ∈ before, displaces e.frame.kind x = false)
    (hold : displaces e.frame.kind old = true) :
    ((joinUrgent p e s).port p).urgent = before ++ after ++ [e]
      ∧ ((joinUrgent p e s).port p).dropped = satInc (s.port p).dropped := by
  have hjoin : joinUrgent p e s =
      dropFrame p old (s.modPort p fun q => { q with urgent := before ++ after ++ [e] }) := by
    have hsearch := takeFirst_eq_some_of_append (after := after) hbefore hold
    rw [← hlane] at hsearch
    rw [joinUrgent, if_neg (show ¬_ < Config.urgentLaneSize from hfull.not_gt), hsearch]
  obtain ⟨hurgent, hdropped⟩ := dropFrame_urgent_dropped p old
    (s.modPort p fun q => { q with urgent := before ++ after ++ [e] })
  rw [hjoin, hurgent, hdropped]
  simp

/-- At a full urgent lane a frame that displaces no entry is dropped. -/
theorem joinUrgent_dropped {p : PortId} {e : LaneEntry} {s : State}
    (hfull : 8 ≤ (s.port p).urgent.length)
    (hnone : ∀ x ∈ (s.port p).urgent, displaces e.frame.kind x = false) :
    ((joinUrgent p e s).port p).urgent = (s.port p).urgent
      ∧ ((joinUrgent p e s).port p).dropped = satInc (s.port p).dropped := by
  have hjoin : joinUrgent p e s = dropFrame p e s := by
    rw [joinUrgent, if_neg (show ¬_ < Config.urgentLaneSize from hfull.not_gt),
      takeFirst_eq_none hnone]
  rw [hjoin]
  exact dropFrame_urgent_dropped p e s

theorem joinUrgent_room_urgent_dropped {p : PortId} {e : LaneEntry} {s : State}
    (hroom : (s.port p).urgent.length < 8) :
    ((joinUrgent p e s).port p).urgent = (s.port p).urgent ++ [e]
      ∧ ((joinUrgent p e s).port p).dropped = (s.port p).dropped := by
  simp [joinUrgent_room p e s hroom]

theorem joinUrgent_normal (p : PortId) (e : LaneEntry) (s : State) :
    ((joinUrgent p e s).port p).normal = (s.port p).normal := by
  unfold joinUrgent
  dsimp only
  split
  · simp
  · split
    · exact (dropFrame_lanes p _ _).2.1.trans (by simp)
    · exact (dropFrame_lanes p e s).2.1

theorem joinNormal_full {p : PortId} {s : State} (hfull : 16 ≤ (s.port p).normal.length) (e : LaneEntry) :
    joinNormal p e s = dropFrame p e s :=
  if_neg (show ¬_ < Config.normalLaneSize from hfull.not_gt)

/-- Settles O15: each kind's rule is what `displaces` says of it, put into the two outcomes of joining a full
urgent lane. -/
theorem fullLaneRules : Obligations.FullLaneRules := by
  refine ⟨fun p e s hsweep hfull => ⟨?_, ?_⟩, fun p e s =>
    ⟨joinUrgent_room_urgent_dropped, fun hfull hclose => ⟨?_, ?_⟩, fun hfull hother => ?_,
      fun hfull => ?_, joinUrgent_normal p e s⟩⟩
  -- A sweep, with an older sweep of its kind in the lane and without.
  · intro before old after hlane hold hbefore
    exact joinUrgent_displaced hfull hlane
      (fun x hx => by simp [displaces_sweep hsweep, hbefore x hx]) (by simp [displaces_sweep hsweep, hold])
  · intro hnone
    exact joinUrgent_dropped hfull fun x hx => by simp [displaces_sweep hsweep, hnone x hx]
  -- A DOOR-CLOSE, with an entry of another kind in the lane and without.
  · intro before old after hlane hold hbefore
    exact joinUrgent_displaced hfull hlane
      (fun x hx => by simp [hclose, displaces_doorClose, hbefore x hx])
      (by simp [hclose, displaces_doorClose, hold])
  · intro hall
    exact joinUrgent_dropped hfull fun x hx => by simp [hclose, displaces_doorClose, hall x hx]
  · exact joinUrgent_dropped hfull fun x _ => displaces_other hother x
  · rw [joinNormal_full hfull]
    exact ⟨(dropFrame_lanes p e s).2.1, dropFrame_dropped p e s⟩

end Sys2Proof.Machine
end

section
/-! The header check in the numbers of R2 and R4, and the frames addressed by position (R8). -/

namespace Sys2Proof.Machine

open Sys2Proof

/-! ## The header check (R2, R4) -/

theorem mem_relayKinds_iff (kind : Byte) :
    kind ∈ relayKinds ↔ 0x03 ≤ kind.toNat ∧ kind.toNat ≤ 0x0D := by
  simp only [relayKinds, List.mem_cons, List.not_mem_nil, or_false, Config.kindChange, Config.kindCount,
    Config.kindRoll, Config.kindConfirm, Config.kindSweepOut, Config.kindSweepBack, Config.kindDoorRelease,
    Config.kindDoorClose, Config.kindRequest, Config.kindReply, Config.kindNotice]
  bv_omega

/-- The kinds of the normal lane are the last three of those that reach the Relay Unit (R2). -/
theorem isNormalKind_eq_false_iff {kind : Byte} (h : kind.toNat ≤ 0x0D) :
    isNormalKind kind = false ↔ kind.toNat < 0x0B := by
  simp only [isNormalKind, Bool.or_eq_false_iff, decide_eq_false_iff_not]
  simp only [Config.kindRequest, Config.kindReply, Config.kindNotice]
  bv_omega

/-- The lane flag R2 gives a kind, as R4 asks for it. -/
theorem laneFlag_iff {kind : Byte} (h : kind.toNat ≤ 0x0D) (flags : Byte) :
    flags.getLsbD 0 = (!isNormalKind kind) ↔ (flags.getLsbD 0 = true ↔ kind.toNat < 0x0B) := by
  rw [← isNormalKind_eq_false_iff h]
  cases flags.getLsbD 0 <;> cases isNormalKind kind <;> simp

/-- The destination class of a kind (R2), as R4 asks for it. -/
theorem destinationOk_iff {kind : Byte} (hlow : 0x03 ≤ kind.toNat) (hhigh : kind.toNat ≤ 0x0D)
    (destination : Byte) :
    destinationOk kind destination = true ↔
      ((kind.toNat = 0x03 ∨ kind.toNat = 0x09 ∨ kind.toNat = 0x0A) → destination.toNat = 255)
        ∧ ((0x04 ≤ kind.toNat ∧ kind.toNat ≤ 0x08) → destination.toNat = 0)
        ∧ ((kind.toNat = 0x0B ∨ kind.toNat = 0x0C) → 1 ≤ destination.toNat ∧ destination.toNat ≤ 32)
        ∧ (kind.toNat = 0x0D → destination.toNat = 1) := by
  have hchange : (kind = Config.kindChange ∨ kind = Config.kindDoorRelease ∨ kind = Config.kindDoorClose) ↔
      (kind.toNat = 0x03 ∨ kind.toNat = 0x09 ∨ kind.toNat = 0x0A) := by
    simp only [BitVec.toNat_eq]; rfl
  have hrequest : (kind = Config.kindRequest ∨ kind = Config.kindReply) ↔
      (kind.toNat = 0x0B ∨ kind.toNat = 0x0C) := by
    simp only [BitVec.toNat_eq]; rfl
  have hnotice : kind = Config.kindNotice ↔ kind.toNat = 0x0D := BitVec.toNat_eq
  simp only [destinationOk, hchange, hrequest, hnotice]
  split
  case isTrue h => simp only [decide_eq_true_eq, BitVec.toNat_eq, BitVec.toNat_ofNat]; omega
  case isFalse =>
    split
    case isTrue h => rw [decide_eq_true_eq]; omega
    case isFalse =>
      split <;> (simp only [decide_eq_true_eq, BitVec.toNat_eq, BitVec.toNat_ofNat]; omega)

/-- A header without any of the errors of R4. -/
def SoundHeader (f : Frame) : Prop :=
  (0x03 ≤ f.kind.toNat ∧ f.kind.toNat ≤ 0x0D)
    ∧ (f.header.flags.getLsbD 0 = true ↔ f.kind.toNat < 0x0B)
    ∧ ((f.kind.toNat = 0x03 ∨ f.kind.toNat = 0x09 ∨ f.kind.toNat = 0x0A) →
        f.header.destination.toNat = 255)
    ∧ ((0x04 ≤ f.kind.toNat ∧ f.kind.toNat ≤ 0x08) → f.header.destination.toNat = 0)
    ∧ ((f.kind.toNat = 0x0B ∨ f.kind.toNat = 0x0C) →
        1 ≤ f.header.destination.toNat ∧ f.header.destination.toNat ≤ 32)
    ∧ (f.kind.toNat = 0x0D → f.header.destination.toNat = 1)
    ∧ f.header.source.toNat ≤ 32

/-- The header check passes exactly the headers without an error of R4. -/
theorem headerOk_iff (f : Frame) : headerOk f = true ↔ SoundHeader f := by
  simp only [headerOk, Bool.and_eq_true, decide_eq_true_eq, mem_relayKinds_iff, SoundHeader]
  by_cases hkind : 0x03 ≤ f.kind.toNat ∧ f.kind.toNat ≤ 0x0D
  · rw [laneFlag_iff hkind.2, destinationOk_iff hkind.1 hkind.2]
    simp only [and_assoc]
  · simp only [hkind, false_and]

/-- Settles O17: `headerOk` is the absence of R4's errors, and the first check `relayFrame` makes. -/
theorem headerCheck : Obligations.HeaderCheck := by
  intro p f s
  refine ⟨fun hbad => ?_, fun hsound => ?_⟩
  · have hheader : headerOk f = false := Bool.eq_false_iff.mpr (mt (headerOk_iff f).mp hbad)
    simp only [relayFrame, hheader, Bool.not_false, if_true]
    rfl
  · have hheader : headerOk f = true := (headerOk_iff f).mpr hsound
    simp only [relayFrame, hheader, Bool.not_true, Bool.false_eq_true, if_false]
    rfl

/-! ## Routing by position (R8) -/

section Routing

variable (deliver : Frame → State → State) (f : Frame) (s : State)

theorem relayAddressed_here (h : f.header.destination.toNat = s.position) :
    relayAddressed deliver f s = deliver f s := if_pos h

theorem relayAddressed_headward (h : f.header.destination.toNat < s.position) :
    relayAddressed deliver f s = offer s.headPort { frame := f, mark := .plain } s := by
  rw [relayAddressed, if_neg h.ne]
  exact if_pos h

theorem relayAddressed_tailward (h : s.position < f.header.destination.toNat) (hn : s.position < s.n) :
    relayAddressed deliver f s = offer s.tailPort { frame := f, mark := .plain } s := by
  rw [relayAddressed, if_neg h.ne']
  simp only [route, if_neg h.not_gt, if_pos hn]

theorem relayAddressed_beyondTail (h : s.position < f.header.destination.toNat) (hn : s.position = s.n) :
    relayAddressed deliver f s = s.modRelay fun y => { y with beyondTail := satInc y.beyondTail } := by
  rw [relayAddressed, if_neg h.ne']
  simp only [route, if_neg h.not_gt, if_neg hn.not_lt, laneFrameGone_plain]

end Routing

/-- The three kinds addressed by position: the command of each and what its delivery is. -/
def addressedRows (p : PortId) (h : Header) (payload : List Byte) :
    List (Byte × Instr × (Frame → State → State)) :=
  [(0x0B#8, .request p h payload, deliverRequest),
   (0x0C#8, .reply p h payload, fun f => deliverReply f .plain),
   (0x0D#8, .notice p h payload, deliverNotice)]

/-- A row's command takes its frame through the port and the Relay Unit to the row's delivery, where the frame
is accepted. -/
theorem exec_addressedRow {p : PortId} {h : Header} {payload : List Byte} {s : State}
    {r : Byte × Instr × (Frame → State → State)} (hr : r ∈ addressedRows p h payload)
    (ha : Accepted p r.1 h payload s) :
    exec r.2.1 s =
      .next (finish (relayAddressed r.2.2 { kind := r.1, header := h, payload := payload }
        (s.modPort p Port.countGood))) := by
  have reaches : ∀ kind, Accepted p kind h payload s → kind ≠ Config.kindHello →
      kind ≠ Config.kindTest →
      live (receive p { kind := kind, header := h, payload := payload }) s =
        .next (finish (relayAccepted p { kind := kind, header := h, payload := payload }
          (s.modPort p Port.countGood))) := by
    intro kind hk h1 h2
    rw [live_powered _ s hk.1, receive_accepted p kind h payload s hk h1 h2]
  simp only [addressedRows, List.mem_cons, List.not_mem_nil, or_false] at hr
  rcases hr with rfl | rfl | rfl <;> exact reaches _ ha (by decide) (by decide)

/-- The kinds addressed by position are those of the normal lane (R2). -/
theorem kind_of_mem_addressedRows {p : PortId} {h : Header} {payload : List Byte}
    {r : Byte × Instr × (Frame → State → State)} (hr : r ∈ addressedRows p h payload) :
    r.1 = 0x0B#8 ∨ r.1 = 0x0C#8 ∨ r.1 = 0x0D#8 := by
  simp only [addressedRows, List.mem_cons, List.not_mem_nil, or_false] at hr
  rcases hr with rfl | rfl | rfl <;> simp

theorem addressedKind_ne {kind : Byte} (hkind : kind = 0x0B#8 ∨ kind = 0x0C#8 ∨ kind = 0x0D#8) {other : Byte}
    (hother : other.toNat < 0x0B) : kind ≠ other := by
  bv_omega

theorem soundHeader_addressed {f : Frame} (hkind : f.kind = 0x0B#8 ∨ f.kind = 0x0C#8 ∨ f.kind = 0x0D#8)
    (hflag : f.header.flags.getLsbD 0 = false) (hsource : f.header.source.toNat ≤ 32)
    (hlow : 1 ≤ f.header.destination.toNat) (hhigh : f.header.destination.toNat ≤ 32)
    (hnotice : f.kind = 0x0D#8 → f.header.destination.toNat = 1) : SoundHeader f := by
  have hk : f.kind.toNat = 0x0B ∨ f.kind.toNat = 0x0C ∨ f.kind.toNat = 0x0D := by bv_omega
  have hnormal : ¬f.kind.toNat < 0x0B := by omega
  exact ⟨by omega, iff_of_false (Bool.eq_false_iff.mp hflag) hnormal, by omega, by omega,
    fun _ => ⟨hlow, hhigh⟩, fun hd => hnotice (BitVec.eq_of_toNat_eq hd), hsource⟩

/-- A frame offered to a port that is DOWN, SETTLING or in TEST is no-route, unless it is a HELLO (R13). -/
theorem offer_noRoute_of_link {q : PortId} {e : LaneEntry} {s : State}
    (hl : (s.port q).link = .down ∨ (s.port q).link = .settling ∨ (s.port q).link = .test)
    (hk : e.frame.kind ≠ Config.kindHello) (hm : e.mark = .plain) :
    offer q e s = s.modRelay fun y => { y with noRoute := satInc y.noRoute } := by
  refine offer_noRoute q e s ?_ (fun h => hk h.2) hm
  rcases hl with hl | hl | hl <;> simp [Port.carries, hl]

theorem modPort_countGood_link (p q : PortId) (s : State) :
    ((s.modPort p Port.countGood).port q).link = (s.port q).link := by
  by_cases h : q = p
  · subst h; simp
  · rw [State.modPort_port_ne h]

/-- Settles O19: an accepted frame reaches `relayAddressed`, whose four outcomes are R8's. -/
theorem addressedFramesAreRouted : Obligations.AddressedFramesAreRouted := by
  intro p h payload s hpow hup hlen hgen hsource hflag hhigh s' rows r hr f e d hlow hnotice
  have hrow : r ∈ addressedRows p h payload := hr
  have hkind := kind_of_mem_addressedRows hrow
  have hnotHello : f.kind ≠ Config.kindHello := addressedKind_ne hkind (by decide)
  have hnotTest : f.kind ≠ Config.kindTest := addressedKind_ne hkind (by decide)
  have hpasses : payloadPasses f = true := by
    simp [payloadPasses, hnotTest, Config.maxPayload, f, hlen]
  have hheader : headerOk f = true :=
    (headerOk_iff f).mpr (soundHeader_addressed hkind hflag hsource hlow hhigh hnotice)
  have hexec := exec_addressedRow hrow ⟨hpow, hup, hpasses, hheader, fun _ => hgen⟩
  have hpos : s'.position = s.position := State.modPort_position p _ s
  have hn : s'.n = s.n := State.modPort_n p _ s
  have hhead : s'.headPort = s.headPort := State.modPort_headPort p _ s
  have htail : s'.tailPort = s.tailPort := State.modPort_tailPort p _ s
  refine ⟨fun hd => ?_, fun hd => ?_, fun hd hk => ?_, fun hd hk => ?_, fun q hl => ?_⟩
  · rw [hexec, relayAddressed_here r.2.2 f s' (hd.trans hpos.symm)]
  · rw [hexec, relayAddressed_headward r.2.2 f s' (hd.trans_eq hpos.symm), hhead]
  · rw [hexec, relayAddressed_tailward r.2.2 f s' (hpos.trans_lt hd) (by rwa [hpos, hn]), htail]
  · rw [hexec, relayAddressed_beyondTail r.2.2 f s' (hpos.trans_lt hd) (by rwa [hpos, hn])]
  · exact offer_noRoute_of_link (by rwa [modPort_countGood_link]) hnotHello rfl

end Sys2Proof.Machine
end

section
/-! The vehicle proof (R141): a leaf's status in terms of its status record (R92, R116), what a leaf gives to
the proof, and the proof over the whole leaf table. -/

namespace Sys2Proof.Machine

open Sys2Proof

/-! ## The status of a leaf (R92, R116) -/

theorem State.freshValue_eq_some_iff (s : State) (d : PollDest) (bytes : List Byte) :
    s.freshValue d = some bytes ↔
      ∃ r, s.record d = some r ∧ r.age ≤ 2 ∧ r.value = some bytes := by
  unfold State.freshValue
  cases s.record d with
  | none => simp
  | some r => simp

theorem leafStatusOf_eq_closedLocked_iff (b : Byte) :
    leafStatusOf b = some .closedLocked ↔ b = 1#8 := by
  unfold leafStatusOf
  grind

theorem leafStatusOf_eq_isolatedLocked_iff (b : Byte) :
    leafStatusOf b = some .isolatedLocked ↔ b = 4#8 := by
  unfold leafStatusOf
  grind

/-- A status is known exactly where a fresh value's first byte stands for it. -/
theorem State.leafStatus_eq_some_iff (s : State) (k : Nat) (status : LeafStatus) :
    s.leafStatus k = some status ↔
      ∃ b rest, s.freshValue (.leafStatus k) = some (b :: rest) ∧ leafStatusOf b = some status := by
  unfold State.leafStatus
  rcases s.freshValue (.leafStatus k) with _ | _ | ⟨b, rest⟩ <;> simp

/-- A status with one code is known exactly where the leaf's record is fresh and begins with that code. -/
theorem State.leafStatus_eq_some_iff_record (s : State) (k : Nat) {status : LeafStatus} {code : Byte}
    (hcode : ∀ b, leafStatusOf b = some status ↔ b = code) :
    s.leafStatus k = some status ↔
      ∃ r b rest, s.record (.leafStatus k) = some r ∧ r.age ≤ 2
        ∧ r.value = some (b :: rest) ∧ b = code := by
  simp only [State.leafStatus_eq_some_iff, State.freshValue_eq_some_iff, hcode]
  constructor
  · rintro ⟨b, rest, ⟨r, hrecord, hage, hvalue⟩, hb⟩
    exact ⟨r, b, rest, hrecord, hage, hvalue, hb⟩
  · rintro ⟨r, b, rest, hrecord, hage, hvalue, hb⟩
    exact ⟨b, rest, ⟨r, hrecord, hage, hvalue⟩, hb⟩

/-! ## The proof over the leaf table (R141) -/

/-- A leaf counts as proven where it is CLOSED and locked closed, or ISOLATED and locked isolated. -/
theorem leafProven_iff (st : LeafState) (status : Option LeafStatus) :
    leafProven st status = true ↔
      (st ≠ .isolated → st = .closed ∧ status = some .closedLocked)
        ∧ (st = .isolated → status = some .isolatedLocked) := by
  cases st <;> simp [leafProven]

/-- Every leaf of the leaf table has its number in the list the proof walks. -/
theorem State.mem_leafNumbers_of_leaf {s : State} {k : Nat} {l : Leaf} (h : s.leaf k = some l) :
    k ∈ s.leafNumbers := by
  unfold State.leaf at h
  split at h
  · cases h
  · obtain ⟨hlt, -⟩ := List.getElem?_eq_some_iff.mp h
    exact List.mem_map.mpr ⟨k - 1, List.mem_range.mpr hlt, by omega⟩

theorem vehicleProofNow_iff (s : State) :
    vehicleProofNow s = true ↔
      s.store.validity = none
        ∧ ∀ k l, s.leaf k = some l → leafProven l.state (s.leafStatus k) = true := by
  rw [vehicleProofNow, Bool.and_eq_true, decide_eq_true_iff, List.all_eq_true]
  refine and_congr_right fun _ => ⟨fun h k l hl => ?_, fun h k _ => ?_⟩
  · simpa only [hl] using h k (State.mem_leafNumbers_of_leaf hl)
  · split
    · rfl
    · next l hl => exact h k l hl

@[simp] theorem evalVehicleProof_vehicleProof (s : State) :
    (evalVehicleProof s).door.vehicleProof = vehicleProofNow s := rfl

/-- Settles O34: the proof holds where every leaf is proven, each side of which is a leaf status that reads
back as a fresh record. -/
theorem vehicleProofConditions : Obligations.VehicleProofConditions := by
  intro s
  simp only [evalVehicleProof_vehicleProof, vehicleProofNow_iff, leafProven_iff,
    State.leafStatus_eq_some_iff_record s _ leafStatusOf_eq_closedLocked_iff,
    State.leafStatus_eq_some_iff_record s _ leafStatusOf_eq_isolatedLocked_iff]

end Sys2Proof.Machine
end

section
/-! The requested stage count of a group (R152): what it is at a fresh request, and where it is 0. -/

namespace Sys2Proof.Machine

open Sys2Proof

variable {s : State} {g : Nat} {x : Group} {c : GroupConfig}

theorem State.requested_of_freshValue {b : Byte} {rest : List Byte} (hgroup : s.group g = some x)
    (hconfig : s.groupConfig g = some c) (hfresh : s.freshValue (.groupRequest g) = some (b :: rest))
    (hfault : x.fault = none) : s.requested g = min b.toNat c.currents.length := by
  simp [State.requested, hgroup, hconfig, hfresh, hfault]

/-- A request that is stale, or holds no byte, asks for no stage. -/
theorem State.requested_of_no_fresh_byte
    (hfresh : ∀ b rest, s.freshValue (.groupRequest g) ≠ some (b :: rest)) : s.requested g = 0 := by
  unfold State.requested
  split
  · next b rest _ _ hvalue => exact absurd hvalue (hfresh b rest)
  · rfl

theorem State.requested_of_fault (hgroup : s.group g = some x) (hfault : x.fault ≠ none) :
    s.requested g = 0 := by
  unfold State.requested
  split
  · next y _ _ _ hy _ _ =>
      obtain rfl : x = y := Option.some.inj (hgroup.symm.trans hy)
      exact if_neg hfault
  · rfl

/-- A record that is absent, stale (R92) or without a byte gives no fresh byte. -/
theorem State.freshValue_ne_cons {d : PollDest}
    (hrecord : s.record d = none
      ∨ ∃ r, s.record d = some r ∧ (2 < r.age ∨ r.value = none ∨ r.value = some []))
    (b : Byte) (rest : List Byte) : s.freshValue d ≠ some (b :: rest) := by
  intro hfresh
  obtain ⟨r, hr, hage, hvalue⟩ := (s.freshValue_eq_some_iff d _).mp hfresh
  rcases hrecord with hnone | ⟨r', hr', hempty⟩
  · simp [hnone] at hr
  · obtain rfl : r = r' := Option.some.inj (hr.symm.trans hr')
    rcases hempty with hstale | hnone | hnil
    · omega
    · simp [hnone] at hvalue
    · simp [hnil] at hvalue

end Sys2Proof.Machine
end

section
namespace Sys2Proof.Machine

open Sys2Proof

/-- Settles O36: a fresh first byte is cut off at the stage count; every other request, and group fault,
gives 0. -/
theorem requestedStages : Obligations.RequestedStages := by
  intro g x c s hgroup hconfig
  refine ⟨fun r b rest hrecord hage hvalue hfault => ?_,
    fun hrecord => State.requested_of_no_fresh_byte (State.freshValue_ne_cons hrecord),
    State.requested_of_fault hgroup⟩
  have hfresh : s.freshValue (.groupRequest g) = some (b :: rest) :=
    (s.freshValue_eq_some_iff _ _).mpr ⟨r, hrecord, hage, hvalue⟩
  rw [State.requested_of_freshValue hgroup hconfig hfresh hfault]
  exact ⟨Nat.min_eq_left, fun hlt => Nat.min_eq_right hlt.le⟩

end Sys2Proof.Machine
end

section
/-! The step: every command but the two of the supplies is an effect with the common end of a command, so the
PROVEN output stands at its source whatever ran (R148). -/

namespace Sys2Proof.Machine

open Sys2Proof

/-- Every command but POWER_ON and POWER_FAIL is an effect at a node with power and the common end of a
command. -/
theorem exec_eq_live (i : Instr) (s : State) :
    (∃ pins, i = .powerOn pins) ∨ i = .powerFail ∨ ∃ f, exec i s = live f s := by
  cases i with
  | powerOn pins => exact .inl ⟨pins, rfl⟩
  | powerFail => exact .inr (.inl rfl)
  | _ => exact .inr (.inr ⟨_, rfl⟩)

theorem step_empty {s : State} (h : s.pending = []) : step s = .next (idle s) := by
  unfold step
  rw [h]

theorem step_command {s : State} {c : Instr} {rest : List Instr} (h : s.pending = c :: rest) :
    step s = exec c { s with pending := rest } := by
  unfold step
  rw [h]

/-! ## What the idle node does -/

theorem idle_due {s : State} {c : Instr} (hp : s.powered = true) (hc : dueCommand s = some c) :
    idle s = { s with pending := [c] } := by
  simp [idle, hp, hc]

theorem idle_tick {s : State} (hp : s.powered = true) (hc : dueCommand s = none) : idle s = tick s := by
  simp [idle, hp, hc]

theorem idle_unpowered {s : State} (hp : s.powered = false) : idle s = s := by
  simp [idle, hp]

/-- Whatever the idle node does, it commands an event, lives through a millisecond, or nothing happens. -/
theorem idle_cases (s : State) : (∃ c, idle s = { s with pending := [c] }) ∨ idle s = tick s ∨ idle s = s := by
  unfold idle
  split
  · split
    · next c _ => exact .inl ⟨c, rfl⟩
    · exact .inr (.inl rfl)
  · exact .inr (.inr rfl)

/-! ## One millisecond and the PROVEN output -/

@[simp] theorem provenSource_tick (s : State) : provenSource (tick s) = provenSource s := rfl

@[simp] theorem provenSource_pending (s : State) (q : List Instr) :
    provenSource { s with pending := q } = provenSource s := rfl

theorem finish_provenFollows (s : State) : ProvenFollows (finish s) := fun _ => finish_proven s

theorem liveState_provenFollows (f : State → State) {s : State} (h : ProvenFollows s) :
    ProvenFollows (liveState f s) := by
  unfold liveState
  split
  · exact finish_provenFollows _
  · exact h

theorem losePower_powered (s : State) : (losePower s).powered = false := rfl

theorem exec_provenFollows {c : Instr} {s t : State} (h : ProvenFollows s) (hexec : exec c s = .next t) :
    ProvenFollows t := by
  rcases exec_eq_live c s with ⟨pins, rfl⟩ | rfl | ⟨f, hf⟩
  · cases hexec
    exact fun _ => rfl
  · cases hexec
    split
    · exact fun hp => absurd hp (by simp [losePower_powered])
    · exact h
  · rw [hf] at hexec
    cases hexec
    exact liveState_provenFollows f h

/-- Settles O58: a command drives the output at its end, and the idle node moves neither the output nor what
its source reads. -/
theorem everyStepKeepsProvenAtItsSource : Obligations.EveryStepKeepsProvenAtItsSource := by
  intro s t h hstep
  cases hq : s.pending with
  | nil =>
    rw [step_empty hq] at hstep
    cases hstep
    rcases idle_cases s with ⟨c, hc⟩ | hc | hc <;> rw [hc] <;> exact h
  | cons c rest =>
    rw [step_command hq] at hstep
    exact exec_provenFollows (s := { s with pending := rest }) h hstep

/-- Settles O1. -/
theorem stepRunsTheFrontCommand : Obligations.StepRunsTheFrontCommand :=
  fun _ _ _ h => step_command h

end Sys2Proof.Machine
end

section
/-! One millisecond (assumption 1): every timer of the node loses 1 and nothing else moves. -/

namespace Sys2Proof.Machine

open Sys2Proof

/-- What one millisecond makes of a list of timers. -/
def tickAll (l : List (Option Nat)) : List (Option Nat) := l.map tickTimer

theorem Port.tick_timers (q : Port) : q.tick.timers = tickAll q.timers := by
  cases q with
  | mk link signal dropInterval contactHoldoff settle neighbour lastDown silence helloTimer glitchTimer
      windowFrames windowErrors offer testDue run =>
    cases offer <;> cases run <;> rfl

theorem Port.tick_untimed (q : Port) : q.tick.untimed = q.untimed := by
  cases q with
  | mk link signal dropInterval contactHoldoff settle neighbour lastDown silence helloTimer glitchTimer
      windowFrames windowErrors offer testDue run =>
    cases offer <;> cases run <;> rfl

theorem QueueEntry.tick_timers (e : QueueEntry) : e.tick.timers = tickAll e.timers := by
  obtain ⟨op, mode, owner, phase, persist, current⟩ := e
  cases phase <;> cases persist <;> rfl

theorem QueueEntry.tick_untimed (e : QueueEntry) : e.tick.untimed = e.untimed := by
  obtain ⟨op, mode, owner, phase, persist, current⟩ := e
  cases phase <;> cases persist <;> rfl

theorem Persist.tick_left (p : Persist) : p.tick.left = tickTimer p.left := by cases p <;> rfl

theorem Persist.tick_untimed (p : Persist) : p.tick.untimed = p.untimed := by cases p <;> rfl

/-- Where a timer stands in a constructor (the census wait, the headless close delay, the pending increase), the
constructor decides. -/
theorem tick_timers (s : State) : (tick s).timers = tickAll s.timers := by
  simp only [State.timers, tick, tickAll, Port.tick_timers, Relay.tick, Consist.tick, Sweep.tick, Bus.tick,
    Req.tick, Door.tick, Heat.tick, List.map_append, List.map_map, List.flatten_append, List.map_flatten,
    List.map_cons, List.map_nil, Function.comp_def, QueueEntry.tick_timers, Persist.tick_left, tickTimer,
    Option.map_some, Option.map_map]
  congr 1
  · cases s.consist.wait <;> rfl
  · rcases s.heat.increase with _ | ⟨_, _ | _⟩ <;> cases s.door.headless <;> rfl

theorem tick_untimed (s : State) : (tick s).untimed = s.untimed := by
  simp only [State.untimed, tick, Port.tick_untimed, Relay.tick, Consist.tick, Sweep.tick, Bus.tick, Req.tick,
    Door.tick, Heat.tick, Persist.tick_untimed, QueueEntry.tick_untimed, Function.comp_def, List.map_map,
    Option.map_map]
  congr 2
  · cases s.consist.wait <;> rfl
  · cases s.door.headless <;> rfl
  · rcases s.heat.increase with _ | ⟨_, _ | _⟩ <;> rfl

/-- Settles O2. -/
theorem emptyQueueCommandsWhatIsDue : Obligations.EmptyQueueCommandsWhatIsDue := by
  refine ⟨fun s hq => ⟨fun c hp hc => ?_, fun hp hc => ?_, fun hp => ?_⟩, fun s => ⟨tick_timers s, tick_untimed s⟩⟩
  · rw [step_empty hq, idle_due hp hc]
  · rw [step_empty hq, idle_tick hp hc]
  · rw [step_empty hq, idle_unpowered hp]

end Sys2Proof.Machine
end

section
namespace Sys2Proof.Machine

open Sys2Proof

/-- Settles O60: every list of the state after power-on is empty but the notice RECORD-INVALID, and every image
is blank. -/
theorem resetMeetsTheInvariants : Obligations.ResetMeetsTheInvariants := by
  refine ⟨⟨fun _ => rfl, fun _ => ⟨rfl, rfl⟩, ?_⟩, ?_, ?_, ?_, ?_⟩
  · unfold Capacities LanesBounded; decide
  · refine ⟨by decide, by decide, fun e he => (by cases he), fun g => by exact Nat.zero_le 2,
      by decide, by decide⟩
  · refine ⟨⟨by decide, List.Pairwise.nil, fun e he => by cases he⟩, fun cls e he => ?_⟩
    cases cls <;> cases he
  · exact ⟨by decide, fun m hm => by cases hm⟩
  · exact ⟨List.length_replicate, List.length_replicate, List.length_replicate, fun img h => by cases h⟩

end Sys2Proof.Machine
end

section
/-! What every operation of the node keeps, part by part: the lanes, the queues and tables, the map of a node in
UNKNOWN, class 2, the rosters and the images. `Keeps s t` says it once of two states; each operation is then shown
to lead from a state to one that keeps it. -/

namespace Sys2Proof.Machine

open Sys2Proof

/-! ## The parts of the invariants -/

/-- `UnknownIsEmpty` as a matter of the Consist Unit alone. -/
def Consist.EmptyInUnknown (c : Consist) : Prop :=
  c.state = .unknown → c.activeMap = [] ∧ c.generation = 0#8

/-- `MapsBounded` as a matter of the Consist Unit alone. -/
def Consist.MapsFit (c : Consist) : Prop :=
  c.activeMap.length ≤ 32 ∧ ∀ m, c.pendingMap = some m → m.length ≤ 32

/-- `ImagesWhole` as a matter of the Record Store alone. -/
def Store.ImagesFit (r : Store) : Prop :=
  r.stored.length = 512 ∧ r.live.length = 512 ∧ r.edit.length = 512
    ∧ ∀ img, r.awaiting = some img → img.length = 512

/-- A walk that stands within its stations with its working roster below the next one (R83). -/
def QueueEntry.WalkFits (e : QueueEntry) : Prop :=
  ∀ next last started roster, e.op = .walk next last started roster →
    1 ≤ next.toNat ∧ next.toNat ≤ last.toNat ∧ last.toNat ≤ 30 ∧ RosterBelow next.toNat roster

/-- `RostersInOrder` as a matter of the Coach Bus Controller alone. -/
def Bus.RostersFit (b : Bus) : Prop :=
  RosterBelow 31 b.roster ∧ ∀ cls, ∀ e ∈ b.queue cls, e.WalkFits

/-- A heat write of one of 4 groups. -/
def QueueEntry.OfGroup (e : QueueEntry) : Prop := ∃ g, 1 ≤ g ∧ g ≤ 4 ∧ e.owner = .group g

/-- How many entries of a queue are in flight. -/
def flying (q : List QueueEntry) : Nat := q.countP fun e => decide (e.phase = .inFlight)

/-- How many entries of a queue an owner has. -/
def owned (o : Owner) (q : List QueueEntry) : Nat := q.countP fun e => decide (e.owner = o)

/-- The heat writes of class 2, beside the transaction in flight (R84, R87). -/
def Bus.HeatFits (b : Bus) : Prop :=
  (∀ e ∈ b.heatQueue, e.OfGroup) ∧ (∀ g, owned (.group g) b.heatQueue ≤ 2)
    ∧ flying b.heatQueue ≤ if b.flight = some (.queue .heat) then 1 else 0

/-- With the same heat writes, and a heat write still in flight where one was, class 2 stands as it stood. -/
theorem Bus.HeatFits.of_queue {b b' : Bus} (h : b.HeatFits) (hq : b'.heatQueue = b.heatQueue)
    (hf : b.flight = some (.queue .heat) → b'.flight = some (.queue .heat)) : b'.HeatFits := by
  obtain ⟨howner, htwo, hone⟩ := h
  refine ⟨by rwa [hq], by simpa only [hq] using htwo, ?_⟩
  rw [hq]
  by_cases hb : b.flight = some (.queue .heat)
  · rwa [if_pos (hf hb), ← if_pos (c := b.flight = some (.queue .heat)) (t := 1) (e := 0) hb]
  · rw [if_neg hb] at hone
    exact hone.trans (Nat.zero_le _)

/-- `HeatWritesBounded` but for the length of class 2, which follows. -/
def HeatFits (s : State) : Prop :=
  s.store.content.groups.length ≤ 4 ∧ s.heat.groups.length ≤ 4 ∧ s.bus.HeatFits

/-- Four groups with two writes each make eight (R84, R87). -/
theorem length_le_owned {q : List QueueEntry} (h : ∀ e ∈ q, e.OfGroup) :
    q.length ≤ owned (.group 1) q + owned (.group 2) q + owned (.group 3) q + owned (.group 4) q := by
  induction q with
  | nil => exact Nat.zero_le _
  | cons e rest ih =>
    obtain ⟨g, hlow, hhigh, ho⟩ := h e (by simp)
    have hrest := ih fun x hx => h x (by simp [hx])
    simp only [owned, List.countP_cons, List.length_cons, ho] at hrest ⊢
    have hg : g = 1 ∨ g = 2 ∨ g = 3 ∨ g = 4 := by omega
    rcases hg with rfl | rfl | rfl | rfl <;> simp <;> omega

theorem heatWritesBounded_iff (s : State) : HeatWritesBounded s ↔ HeatFits s := by
  constructor
  · rintro ⟨hc, hg, howner, htwo, hfly, -⟩
    exact ⟨hc, hg, howner, htwo, hfly⟩
  · rintro ⟨hc, hg, howner, htwo, hfly⟩
    refine ⟨hc, hg, howner, htwo, hfly, ?_⟩
    have := length_le_owned howner
    have h1 := htwo 1
    have h2 := htwo 2
    have h3 := htwo 3
    have h4 := htwo 4
    omega

/-- What the invariants ask of a state, kept part by part from one state to another. -/
structure Keeps (s t : State) : Prop where
  lanes : ∀ p, LanesBounded (s.port p) → LanesBounded (t.port p)
  changeIds : s.relay.changeIds.length ≤ 8 → t.relay.changeIds.length ≤ 8
  doors : s.bus.doorQueue.length ≤ 16 → t.bus.doorQueue.length ≤ 16
  remoteQueue : s.bus.remoteQueue.length ≤ 8 → t.bus.remoteQueue.length ≤ 8
  outbound : s.bus.outbound.length ≤ 16 → t.bus.outbound.length ≤ 16
  aliases : s.req.aliases.length ≤ 16 → t.req.aliases.length ≤ 16
  remotes : s.req.remotes.length ≤ 8 → t.req.remotes.length ≤ 8
  notices : s.req.notices.length ≤ 32 → t.req.notices.length ≤ 32
  unknown : s.consist.EmptyInUnknown → t.consist.EmptyInUnknown
  maps : s.consist.MapsFit → t.consist.MapsFit
  heat : HeatFits s → HeatFits t
  rosters : s.bus.RostersFit → t.bus.RostersFit
  images : s.store.ImagesFit → t.store.ImagesFit

theorem Keeps.refl (s : State) : Keeps s s := by constructor <;> intros <;> assumption

theorem Keeps.trans {s t u : State} (h : Keeps s t) (k : Keeps t u) : Keeps s u where
  lanes p := k.lanes p ∘ h.lanes p
  changeIds := k.changeIds ∘ h.changeIds
  doors := k.doors ∘ h.doors
  remoteQueue := k.remoteQueue ∘ h.remoteQueue
  outbound := k.outbound ∘ h.outbound
  aliases := k.aliases ∘ h.aliases
  remotes := k.remotes ∘ h.remotes
  notices := k.notices ∘ h.notices
  unknown := k.unknown ∘ h.unknown
  maps := k.maps ∘ h.maps
  heat := k.heat ∘ h.heat
  rosters := k.rosters ∘ h.rosters
  images := k.images ∘ h.images

/-- What a state keeps, stated in the words of the claim. -/
theorem Keeps.invariants {s t : State} (h : Keeps s t) :
    (Capacities s → Capacities t) ∧ (UnknownIsEmpty s → UnknownIsEmpty t)
      ∧ (HeatWritesBounded s → HeatWritesBounded t) ∧ (RostersInOrder s → RostersInOrder t)
      ∧ (MapsBounded s → MapsBounded t) ∧ (ImagesWhole s → ImagesWhole t) := by
  refine ⟨?_, h.unknown, ?_, h.rosters, h.maps, h.images⟩
  · rintro ⟨h1, h2, h3, h4, h5, h6, h7, h8, h9⟩
    exact ⟨h.lanes .lp1 h1, h.lanes .lp2 h2, h.changeIds h3, h.doors h4, h.remoteQueue h5, h.outbound h6,
      h.aliases h7, h.remotes h8, h.notices h9⟩
  · rw [heatWritesBounded_iff, heatWritesBounded_iff]
    exact h.heat

/-! ## The updates of one block -/

section
variable {s₀ s : State}

@[simp] theorem Keeps.foldl {α : Type} {f : State → α → State} (l : List α)
    (hf : ∀ s x, Keeps s₀ s → Keeps s₀ (f s x)) (h : Keeps s₀ s) : Keeps s₀ (l.foldl f s) := by
  induction l generalizing s with
  | nil => exact h
  | cons x rest ih => exact ih (hf _ _ h)

theorem Keeps.modPort_of (p : PortId) {f : Port → Port} (h : Keeps s₀ s)
    (hf : LanesBounded (s.port p) → LanesBounded (f (s.port p))) : Keeps s₀ (s.modPort p f) := by
  refine h.trans ?_
  constructor <;> try simp
  · intro q
    by_cases hq : q = p
    · subst hq
      simpa using hf
    · rw [State.modPort_port_ne hq]
      exact id
  · simp [HeatFits]

@[simp] theorem Keeps.modPort (p : PortId) {f : Port → Port} (h : Keeps s₀ s)
    (hu : ∀ q, (f q).urgent.length ≤ q.urgent.length) (hn : ∀ q, (f q).normal.length ≤ q.normal.length) :
    Keeps s₀ (s.modPort p f) :=
  h.modPort_of p fun hq => ⟨(hu _).trans hq.1, (hn _).trans hq.2⟩

/-- A state with the ports, the units with queues and tables, and the store as they were. -/
theorem Keeps.of_eq {t : State} (h : Keeps s₀ s) (hp : ∀ p, t.port p = s.port p) (hr : t.relay = s.relay)
    (hc : t.consist = s.consist) (hb : t.bus = s.bus) (hq : t.req = s.req) (hh : t.heat = s.heat)
    (hs : t.store = s.store) : Keeps s₀ t :=
  h.trans (by constructor <;> simp [HeatFits, hp, hr, hc, hb, hq, hh, hs])

@[simp] theorem Keeps.modSweep {f : Sweep → Sweep} (h : Keeps s₀ s) : Keeps s₀ (s.modSweep f) :=
  h.of_eq (by simp) rfl rfl rfl rfl rfl rfl

@[simp] theorem Keeps.modDoor {f : Door → Door} (h : Keeps s₀ s) : Keeps s₀ (s.modDoor f) :=
  h.of_eq (by simp) rfl rfl rfl rfl rfl rfl

@[simp] theorem Keeps.drawFree (h : Keeps s₀ s) : Keeps s₀ s.drawFree :=
  h.of_eq (by simp) rfl rfl rfl rfl rfl rfl

@[simp] theorem Keeps.modRelay {f : Relay → Relay} (h : Keeps s₀ s)
    (hf : ∀ r, r.changeIds.length ≤ 8 → (f r).changeIds.length ≤ 8) : Keeps s₀ (s.modRelay f) :=
  h.trans (by constructor <;> simp [HeatFits]; exact hf _)

@[simp] theorem Keeps.modReq {f : Req → Req} (h : Keeps s₀ s)
    (ha : ∀ r, r.aliases.length ≤ 16 → (f r).aliases.length ≤ 16)
    (hr : ∀ r, r.remotes.length ≤ 8 → (f r).remotes.length ≤ 8)
    (hn : ∀ r, r.notices.length ≤ 32 → (f r).notices.length ≤ 32) : Keeps s₀ (s.modReq f) := by
  refine h.trans ?_
  constructor <;> try simp [HeatFits]
  · exact ha _
  · exact hr _
  · exact hn _

@[simp] theorem Keeps.modHeat {f : Heat → Heat} (h : Keeps s₀ s)
    (hf : ∀ x, (f x).groups.length = x.groups.length) : Keeps s₀ (s.modHeat f) :=
  h.trans (by constructor <;> simp [HeatFits, hf])

/-- The Heat Unit takes a group table of at most 4 groups where the record lists no more. -/
theorem Keeps.modHeat_of {f : Heat → Heat} (h : Keeps s₀ s)
    (hf : s.store.content.groups.length ≤ 4 → (f s.heat).groups.length ≤ 4) : Keeps s₀ (s.modHeat f) := by
  refine h.trans ?_
  constructor <;> try simp
  rintro ⟨hc, -, hb⟩
  exact ⟨hc, hf hc, hb⟩

/-- The Consist Unit takes a value that leaves the state, the active map and the generation alone and holds no
new pending map. -/
@[simp] theorem Keeps.modConsist {f : Consist → Consist} (h : Keeps s₀ s)
    (hst : ∀ c, (f c).state = c.state) (ha : ∀ c, (f c).activeMap = c.activeMap)
    (hg : ∀ c, (f c).generation = c.generation)
    (hp : ∀ c m, (f c).pendingMap = some m → c.pendingMap = some m) : Keeps s₀ (s.modConsist f) := by
  refine h.trans ?_
  constructor <;> try simp [HeatFits, Consist.EmptyInUnknown, hst, ha, hg]
  rintro ⟨hmap, hpending⟩
  exact ⟨by rwa [ha], fun m hm => hpending m (hp _ m hm)⟩

/-- The Consist Unit takes a value of its own that meets the two invariants. -/
theorem Keeps.modConsist_of {f : Consist → Consist} (h : Keeps s₀ s)
    (hu : s.consist.EmptyInUnknown → (f s.consist).EmptyInUnknown)
    (hm : s.consist.MapsFit → (f s.consist).MapsFit) : Keeps s₀ (s.modConsist f) := by
  refine h.trans ?_
  constructor <;> try simp [HeatFits]
  · exact hu
  · exact hm

/-- The bus takes a value that leaves the queues and the roster alone, and a heat write in flight too. -/
@[simp] theorem Keeps.modBus {f : Bus → Bus} (h : Keeps s₀ s)
    (hd : ∀ b, (f b).doorQueue = b.doorQueue) (hh : ∀ b, (f b).heatQueue = b.heatQueue)
    (hr : ∀ b, (f b).remoteQueue = b.remoteQueue) (ho : ∀ b, (f b).outbound = b.outbound)
    (hros : ∀ b, (f b).roster = b.roster)
    (hf : ∀ b, b.flight = some (.queue .heat) → (f b).flight = some (.queue .heat)) :
    Keeps s₀ (s.modBus f) := by
  have hq : ∀ b cls, (f b).queue cls = b.queue cls := by
    intro b cls
    cases cls
    · exact hd b
    · exact hh b
    · exact hr b
  refine h.trans ?_
  constructor <;> try simp [Bus.RostersFit, hd, hr, ho, hros, hq]
  rintro ⟨hc, hx, hb⟩
  exact ⟨hc, hx, hb.of_queue (hh _) (hf _)⟩

/-- The bus takes a value that keeps every part of the invariants. -/
theorem Keeps.modBus_of {f : Bus → Bus} (h : Keeps s₀ s)
    (hd : s.bus.doorQueue.length ≤ 16 → (f s.bus).doorQueue.length ≤ 16)
    (hr : s.bus.remoteQueue.length ≤ 8 → (f s.bus).remoteQueue.length ≤ 8)
    (ho : s.bus.outbound.length ≤ 16 → (f s.bus).outbound.length ≤ 16)
    (hh : s.store.content.groups.length ≤ 4 → s.bus.HeatFits → (f s.bus).HeatFits)
    (hros : s.bus.RostersFit → (f s.bus).RostersFit) : Keeps s₀ (s.modBus f) := by
  refine h.trans ?_
  constructor <;> try simp
  · exact hd
  · exact hr
  · exact ho
  · rintro ⟨hc, hg, hb⟩
    exact ⟨hc, hg, hh hc hb⟩
  · exact hros

/-- A state that differs in nothing the invariants ask of but the Consist Unit, which meets its own two. -/
theorem Keeps.of_frame {t : State} (h : Keeps s₀ s) (hp : ∀ p, t.port p = s.port p)
    (hr : t.relay.changeIds = s.relay.changeIds) (hb : t.bus = s.bus) (hq : t.req = s.req)
    (hh : t.heat.groups = s.heat.groups) (hs : t.store = s.store)
    (hu : s.consist.EmptyInUnknown → t.consist.EmptyInUnknown)
    (hm : s.consist.MapsFit → t.consist.MapsFit) : Keeps s₀ t := by
  refine h.trans ?_
  constructor <;> try simp [HeatFits, hp, hr, hb, hq, hh, hs]
  · exact hu
  · exact hm

/-- The Record Store takes a value with whole images and at most 4 groups. -/
theorem Keeps.modStore_of {f : Store → Store} (h : Keeps s₀ s)
    (hi : s.store.ImagesFit → (f s.store).ImagesFit)
    (hg : s.store.content.groups.length ≤ 4 → (f s.store).content.groups.length ≤ 4) :
    Keeps s₀ (s.modStore f) := by
  refine h.trans ?_
  constructor <;> try simp
  · rintro ⟨hc, hx, hb⟩
    exact ⟨hg hc, hx, hb⟩
  · exact hi

/-- The Record Store takes a value with the images and the content as they were. -/
@[simp] theorem Keeps.modStore {f : Store → Store} (h : Keeps s₀ s)
    (hs : ∀ r, (f r).stored = r.stored) (hl : ∀ r, (f r).live = r.live) (he : ∀ r, (f r).edit = r.edit)
    (ha : ∀ r, (f r).awaiting = r.awaiting) (hc : ∀ r, (f r).content = r.content) :
    Keeps s₀ (s.modStore f) :=
  h.modStore_of (by simp [Store.ImagesFit, hs, hl, he, ha]) (by simp [hc])

@[simp] theorem Keeps.setProven (b : Bool) (h : Keeps s₀ s) : Keeps s₀ { s with proven := b } :=
  h.of_eq (by rintro ⟨⟩ <;> rfl) rfl rfl rfl rfl rfl rfl

@[simp] theorem Keeps.setPins (pins : Pins) (h : Keeps s₀ s) : Keeps s₀ { s with pins := pins } :=
  h.of_eq (by rintro ⟨⟩ <;> rfl) rfl rfl rfl rfl rfl rfl

@[simp] theorem Keeps.setPending (q : List Instr) (h : Keeps s₀ s) : Keeps s₀ { s with pending := q } :=
  h.of_eq (by rintro ⟨⟩ <;> rfl) rfl rfl rfl rfl rfl rfl

end

end Sys2Proof.Machine
end

section
/-! What sending keeps: cab frames, notices, lanes, frames by position, answers. -/

namespace Sys2Proof.Machine

open Sys2Proof

section
variable {s₀ s : State}

/-! ## Cab frames and notices -/

@[simp] theorem keeps_resetReplyGone (h : Keeps s₀ s) : Keeps s₀ (resetReplyGone s) := by
  simp [resetReplyGone, h]

@[simp] theorem keeps_cabFrameGone (f : CabFrame) (h : Keeps s₀ s) : Keeps s₀ (cabFrameGone f s) := by
  unfold cabFrameGone
  split <;> simp [h]

@[simp] theorem keeps_offerCab (f : CabFrame) (h : Keeps s₀ s) : Keeps s₀ (offerCab f s) := by
  unfold offerCab
  split
  · next hroom =>
    have hlen : s.bus.outbound.length < 16 := hroom.2
    exact h.modBus_of id id (fun _ => by simpa using hlen) (fun _ hb => hb) (fun hb => hb)
  · simp [h]

@[simp] theorem keeps_offerCabReply (tag status position : Byte) (payload : List Byte) (mark : Mark)
    (h : Keeps s₀ s) : Keeps s₀ (offerCabReply tag status position payload mark s) :=
  keeps_offerCab _ h

@[simp] theorem keeps_offerCabNotice (position : Byte) (entry : List Byte) (h : Keeps s₀ s) :
    Keeps s₀ (offerCabNotice position entry s) :=
  keeps_offerCab _ h

@[simp] theorem keeps_enqueueNotice (n : Notice) (h : Keeps s₀ s) : Keeps s₀ (enqueueNotice n s) := by
  unfold enqueueNotice
  split
  · simp [h]
  · split
    · next hroom =>
      have hlen : s.req.notices.length < 32 := hroom
      exact h.trans (by constructor <;> simp [HeatFits]; omega)
    · simp [h]

/-! ## Lanes -/

@[simp] theorem keeps_laneFrameGone (p : PortId) (e : LaneEntry) (h : Keeps s₀ s) :
    Keeps s₀ (laneFrameGone p e s) := by
  unfold laneFrameGone
  split
  · exact h
  · refine h.modPort_of p fun hq => ?_
    split <;> exact hq
  · simp [h]

@[simp] theorem keeps_dropFrame (p : PortId) (e : LaneEntry) (h : Keeps s₀ s) :
    Keeps s₀ (dropFrame p e s) := by
  unfold dropFrame
  dsimp only
  refine keeps_laneFrameGone p e ?_
  split
  · exact keeps_enqueueNotice _ (by simp [h])
  · simp [h]

@[simp] theorem keeps_dropFrames (p : PortId) (es : List LaneEntry) (h : Keeps s₀ s) :
    Keeps s₀ (dropFrames p es s) :=
  h.foldl es fun _ e hs => keeps_dropFrame p e hs

@[simp] theorem keeps_pump (p : PortId) (h : Keeps s₀ s) : Keeps s₀ (pump p s) := by
  unfold pump
  dsimp only
  split
  · split
    · next e rest hu =>
      refine h.modPort_of p fun hq => ⟨?_, hq.2⟩
      have hlen := hq.1
      rw [hu] at hlen
      exact Nat.le_of_succ_le hlen
    · next e rest hu hn =>
      refine h.modPort_of p fun hq => ⟨hq.1, ?_⟩
      have hlen := hq.2
      rw [hn] at hlen
      exact Nat.le_of_succ_le hlen
    · exact h
  · exact h

theorem takeFirst_length {test : LaneEntry → Bool} {lane rest : List LaneEntry} {e : LaneEntry}
    (h : takeFirst test lane = some (e, rest)) : rest.length + 1 = lane.length := by
  induction lane generalizing rest with
  | nil => cases h
  | cons x others ih =>
    unfold takeFirst at h
    split at h
    · cases h
      rfl
    · obtain ⟨⟨found, others'⟩, hfound, heq⟩ := Option.map_eq_some_iff.mp h
      cases heq
      simp [← ih hfound]

@[simp] theorem keeps_joinUrgent (p : PortId) (e : LaneEntry) (h : Keeps s₀ s) :
    Keeps s₀ (joinUrgent p e s) := by
  unfold joinUrgent
  dsimp only
  split
  · next hroom =>
    have hlen : (s.port p).urgent.length < 8 := hroom
    exact h.modPort_of p fun hq => ⟨by simpa using hlen, hq.2⟩
  · split
    · next old rest htake =>
      refine keeps_dropFrame p old (h.modPort_of p fun hq => ⟨?_, hq.2⟩)
      simpa [takeFirst_length htake] using hq.1
    · exact keeps_dropFrame p e h

@[simp] theorem keeps_joinNormal (p : PortId) (e : LaneEntry) (h : Keeps s₀ s) :
    Keeps s₀ (joinNormal p e s) := by
  unfold joinNormal
  split
  · next hroom =>
    have hlen : (s.port p).normal.length < 16 := hroom
    exact h.modPort_of p fun hq => ⟨hq.1, by simpa using hlen⟩
  · exact keeps_dropFrame p e h

@[simp] theorem keeps_noRoute (p : PortId) (e : LaneEntry) (h : Keeps s₀ s) : Keeps s₀ (noRoute p e s) := by
  simp [noRoute, h]

@[simp] theorem keeps_offer (p : PortId) (e : LaneEntry) (h : Keeps s₀ s) : Keeps s₀ (offer p e s) := by
  unfold offer
  dsimp only
  split
  · split <;> simp [h]
  · simp [h]

@[simp] theorem keeps_offerFrame (p : PortId) (f : Frame) (h : Keeps s₀ s) : Keeps s₀ (offerFrame p f s) :=
  keeps_offer p _ h

@[simp] theorem keeps_offerIfCarrying (p : PortId) (f : Frame) (h : Keeps s₀ s) :
    Keeps s₀ (offerIfCarrying p f s) := by
  unfold offerIfCarrying
  split <;> simp [h]

@[simp] theorem keeps_broadcast (f : Frame) (h : Keeps s₀ s) : Keeps s₀ (broadcast f s) := by
  simp [broadcast, h]

/-! ## Frames by position, answers, forwarding -/

@[simp] theorem keeps_route (e : LaneEntry) (h : Keeps s₀ s) : Keeps s₀ (route e s) := by
  unfold route
  dsimp only
  split
  · simp [h]
  · split <;> simp [h]

@[simp] theorem keeps_deliverReply (f : Frame) (mark : Mark) (h : Keeps s₀ s) :
    Keeps s₀ (deliverReply f mark s) := by
  unfold deliverReply
  dsimp only
  split
  · split
    · simp [h]
    · split <;> simp [h]
  · simp [h]

@[simp] theorem keeps_deliverNotice (f : Frame) (h : Keeps s₀ s) : Keeps s₀ (deliverNotice f s) := by
  unfold deliverNotice
  split <;> simp [h]

@[simp] theorem keeps_originateReply (destination tag : Byte) (status : Status) (payload : List Byte)
    (mark : Mark) (h : Keeps s₀ s) : Keeps s₀ (originateReply destination tag status payload mark s) := by
  unfold originateReply
  dsimp only
  split
  · simp [h]
  · split <;> simp [h]

@[simp] theorem keeps_originateNotice (n : Notice) (h : Keeps s₀ s) : Keeps s₀ (originateNotice n s) := by
  unfold originateNotice
  dsimp only
  split
  · simp [h]
  · split <;> simp [h]

@[simp] theorem keeps_forwardNotices (h : Keeps s₀ s) : Keeps s₀ (forwardNotices s) := by
  unfold forwardNotices
  split
  · split
    · exact h
    · next n rest hn =>
      refine keeps_originateNotice n (h.trans ?_)
      constructor <;> simp [HeatFits, hn]
      omega
  · exact h

@[simp] theorem keeps_raise (kind : NoticeKind) (subject : Byte) (value : Nat) (h : Keeps s₀ s) :
    Keeps s₀ (raise kind subject value s) := by
  simp [raise, h]

@[simp] theorem keeps_answer (src : ReqSource) (status : Status) (payload : List Byte) (mark : Mark)
    (h : Keeps s₀ s) : Keeps s₀ (answer src status payload mark s) := by
  unfold answer
  split <;> simp [h]

@[simp] theorem keeps_driveProven (h : Keeps s₀ s) : Keeps s₀ (driveProven s) := by
  simp [driveProven, h]

@[simp] theorem keeps_finish (h : Keeps s₀ s) : Keeps s₀ (finish s) := by
  simp [finish, h]

end

end Sys2Proof.Machine
end

section
/-! What the coach bus keeps: the arbiter, the offers to the class queues, and with them the Door and the Heat
Unit. -/

namespace Sys2Proof.Machine

open Sys2Proof

/-! ## Queues as lists: what the invariants ask of them -/

/-- Two queues of which the invariants cannot tell more than that some entries of the first have started: as many
entries, as many of each owner, and only walks and owners that stood there. -/
structure SameEntries (q q' : List QueueEntry) : Prop where
  length : q'.length = q.length
  owned : ∀ o, owned o q' = owned o q
  walks : (∀ e ∈ q, e.WalkFits) → ∀ e ∈ q', e.WalkFits
  groups : (∀ e ∈ q, e.OfGroup) → ∀ e ∈ q', e.OfGroup

theorem started_walkFits {e : QueueEntry} (h : e.WalkFits) : e.started.WalkFits := by
  intro next last started roster hop
  cases hope : e.op with
  | walk n l st r =>
    simp only [QueueEntry.started, hope, BusOp.walk.injEq] at hop
    obtain ⟨rfl, rfl, -, rfl⟩ := hop
    exact h _ _ _ _ hope
  | read station item => simp [QueueEntry.started, hope] at hop
  | write station item data => simp [QueueEntry.started, hope] at hop

@[simp] theorem mem_behindWalk {e x : QueueEntry} {q : List QueueEntry} :
    x ∈ behindWalk e q ↔ x = e ∨ x ∈ q := by
  cases q with
  | nil => simp [behindWalk]
  | cons y rest =>
    simp only [behindWalk]
    split
    · simp only [List.mem_cons]
      tauto
    · simp

@[simp] theorem countP_behindWalk (p : QueueEntry → Bool) (e : QueueEntry) (q : List QueueEntry) :
    (behindWalk e q).countP p = (e :: q).countP p := by
  cases q with
  | nil => rfl
  | cons y rest =>
    simp only [behindWalk]
    split
    · simp only [List.countP_cons]
      omega
    · rfl

/-- The arbiter changes no entry of a queue but the one it starts (R85). -/
theorem startFirst_sameEntries {held : List (Byte × Byte)} {q q' : List QueueEntry}
    (h : startFirst held q = some q') : SameEntries q q' := by
  induction q generalizing held q' with
  | nil => cases h
  | cons e rest ih =>
    have hlen := startFirst_length _ _ _ h
    unfold startFirst at h
    split at h
    · cases h
      refine ⟨hlen, fun o => rfl, fun hw x hx => ?_, fun hg x hx => ?_⟩
      · rcases List.mem_cons.mp hx with rfl | hx
        · exact started_walkFits (hw e (by simp))
        · exact hw x (by simp [hx])
      · rcases List.mem_cons.mp hx with rfl | hx
        · exact hg e (by simp)
        · exact hg x (by simp [hx])
    · obtain ⟨r, hr, rfl⟩ := Option.map_eq_some_iff.mp h
      have hsame := ih hr
      refine ⟨hlen, fun o => ?_, fun hw x hx => ?_, fun hg x hx => ?_⟩
      · have := hsame.owned o
        simp only [owned] at this
        simp [owned, List.countP_cons, this]
      · rcases mem_behindWalk.mp hx with rfl | hx
        · exact hw x (by simp)
        · exact hsame.walks (fun y hy => hw y (by simp [hy])) x hx
      · rcases mem_behindWalk.mp hx with rfl | hx
        · exact hg x (by simp)
        · exact hsame.groups (fun y hy => hg y (by simp [hy])) x hx

/-- The arbiter puts one waiting entry of a queue in flight (R85). -/
theorem startFirst_flying {held : List (Byte × Byte)} {q q' : List QueueEntry}
    (h : startFirst held q = some q') : flying q' = flying q + 1 := by
  induction q generalizing held q' with
  | nil => cases h
  | cons e rest ih =>
    unfold startFirst at h
    split at h
    · next hwait =>
      cases h
      simp [flying, hwait.1, QueueEntry.started]
    · obtain ⟨r, hr, rfl⟩ := Option.map_eq_some_iff.mp h
      have := ih hr
      simp only [flying] at this
      simp only [flying, countP_behindWalk, List.countP_cons, this]
      omega

/-! ## The arbiter and the offers -/

section
variable {s₀ s : State}

theorem Bus.rostersFit_of_walks {b b' : Bus} (h : b.RostersFit) (hroster : b'.roster = b.roster)
    (hq : ∀ cls, (∀ e ∈ b.queue cls, e.WalkFits) → ∀ e ∈ b'.queue cls, e.WalkFits) : b'.RostersFit :=
  ⟨hroster ▸ h.1, fun cls => hq cls (h.2 cls)⟩

/-- A state with an idle bus gives it to the oldest eligible entry of a class queue (R85). -/
theorem keeps_startClass (cls : QueueClass) {q : List QueueEntry} (h : Keeps s₀ s)
    (hidle : s.bus.flight = none) (hq : startFirst [] (s.bus.queue cls) = some q) :
    Keeps s₀ (s.modBus fun b => (b.withQueue cls q).fly (.queue cls)) := by
  have hsame := startFirst_sameEntries hq
  have hfly := startFirst_flying hq
  have hlen := hsame.length
  refine h.modBus_of ?_ ?_ ?_ (fun _ hb => ?_) fun hb => Bus.rostersFit_of_walks hb ?_ fun cls' hw => ?_
  · cases cls <;> simp_all [Bus.withQueue, Bus.fly, Bus.queue]
  · cases cls <;> simp_all [Bus.withQueue, Bus.fly, Bus.queue]
  · cases cls <;> simp [Bus.withQueue, Bus.fly]
  · obtain ⟨hg, htwo, hone⟩ := hb
    simp only [hidle, reduceCtorEq, if_false, Nat.le_zero_eq] at hone
    cases cls with
    | heat =>
      refine ⟨hsame.groups hg, fun g => (hsame.owned _).trans_le (htwo g), ?_⟩
      simp only [Bus.queue] at hfly
      simp [Bus.withQueue, Bus.fly, hfly, hone]
    | door => exact ⟨hg, htwo, by simp [Bus.withQueue, Bus.fly, hone]⟩
    | remote => exact ⟨hg, htwo, by simp [Bus.withQueue, Bus.fly, hone]⟩
  · cases cls <;> rfl
  · cases cls <;> cases cls' <;> first | exact hw | exact hsame.walks hw

/-- A transaction of no class queue goes in flight on an idle bus. -/
theorem keeps_fly {f : Flight} {g : Bus → Bus} (h : Keeps s₀ s) (hidle : s.bus.flight = none)
    (hd : ∀ b, (g b).doorQueue = b.doorQueue) (hh : ∀ b, (g b).heatQueue = b.heatQueue)
    (hr : ∀ b, (g b).remoteQueue = b.remoteQueue) (ho : ∀ b, (g b).outbound = b.outbound)
    (hros : ∀ b, (g b).roster = b.roster) : Keeps s₀ (s.modBus fun b => (g b).fly f) := by
  refine h.modBus_of (by simp [Bus.fly, hd]) (by simp [Bus.fly, hr]) (by simp [Bus.fly, ho]) (fun _ hb => ?_)
    fun hb => Bus.rostersFit_of_walks hb (hros _) fun cls hw => ?_
  · obtain ⟨hg, htwo, hone⟩ := hb
    simp only [hidle, reduceCtorEq, if_false, Nat.le_zero_eq] at hone
    refine ⟨by simpa [Bus.fly, hh] using hg, by simpa [Bus.fly, hh] using htwo, ?_⟩
    simp [Bus.fly, hh, hone]
  · cases cls <;> simpa [Bus.fly, Bus.queue, hd, hh, hr] using hw

@[simp] theorem keeps_arbitrate (h : Keeps s₀ s) : Keeps s₀ (arbitrate s) := by
  unfold arbitrate
  split
  · next hidle =>
    unfold startNext
    split
    · next q hq => exact keeps_startClass .door h hidle hq
    · split
      · next q hq => exact keeps_startClass .heat h hidle hq
      · split
        · next t _ => exact keeps_fly (g := id) h hidle (by simp) (by simp) (by simp) (by simp) (by simp)
        · split
          · next q hq => exact keeps_startClass .remote h hidle hq
          · cases nextPoll s with
            | none => exact h
            | some x =>
              exact keeps_fly (g := fun b => { b with pollPersist := _ }) h hidle (by simp) (by simp) (by simp)
                (by simp) (by simp)
  · exact h

/-- A class 1 or class 4 queue takes a value that is no longer than its capacity and adds no walk out of its
stations. -/
theorem Keeps.setDoorQueue {q : List QueueEntry} (h : Keeps s₀ s)
    (hlen : s.bus.doorQueue.length ≤ 16 → q.length ≤ 16)
    (hw : (∀ e ∈ s.bus.doorQueue, e.WalkFits) → ∀ e ∈ q, e.WalkFits) :
    Keeps s₀ (s.modBus fun b => { b with doorQueue := q }) := by
  refine h.modBus_of hlen id id (fun _ hb => hb) fun hb => Bus.rostersFit_of_walks hb rfl fun cls => ?_
  cases cls
  · exact hw
  · exact id
  · exact id

/-- An entry that is no walk. -/
theorem fresh_walkFits {op : BusOp} {mode : BusMode} {o : Owner}
    (h : ∀ next last started roster, op ≠ .walk next last started roster) :
    (QueueEntry.fresh op mode o).WalkFits :=
  fun next last started roster hop => absurd hop (h next last started roster)

theorem withoutOldest_subset {o : Owner} {q rest : List QueueEntry} (h : withoutOldest o q = some rest) :
    ∀ e ∈ rest, e ∈ q := by
  induction q generalizing rest with
  | nil => cases h
  | cons x others ih =>
    unfold withoutOldest at h
    split at h
    · cases h
      exact fun e he => by simp [he]
    · obtain ⟨r, hr, rfl⟩ := Option.map_eq_some_iff.mp h
      intro e he
      rcases List.mem_cons.mp he with rfl | he
      · simp
      · simp [ih hr e he]

@[simp] theorem keeps_offerDoorWrite (k : Nat) (station item command : Byte) (h : Keeps s₀ s) :
    Keeps s₀ (offerDoorWrite k station item command s).1 := by
  have hnew : (QueueEntry.fresh (.write station item [command]) (.persist Config.writePersistMs)
      (.leaf k)).WalkFits := fresh_walkFits (by simp)
  have happend : ∀ q : List QueueEntry, (∀ e ∈ q, e.WalkFits) →
      ∀ e ∈ q ++ [QueueEntry.fresh (.write station item [command]) (.persist Config.writePersistMs) (.leaf k)],
        e.WalkFits := by
    intro q hq e he
    rcases List.mem_append.mp he with he | he
    · exact hq e he
    · rw [List.mem_singleton.mp he]
      exact hnew
  unfold offerDoorWrite
  dsimp only
  split
  · next hroom =>
    have hlen : s.bus.doorQueue.length < 16 := hroom
    exact keeps_arbitrate (h.setDoorQueue (fun _ => by simpa using hlen) (happend _))
  · split
    · next rest hrest =>
      have hshort := withoutOldest_length _ _ _ hrest
      refine keeps_arbitrate (h.setDoorQueue (fun hd => by simpa [hshort] using hd) fun hw => ?_)
      exact happend _ fun e he => hw e (withoutOldest_subset hrest e he)
    · exact h

/-! ### Class 2 (R87, R160) -/

@[simp] theorem owned_supersede (o o' : Owner) (q : List QueueEntry) :
    owned o (supersede o' q) = owned o q := by
  simp only [owned, supersede, List.countP_map]
  refine List.countP_congr fun e _ => ?_
  simp only [Function.comp_apply]
  split <;> rfl

@[simp] theorem flying_supersede (o : Owner) (q : List QueueEntry) : flying (supersede o q) = flying q := by
  simp only [flying, supersede, List.countP_map]
  refine List.countP_congr fun e _ => ?_
  simp only [Function.comp_apply]
  split <;> rfl

theorem supersede_walkFits {o : Owner} {q : List QueueEntry} (h : ∀ e ∈ q, e.WalkFits) :
    ∀ e ∈ supersede o q, e.WalkFits := by
  intro e he
  obtain ⟨x, hx, rfl⟩ := List.mem_map.mp he
  split
  · exact h x hx
  · exact h x hx

theorem supersede_ofGroup {o : Owner} {q : List QueueEntry} (h : ∀ e ∈ q, e.OfGroup) :
    ∀ e ∈ supersede o q, e.OfGroup := by
  intro e he
  obtain ⟨x, hx, rfl⟩ := List.mem_map.mp he
  split
  · exact h x hx
  · exact h x hx

/-- What a new heat write finds: of its owner's entries those in flight stand, the others are gone (R87). -/
theorem replaceWaiting_mem {o : Owner} {new : QueueEntry} {q q' : List QueueEntry}
    (h : replaceWaiting o new q = some q') : ∀ e ∈ q', e = new ∨ e ∈ q := by
  induction q generalizing q' with
  | nil => cases h
  | cons x rest ih =>
    simp only [replaceWaiting] at h
    split at h
    · cases h
      intro e he
      rcases List.mem_cons.mp he with rfl | he
      · exact .inl rfl
      · exact .inr (List.mem_cons_of_mem _ (List.mem_filter.mp he).1)
    · obtain ⟨r, hr, rfl⟩ := Option.map_eq_some_iff.mp h
      intro e he
      rcases List.mem_cons.mp he with rfl | he
      · exact .inr (by simp)
      · exact (ih hr e he).imp_right fun hm => List.mem_cons_of_mem _ hm

theorem replaceWaiting_flying {o : Owner} {new : QueueEntry} {q q' : List QueueEntry}
    (hnew : new.phase = .waiting) (h : replaceWaiting o new q = some q') : flying q' = flying q := by
  induction q generalizing q' with
  | nil => cases h
  | cons x rest ih =>
    simp only [replaceWaiting] at h
    split at h
    · next hx =>
      cases h
      have hphase : x.phase ≠ .inFlight := by
        simpa [QueueEntry.waitsFor] using (Bool.and_eq_true_iff.mp hx).2
      simp only [flying, List.countP_cons, hnew, List.countP_filter, hphase, reduceCtorEq, decide_false,
        Bool.false_eq_true, if_false, Nat.add_zero]
      refine List.countP_congr fun e _ => ?_
      simp [QueueEntry.waitsFor]
      tauto
    · obtain ⟨r, hr, rfl⟩ := Option.map_eq_some_iff.mp h
      have := ih hr
      simp only [flying] at this
      simp [flying, List.countP_cons, this]

/-- Of an owner, a queue after its waiting writes were replaced holds the new one and those in flight. -/
theorem replaceWaiting_owned {o : Owner} {new : QueueEntry} {q q' : List QueueEntry}
    (hown : new.owner = o) (h : replaceWaiting o new q = some q') :
    owned o q' ≤ flying q + 1 := by
  induction q generalizing q' with
  | nil => cases h
  | cons x rest ih =>
    simp only [replaceWaiting] at h
    split at h
    · cases h
      have hfilter : (rest.filter fun x => !x.waitsFor o).countP (fun e => decide (e.owner = o)) ≤ flying rest := by
        rw [List.countP_filter]
        refine List.countP_mono_left fun e _ he => ?_
        simp only [QueueEntry.waitsFor, Bool.and_eq_true, decide_eq_true_eq, Bool.not_eq_true',
          Bool.and_eq_false_iff, decide_eq_false_iff_not] at he ⊢
        tauto
      simp only [owned, flying, List.countP_cons, hown] at hfilter ⊢
      simp only [decide_true, if_true]
      omega
    · next hx =>
      obtain ⟨r, hr, rfl⟩ := Option.map_eq_some_iff.mp h
      have hrest := ih hr
      have hflies : x.owner = o → x.phase = .inFlight := by
        simpa [QueueEntry.waitsFor] using hx
      simp only [owned, flying, List.countP_cons] at hrest ⊢
      by_cases ho : x.owner = o
      · simp [ho, hflies ho]
        omega
      · simp [ho]
        omega

theorem replaceWaiting_owned_other {o o' : Owner} {new : QueueEntry} {q q' : List QueueEntry}
    (hown : new.owner = o) (hne : o' ≠ o) (h : replaceWaiting o new q = some q') :
    owned o' q' = owned o' q := by
  induction q generalizing q' with
  | nil => cases h
  | cons x rest ih =>
    simp only [replaceWaiting] at h
    split at h
    · next hx =>
      cases h
      have hxo : x.owner = o := by simpa using (Bool.and_eq_true_iff.mp hx).1
      simp only [owned, List.countP_cons, hown, hxo, hne.symm, List.countP_filter, decide_false,
        Bool.false_eq_true, if_false]
      refine congrArg (· + 0) (List.countP_congr fun e _ => ?_)
      simp only [QueueEntry.waitsFor, Bool.and_eq_true, decide_eq_true_eq, Bool.not_eq_true',
        Bool.and_eq_false_iff, decide_eq_false_iff_not]
      constructor
      · exact And.left
      · exact fun he => ⟨he, .inl fun h' => hne (he.symm.trans h')⟩
    · obtain ⟨r, hr, rfl⟩ := Option.map_eq_some_iff.mp h
      have := ih hr
      simp only [owned] at this
      simp [owned, List.countP_cons, this]

theorem replaceWaiting_none {o : Owner} {new : QueueEntry} {q : List QueueEntry}
    (h : replaceWaiting o new q = none) : owned o q ≤ flying q := by
  induction q with
  | nil => exact Nat.le_refl 0
  | cons x rest ih =>
    simp only [replaceWaiting] at h
    split at h
    · cases h
    · next hx =>
      have hrest := ih (Option.map_eq_none_iff.mp h)
      have hflies : x.owner = o → x.phase = .inFlight := by
        simpa [QueueEntry.waitsFor] using hx
      simp only [owned, flying, List.countP_cons] at hrest ⊢
      by_cases ho : x.owner = o
      · simp [ho, hflies ho]
        omega
      · simp [ho]
        omega

/-- The queue of class 2 after a write was offered for a group. -/
def heatQueueWith (g : Nat) (new : QueueEntry) (q : List QueueEntry) : List QueueEntry :=
  (replaceWaiting (.group g) new (supersede (.group g) q)).getD (supersede (.group g) q ++ [new])

theorem heatQueueWith_mem {g : Nat} {new e : QueueEntry} {q : List QueueEntry}
    (h : e ∈ heatQueueWith g new q) : e = new ∨ e ∈ supersede (.group g) q := by
  unfold heatQueueWith at h
  cases hr : replaceWaiting (.group g) new (supersede (.group g) q) with
  | none => simpa [hr, or_comm] using h
  | some r =>
    rw [hr] at h
    exact replaceWaiting_mem hr e h

theorem heatQueueWith_flying {g : Nat} {new : QueueEntry} (hnew : new.phase = .waiting)
    (q : List QueueEntry) : flying (heatQueueWith g new q) = flying q := by
  unfold heatQueueWith
  cases hr : replaceWaiting (.group g) new (supersede (.group g) q) with
  | none =>
    rw [← flying_supersede (.group g) q]
    simp [flying, hnew]
  | some r => exact (replaceWaiting_flying hnew hr).trans (flying_supersede _ q)

theorem heatQueueWith_owned {g : Nat} {new : QueueEntry} (hown : new.owner = .group g) (q : List QueueEntry) :
    owned (.group g) (heatQueueWith g new q) ≤ flying q + 1 := by
  unfold heatQueueWith
  rw [← flying_supersede (.group g) q]
  cases hr : replaceWaiting (.group g) new (supersede (.group g) q) with
  | none =>
    have := replaceWaiting_none hr
    simp only [owned] at this
    simpa [owned, hown] using this
  | some r => exact replaceWaiting_owned hown hr

theorem heatQueueWith_owned_other {g j : Nat} {new : QueueEntry} (hown : new.owner = .group g) (hj : j ≠ g)
    (q : List QueueEntry) : owned (.group j) (heatQueueWith g new q) = owned (.group j) q := by
  have hne : Owner.group j ≠ .group g := fun h => hj (Owner.group.inj h)
  unfold heatQueueWith
  rw [← owned_supersede (.group j) (.group g) q]
  cases hr : replaceWaiting (.group g) new (supersede (.group g) q) with
  | none => simp [owned, hown, hne.symm]
  | some r => exact replaceWaiting_owned_other hown hne hr

/-- A heat write of one of the record's groups (R87, R160). -/
theorem keeps_offerHeatWrite {g : Nat} (station item : Byte) (count : Nat) (h : Keeps s₀ s) (hg : 1 ≤ g)
    (hlast : g ≤ s.store.content.groups.length) : Keeps s₀ (offerHeatWrite g station item count s) := by
  refine keeps_arbitrate (h.modBus_of id id id (fun hc hb => ?_)
    fun hb => Bus.rostersFit_of_walks hb rfl fun cls hw => ?_)
  · obtain ⟨howner, htwo, hone⟩ := hb
    have hfly : flying s.bus.heatQueue ≤ 1 := hone.trans (by split <;> omega)
    refine ⟨fun e he => ?_, fun j => ?_, (heatQueueWith_flying rfl _).trans_le hone⟩
    · rcases heatQueueWith_mem he with rfl | he
      · exact ⟨g, hg, by omega, rfl⟩
      · exact supersede_ofGroup howner e he
    · by_cases hj : j = g
      · subst hj
        exact (heatQueueWith_owned rfl _).trans (by omega)
      · exact (heatQueueWith_owned_other rfl hj _).trans_le (htwo j)
  · cases cls with
    | heat =>
      intro e he
      rcases heatQueueWith_mem he with rfl | he
      · exact fresh_walkFits (by simp)
      · exact supersede_walkFits hw e he
    | door => exact hw
    | remote => exact hw

theorem keeps_offerRemote {src : ReqSource} {op : BusOp} {mode : BusMode} {t : State} (h : Keeps s₀ s)
    (hop : (QueueEntry.fresh op mode (.remote src)).WalkFits) (ht : offerRemote src op mode s = some t) :
    Keeps s₀ t := by
  unfold offerRemote at ht
  split at ht
  · next hroom =>
    have hlen : s.bus.remoteQueue.length < 8 := hroom
    cases ht
    refine keeps_arbitrate (h.modBus_of id (fun _ => by simpa using hlen) id (fun _ hb => hb)
      fun hb => Bus.rostersFit_of_walks hb rfl fun cls hw => ?_)
    cases cls with
    | remote =>
      intro e he
      rcases List.mem_append.mp he with he | he
      · exact hw e he
      · rw [List.mem_singleton.mp he]
        exact hop
    | door => exact hw
    | heat => exact hw
  · cases ht

end

end Sys2Proof.Machine
end

section
/-! What the Door Unit keeps. -/

namespace Sys2Proof.Machine

open Sys2Proof

section
variable {s₀ s : State}

@[simp] theorem keeps_modLeaf (k : Nat) (f : Leaf → Leaf) (h : Keeps s₀ s) : Keeps s₀ (s.modLeaf k f) := by
  unfold State.modLeaf
  split <;> simp [h]

@[simp] theorem keeps_supersedeLeaf (k : Nat) (h : Keeps s₀ s) : Keeps s₀ (supersedeLeaf k s) :=
  h.setDoorQueue (by simp [supersede]) supersede_walkFits

@[simp] theorem keeps_evalVehicleProof (h : Keeps s₀ s) : Keeps s₀ (evalVehicleProof s) := by
  simp [evalVehicleProof, h]

@[simp] theorem keeps_enterFault (k value : Nat) (h : Keeps s₀ s) : Keeps s₀ (enterFault k value s) :=
  keeps_raise _ _ _ (keeps_evalVehicleProof (keeps_supersedeLeaf k (keeps_modLeaf k _ h)).modDoor)

@[simp] theorem keeps_enterLeaf (k : Nat) (st : LeafState) (h : Keeps s₀ s) : Keeps s₀ (enterLeaf k st s) := by
  have hleaf : ∀ f, Keeps s₀ (evalVehicleProof (supersedeLeaf k (s.modLeaf k f))) := fun f =>
    keeps_evalVehicleProof (keeps_supersedeLeaf k (keeps_modLeaf k f h))
  unfold enterLeaf
  dsimp only
  split
  · next command f _ _ =>
    have hwrite := keeps_offerDoorWrite k f.station f.commandItem command
      (hleaf (Leaf.entered s.store.content (enteredState s.store.content st)))
    split
    · exact keeps_enterFault k _ hwrite
    · exact hwrite
  · exact hleaf _

@[simp] theorem keeps_enterFreshWarning (k : Nat) (h : Keeps s₀ s) : Keeps s₀ (enterFreshWarning k s) := by
  simp [enterFreshWarning, h]

@[simp] theorem keeps_applyRelease (r : Release) (generation : Byte) (h : Keeps s₀ s) :
    Keeps s₀ (applyRelease r generation s) := by
  unfold applyRelease
  exact (h.foldl _ fun _ k hs => keeps_enterLeaf k .released hs).modDoor

@[simp] theorem keeps_closeLeaf (k : Nat) (h : Keeps s₀ s) : Keeps s₀ (closeLeaf k s) := by
  unfold closeLeaf
  split <;> simp [h]

@[simp] theorem keeps_applyClose (c : Close) (usable : Option Orientation) (h : Keeps s₀ s) :
    Keeps s₀ (applyClose c usable s) := by
  unfold applyClose
  exact (h.foldl _ fun _ k hs => keeps_closeLeaf k hs).modDoor

@[simp] theorem keeps_warnLeaf (k : Nat) (h : Keeps s₀ s) : Keeps s₀ (warnLeaf k s) := by
  unfold warnLeaf
  split <;> simp [h]

@[simp] theorem keeps_warnReleased (h : Keeps s₀ s) : Keeps s₀ (warnReleased s) :=
  h.foldl _ fun _ k hs => keeps_warnLeaf k hs

@[simp] theorem keeps_closeFailed (k : Nat) (h : Keeps s₀ s) : Keeps s₀ (closeFailed k s) := by
  unfold closeFailed
  split
  · exact h
  · split <;> simp [h]

@[simp] theorem keeps_firstStatus (k : Nat) (status : LeafStatus) (h : Keeps s₀ s) :
    Keeps s₀ (firstStatus k status s) := by
  cases status <;> simp [firstStatus, h]

@[simp] theorem keeps_actOnStatus (k : Nat) (fromRead : Bool) (l : Leaf) (status : LeafStatus)
    (h : Keeps s₀ s) : Keeps s₀ (actOnStatus k fromRead l status s) := by
  unfold actOnStatus
  split
  · simp [h]
  · split <;> simp [h]
  · split
    · split <;> simp [h]
    · exact h
  · split <;> simp [h]
  all_goals exact h

@[simp] theorem keeps_leafStatusTold (k : Nat) (fromRead : Bool) (h : Keeps s₀ s) :
    Keeps s₀ (leafStatusTold k fromRead s) := by
  unfold leafStatusTold
  dsimp only
  split <;> simp [h]

@[simp] theorem keeps_doorRoundStart (h : Keeps s₀ s) : Keeps s₀ (doorRoundStart s) :=
  (keeps_evalVehicleProof h).foldl _ fun _ k hs => keeps_leafStatusTold k false hs

@[simp] theorem keeps_doorWriteDone (k : Nat) (current : Bool) (h : Keeps s₀ s) :
    Keeps s₀ (doorWriteDone k current s) := by
  unfold doorWriteDone
  split <;> simp [h]

@[simp] theorem keeps_doorWriteFailed (k : Nat) (h : Keeps s₀ s) : Keeps s₀ (doorWriteFailed k s) := by
  unfold doorWriteFailed
  split <;> simp [h]

@[simp] theorem keeps_isolateLeaf (k : Nat) (h : Keeps s₀ s) : Keeps s₀ (isolateLeaf k s) := by
  unfold isolateLeaf
  split <;> simp [h]

@[simp] theorem keeps_restoreLeaf (k : Nat) (h : Keeps s₀ s) : Keeps s₀ (restoreLeaf k s) := by
  unfold restoreLeaf
  split <;> simp [h]

theorem orphanDoorWrites_walkFits {q : List QueueEntry} (h : ∀ e ∈ q, e.WalkFits) :
    ∀ e ∈ orphanDoorWrites q, e.WalkFits := by
  intro e he
  obtain ⟨x, hx, rfl⟩ := List.mem_map.mp he
  split
  · exact h x hx
  · exact h x hx

@[simp] theorem keeps_rebuildLeaves (h : Keeps s₀ s) : Keeps s₀ (rebuildLeaves s) :=
  keeps_evalVehicleProof
    (h.modDoor.setDoorQueue (by simp [orphanDoorWrites]) orphanDoorWrites_walkFits)

@[simp] theorem keeps_startHeadless (h : Keeps s₀ s) : Keeps s₀ (startHeadless s) := by
  simp [startHeadless, h]

@[simp] theorem keeps_stopHeadless (h : Keeps s₀ s) : Keeps s₀ (stopHeadless s) := by
  simp [stopHeadless, h]

end

end Sys2Proof.Machine
end

section
/-! What the Heat Unit keeps. -/

namespace Sys2Proof.Machine

open Sys2Proof

section
variable {s₀ s : State}

theorem State.groupConfig_bounds {s : State} {g : Nat} {c : GroupConfig} (h : s.groupConfig g = some c) :
    1 ≤ g ∧ g ≤ s.store.content.groups.length := by
  unfold State.groupConfig at h
  split at h
  · cases h
  · have := (List.getElem?_eq_some_iff.mp h).1
    omega

@[simp] theorem keeps_modGroup (g : Nat) (f : Group → Group) (h : Keeps s₀ s) : Keeps s₀ (s.modGroup g f) := by
  unfold State.modGroup
  split <;> simp [h]

@[simp] theorem keeps_offerGroup (g count : Nat) (h : Keeps s₀ s) : Keeps s₀ (offerGroup g count s) := by
  unfold offerGroup
  split
  · exact h
  · next c hc =>
    obtain ⟨hlow, hhigh⟩ := State.groupConfig_bounds hc
    exact keeps_offerHeatWrite _ _ _ (keeps_modGroup g _ h) hlow
      (by rwa [(State.modGroup_groupsOnly g _ s).store])

@[simp] theorem keeps_discardIncrease (h : Keeps s₀ s) : Keeps s₀ (discardIncrease s) := by
  unfold discardIncrease
  split <;> simp [h]

@[simp] theorem keeps_applyIncrease (h : Keeps s₀ s) : Keeps s₀ (applyIncrease s) := by
  unfold applyIncrease
  split
  · exact h
  · refine (h.foldl _ fun s x hs => ?_).modHeat (by simp)
    split
    · exact hs
    · split <;> simp [hs]

@[simp] theorem keeps_startStagger (h : Keeps s₀ s) : Keeps s₀ (startStagger s) := by
  unfold startStagger
  split
  · dsimp only
    split <;> simp [h]
  · exact h

@[simp] theorem keeps_formIncrease (fitted : List Nat) (h : Keeps s₀ s) : Keeps s₀ (formIncrease fitted s) := by
  unfold formIncrease
  split <;> simp [h]

@[simp] theorem keeps_updateIncrease (fitted : List Nat) (h : Keeps s₀ s) :
    Keeps s₀ (updateIncrease fitted s) := by
  unfold updateIncrease
  split
  · simp [h]
  · split <;> simp [h]

@[simp] theorem keeps_heatOutward (f : SweepOut) (h : Keeps s₀ s) : Keeps s₀ (heatOutward f s).2 := by
  simp [heatOutward, h]

@[simp] theorem keeps_lowerGroup (g count : Nat) (h : Keeps s₀ s) : Keeps s₀ (lowerGroup g count s) := by
  unfold lowerGroup
  split
  · exact h
  · split <;> simp [h]

@[simp] theorem keeps_lowerGroups (fitted : List Nat) (h : Keeps s₀ s) : Keeps s₀ (lowerGroups fitted s) :=
  h.foldl _ fun _ gf hs => keeps_lowerGroup gf.1 gf.2 hs

@[simp] theorem keeps_allottedReturn (l : HeatLatch) (r : Nat) (h : Keeps s₀ s) :
    Keeps s₀ (allottedReturn l r s).2 := by
  unfold allottedReturn
  dsimp only
  exact (keeps_updateIncrease _ (keeps_lowerGroups _ (h.modHeat (by simp)))).modHeat (by simp)

@[simp] theorem keeps_unlatchedReturn (h : Keeps s₀ s) : Keeps s₀ (unlatchedReturn s) := by
  unfold unlatchedReturn
  exact (keeps_discardIncrease (Keeps.foldl _ (fun _ g hs => keeps_lowerGroup g 0 hs)
    (h.modHeat (by simp)))).modHeat (by simp)

@[simp] theorem keeps_heatReturn (sequence : Byte) (r : Nat) (matching : Bool) (h : Keeps s₀ s) :
    Keeps s₀ (heatReturn sequence r matching s).2 := by
  unfold heatReturn
  split
  · split
    · split <;> simp [h]
    · simp [h]
  · simp [h]

@[simp] theorem keeps_faultGroup (g : Nat) (cause : GroupFault) (h : Keeps s₀ s) :
    Keeps s₀ (faultGroup g cause s) := by
  unfold faultGroup
  exact keeps_raise _ _ _ ((keeps_discardIncrease (keeps_offerGroup g 0 (keeps_modGroup g _ h))).modHeat (by simp))

@[simp] theorem keeps_groupRoundStart (g : Nat) (h : Keeps s₀ s) : Keeps s₀ (groupRoundStart g s) := by
  unfold groupRoundStart
  split
  · exact h
  · split
    · simp [h]
    · dsimp only
      split <;> simp [h]

@[simp] theorem keeps_heatRoundStart (h : Keeps s₀ s) : Keeps s₀ (heatRoundStart s) :=
  h.foldl _ fun _ g hs => keeps_groupRoundStart g hs

@[simp] theorem keeps_heatWriteDone (g : Nat) (current : Bool) (h : Keeps s₀ s) :
    Keeps s₀ (heatWriteDone g current s) := by
  unfold heatWriteDone
  split <;> simp [h]

@[simp] theorem keeps_heatWriteFailed (g : Nat) (h : Keeps s₀ s) : Keeps s₀ (heatWriteFailed g s) := by
  unfold heatWriteFailed
  split
  · exact h
  · split <;> simp [h]

@[simp] theorem keeps_resetGroup (g : Nat) (h : Keeps s₀ s) : Keeps s₀ (resetGroup g s) :=
  keeps_modGroup g _ h

@[simp] theorem keeps_commandAllOff (h : Keeps s₀ s) : Keeps s₀ (commandAllOff s) :=
  h.foldl _ fun _ g hs => keeps_offerGroup g 0 hs

@[simp] theorem keeps_holdRunsOut (h : Keeps s₀ s) : Keeps s₀ (holdRunsOut s) := by
  unfold holdRunsOut
  exact keeps_raise _ _ _ ((keeps_discardIncrease ((keeps_commandAllOff h).modHeat (by simp))).modHeat (by simp))

@[simp] theorem keeps_rebuildGroups (h : Keeps s₀ s) : Keeps s₀ (rebuildGroups s) := by
  have htable : Keeps s₀ (s.modHeat fun x =>
      { x with groups := s.store.content.groups.map fun _ => Group.fresh }) :=
    h.modHeat_of fun hc => by simpa using hc
  unfold rebuildGroups
  exact (keeps_discardIncrease ((keeps_commandAllOff htable).modHeat (by simp))).modHeat (by simp)

@[simp] theorem keeps_heatGenerationChanged (h : Keeps s₀ s) : Keeps s₀ (heatGenerationChanged s) := by
  simp [heatGenerationChanged, h]

end

end Sys2Proof.Machine
end

section
/-! Which blocks a change of the consist state, of the generation, and the entry to UNKNOWN leave alone. -/

namespace Sys2Proof.Machine

open Sys2Proof

section
variable (st : ConsistState) (g : Byte) (s : State)

@[simp] theorem stopSweeping_consist : (stopSweeping s).consist = s.consist := rfl
@[simp] theorem stopSweeping_relay : (stopSweeping s).relay = s.relay := rfl
@[simp] theorem stopSweeping_bus : (stopSweeping s).bus = s.bus := rfl
@[simp] theorem stopSweeping_req : (stopSweeping s).req = s.req := rfl
@[simp] theorem stopSweeping_heat : (stopSweeping s).heat = s.heat := rfl
@[simp] theorem stopSweeping_store : (stopSweeping s).store = s.store := rfl
@[simp] theorem stopSweeping_port (p : PortId) : (stopSweeping s).port p = s.port p := by cases p <;> rfl

@[simp] theorem setConsistState_relay : (setConsistState st s).relay = s.relay := by
  rw [setConsistState_eq]; split <;> rfl
@[simp] theorem setConsistState_bus : (setConsistState st s).bus = s.bus := by
  rw [setConsistState_eq]; split <;> rfl
@[simp] theorem setConsistState_req : (setConsistState st s).req = s.req := by
  rw [setConsistState_eq]; split <;> rfl
@[simp] theorem setConsistState_heat : (setConsistState st s).heat = s.heat := by
  rw [setConsistState_eq]; split <;> rfl
@[simp] theorem setConsistState_store : (setConsistState st s).store = s.store := by
  rw [setConsistState_eq]; split <;> rfl
@[simp] theorem setConsistState_port (p : PortId) : (setConsistState st s).port p = s.port p := by
  rw [setConsistState_eq]; split <;> cases p <;> rfl

@[simp] theorem discardIncrease_groups : (discardIncrease s).heat.groups = s.heat.groups := by
  rw [discardIncrease_eq]
@[simp] theorem discardIncrease_bus : (discardIncrease s).bus = s.bus := by rw [discardIncrease_eq]
@[simp] theorem discardIncrease_relay : (discardIncrease s).relay = s.relay := by rw [discardIncrease_eq]
@[simp] theorem discardIncrease_req : (discardIncrease s).req = s.req := by rw [discardIncrease_eq]
@[simp] theorem discardIncrease_port (p : PortId) : (discardIncrease s).port p = s.port p := by
  rw [discardIncrease_eq]; cases p <;> rfl

@[simp] theorem setGeneration_changeIds :
    (setGeneration g s).relay.changeIds = s.relay.changeIds := by
  unfold setGeneration heatGenerationChanged; split <;> simp
@[simp] theorem setGeneration_bus : (setGeneration g s).bus = s.bus := by
  unfold setGeneration heatGenerationChanged; split <;> simp
@[simp] theorem setGeneration_req : (setGeneration g s).req = s.req := by
  unfold setGeneration heatGenerationChanged; split <;> simp
@[simp] theorem setGeneration_groups : (setGeneration g s).heat.groups = s.heat.groups := by
  unfold setGeneration heatGenerationChanged; split <;> simp
@[simp] theorem setGeneration_port (p : PortId) : (setGeneration g s).port p = s.port p := by
  unfold setGeneration heatGenerationChanged; split <;> simp

@[simp] theorem startHeadless_consist : (startHeadless s).consist = s.consist := rfl
@[simp] theorem startHeadless_relay : (startHeadless s).relay = s.relay := rfl
@[simp] theorem startHeadless_bus : (startHeadless s).bus = s.bus := rfl
@[simp] theorem startHeadless_req : (startHeadless s).req = s.req := rfl
@[simp] theorem startHeadless_heat : (startHeadless s).heat = s.heat := rfl
@[simp] theorem startHeadless_store : (startHeadless s).store = s.store := rfl
@[simp] theorem startHeadless_port (p : PortId) : (startHeadless s).port p = s.port p := by cases p <;> rfl

end

end Sys2Proof.Machine
end

section
/-! What the Consist Unit keeps: the consist state, CHANGE, the lead. -/

namespace Sys2Proof.Machine

open Sys2Proof

section
variable {s₀ s : State}

@[simp] theorem keeps_stopSweeping (h : Keeps s₀ s) : Keeps s₀ (stopSweeping s) := by
  simp [stopSweeping, h]

/-- A state other than UNKNOWN is taken. -/
theorem keeps_setConsistState {st : ConsistState} (hst : st ≠ .unknown) (h : Keeps s₀ s) :
    Keeps s₀ (setConsistState st s) :=
  h.of_frame (by simp) (by simp) (by simp) (by simp) (by simp) (by simp)
    (fun _ hunknown => absurd (by simpa using hunknown) hst)
    (by simp [Consist.MapsFit])

@[simp] theorem keeps_enterUnknown (h : Keeps s₀ s) : Keeps s₀ (enterUnknown s) := by
  refine h.of_frame ?_ ?_ ?_ ?_ ?_ ?_ ?_ ?_
  · intro p; unfold enterUnknown; dsimp only; split <;> simp
  · unfold enterUnknown; dsimp only; split <;> simp
  · unfold enterUnknown; dsimp only; split <;> simp
  · unfold enterUnknown; dsimp only; split <;> simp
  · unfold enterUnknown; dsimp only; split <;> simp
  · unfold enterUnknown; dsimp only; split <;> simp
  · rw [enterUnknown_consist]
    exact fun _ _ => ⟨rfl, rfl⟩
  · rw [enterUnknown_consist]
    rintro ⟨-, hp⟩
    exact ⟨Nat.zero_le 32, hp⟩

theorem keeps_setGeneration {g : Byte} (h : Keeps s₀ s) (hg : s.consist.state ≠ .unknown) :
    Keeps s₀ (setGeneration g s) :=
  h.of_frame (by simp) (by simp) (by simp) (by simp) (by simp) (by simp)
    (fun _ hunknown => absurd (by simpa using hunknown) hg)
    (by simp [Consist.MapsFit])

/-- A commit of a map that is no longer than 32 entries. -/
theorem keeps_commit {g : Byte} {m : List ConsistEntry} (h : Keeps s₀ s)
    (hm : s.consist.MapsFit → m.length ≤ 32) : Keeps s₀ (commit g m s) := by
  unfold commit
  refine keeps_stopHeadless (keeps_setGeneration (Keeps.modConsist_of
    (keeps_setConsistState (by decide) h) (fun _ hunknown => ?_) ?_) (by simp))
  · rw [setConsistState_consist] at hunknown
    cases hunknown
  · rw [setConsistState_consist]
    rintro ⟨hmap, hp⟩
    exact ⟨hm ⟨hmap, hp⟩, hp⟩

theorem Relay.enterChange_length (id : ChangeId) {r : Relay} (h : r.changeIds.length ≤ 8) :
    (r.enterChange id).changeIds.length ≤ 8 := by
  unfold Relay.enterChange
  simp only [List.length_append, List.length_singleton]
  split
  · simp only [List.length_drop]
    omega
  · next hlen =>
    have : r.changeIds.length < 8 := Nat.lt_of_not_le hlen
    omega

@[simp] theorem keeps_enterChange (id : ChangeId) (h : Keeps s₀ s) :
    Keeps s₀ (s.modRelay (Relay.enterChange id)) :=
  h.modRelay fun _ => Relay.enterChange_length id

@[simp] theorem keeps_enterOwnChange (id : ChangeId) (h : Keeps s₀ s) : Keeps s₀ (enterOwnChange id s) := by
  unfold enterOwnChange
  split
  · exact h
  · exact keeps_enterChange id h

@[simp] theorem keeps_announceChange (h : Keeps s₀ s) : Keeps s₀ (announceChange s) := by
  unfold announceChange
  exact keeps_broadcast _ (keeps_enterOwnChange _ (h.modConsist (by simp) (by simp) (by simp) (by simp)))

@[simp] theorem keeps_changeEffect (h : Keeps s₀ s) : Keeps s₀ (changeEffect s) := by
  unfold changeEffect
  dsimp only
  split
  · exact (keeps_setConsistState (by decide) h).modConsist (by simp) (by simp) (by simp) (by simp)
  · simp [h]
  · simp [h]
  · exact h

@[simp] theorem keeps_leaveCensus (h : Keeps s₀ s) : Keeps s₀ (leaveCensus s) := by
  have hleft : Keeps s₀ (s.modConsist fun c =>
      { c with pendingMap := none, holdTimer := none, rollTimer := none }) := by simp [h]
  unfold leaveCensus
  dsimp only
  split
  · exact keeps_setConsistState (by decide) hleft
  · exact (keeps_setConsistState (by decide) hleft).modConsist (by simp) (by simp) (by simp) (by simp)
  · exact keeps_enterUnknown hleft
  · exact hleft

@[simp] theorem keeps_clearRequestBits (h : Keeps s₀ s) : Keeps s₀ (clearRequestBits s) := by
  simp [clearRequestBits, h]

@[simp] theorem keeps_loseValidity (h : Keeps s₀ s) : Keeps s₀ (loseValidity s) := by
  have hlead : Keeps s₀ ((clearRequestBits (stopSweeping s)).modConsist fun c =>
      { c with retryTimer := none, conflictHold := false }) :=
    (keeps_clearRequestBits (keeps_stopSweeping h)).modConsist (by simp) (by simp) (by simp) (by simp)
  unfold loseValidity
  dsimp only
  by_cases hcounting : s.consist.phase = .counting
  · simp only [hcounting, if_true]
    exact keeps_leaveCensus (keeps_changeEffect (keeps_announceChange
      (hlead.modConsist (by simp) (by simp) (by simp) (by simp))))
  · simp only [hcounting, if_false]
    exact keeps_changeEffect (keeps_announceChange hlead)

@[simp] theorem keeps_setClaims (c1 c2 : Bool) (h : Keeps s₀ s) : Keeps s₀ (setClaims c1 c2 s) := by
  unfold setClaims
  split <;> simp [h]

@[simp] theorem keeps_dropClaims (h : Keeps s₀ s) : Keeps s₀ (dropClaims s) := by
  have hnone : Keeps s₀ ((setClaims false false s).modConsist fun c => { c with status := .none }) := by
    simp [h]
  unfold dropClaims
  dsimp only
  split
  · exact keeps_loseValidity hnone
  · exact hnone

@[simp] theorem keeps_cabLost (h : Keeps s₀ s) : Keeps s₀ (cabLost s) := by
  unfold cabLost
  exact keeps_raise _ _ _ (keeps_clearRequestBits (keeps_dropClaims (by simp [h])))

end

end Sys2Proof.Machine
end

section
/-! What poll rounds and sweeps keep. -/

namespace Sys2Proof.Machine

open Sys2Proof

section
variable {s₀ s : State}

@[simp] theorem keeps_takeCabOutcome (t : CabTally) (h : Keeps s₀ s) : Keeps s₀ (takeCabOutcome t s) := by
  unfold takeCabOutcome
  split
  · exact h
  · split
    · simp [h]
    · split
      · dsimp only
        split <;> simp [h]
      · exact h

@[simp] theorem keeps_finishRound (h : Keeps s₀ s) : Keeps s₀ (finishRound s) := by
  unfold finishRound
  split <;> simp [h]

theorem keeps_detachPoll (use : PollUse) (f : Bus → Bus) (h : Keeps s₀ s)
    (hf : ∀ b, (f b).doorQueue = b.doorQueue ∧ (f b).heatQueue = b.heatQueue
      ∧ (f b).remoteQueue = b.remoteQueue ∧ (f b).outbound = b.outbound ∧ (f b).roster = b.roster
      ∧ (f b).flight = b.flight) : Keeps s₀ (s.modBus fun b => f (b.detachPoll use)) := by
  refine h.modBus (fun b => ?_) (fun b => ?_) (fun b => ?_) (fun b => ?_) (fun b => ?_) (fun b => ?_)
  all_goals
    obtain ⟨hd, hh, hr, ho, hros, hfl⟩ := hf (b.detachPoll use)
  · rw [hd]; unfold Bus.detachPoll; split <;> rfl
  · rw [hh]; unfold Bus.detachPoll; split <;> rfl
  · rw [hr]; unfold Bus.detachPoll; split <;> rfl
  · rw [ho]; unfold Bus.detachPoll; split <;> rfl
  · rw [hros]; unfold Bus.detachPoll; split <;> rfl
  · intro hb
    rw [hfl]; unfold Bus.detachPoll; split <;> simp_all

@[simp] theorem keeps_overrunRound (h : Keeps s₀ s) : Keeps s₀ (overrunRound s) := by
  unfold overrunRound
  split
  · have hdetached := keeps_detachPoll .overrun (fun b => { b with overruns := satInc s.bus.overruns }) h
      (by simp)
    have heq : (s.modBus fun b => { b.detachPoll .overrun with overruns := satInc b.overruns })
        = s.modBus fun b => { b.detachPoll .overrun with overruns := satInc s.bus.overruns } := rfl
    dsimp only
    rw [heq]
    split
    · exact keeps_raise _ _ _ (hdetached.modBus (by simp) (by simp) (by simp) (by simp) (by simp) (by simp))
    · exact hdetached
  · exact h

@[simp] theorem keeps_endCabEntry (h : Keeps s₀ s) : Keeps s₀ (endCabEntry s) := by
  unfold endCabEntry
  split
  · exact h
  · dsimp only
    split
    · next t hflight =>
      have hcab : s.bus.flight = some (.cab t none) := hflight
      refine Keeps.modBus_of (by simp [h]) id id id (fun _ hb => hb.of_queue rfl ?_) (fun hb => hb)
      simp [hcab]
    · exact keeps_takeCabOutcome _ (by simp [h])

@[simp] theorem keeps_placeCabEntry (h : Keeps s₀ s) : Keeps s₀ (placeCabEntry s) := by
  unfold placeCabEntry
  dsimp only
  split <;> simp [h]

@[simp] theorem keeps_roundStart (duration : Nat) (h : Keeps s₀ s) : Keeps s₀ (roundStart duration s) := by
  unfold roundStart
  have hround : Keeps s₀ (overrunRound (s.modBus fun b => { b with roundTimer := some duration })) := by
    simp [h]
  exact keeps_heatRoundStart (keeps_doorRoundStart (keeps_arbitrate (keeps_finishRound (keeps_placeCabEntry
    (hround.modBus (by simp [Bus.age]) (by simp [Bus.age]) (by simp [Bus.age]) (by simp [Bus.age])
      (by simp [Bus.age]) (by simp [Bus.age]))))))

/-! ## Sweeps -/

@[simp] theorem keeps_outwardStart (f : SweepOut) (h : Keeps s₀ s) : Keeps s₀ (outwardStart f s) := by
  have hround := keeps_roundStart (2 * clampPeriod f.period) (h.modSweep (f := Sweep.latchOut f))
  unfold outwardStart
  dsimp only
  split
  · exact hround
  · exact keeps_warnReleased hround

@[simp] theorem keeps_processOutward (f : SweepOut) (h : Keeps s₀ s) : Keeps s₀ (processOutward f s).2 := by
  simp [processOutward, h]

@[simp] theorem keeps_sendBack (payload : List Byte) (h : Keeps s₀ s) : Keeps s₀ (sendBack payload s) := by
  simp [sendBack, h]

theorem matchedReturn_eq (f : SweepBack) (s : State) :
    matchedReturn f s =
      let back := heatReturn f.sequence f.allowance true (s.modSweep Sweep.markReturned)
      sendBack (sweepBackPayload { f with allowance := back.1 }) back.2 := rfl

@[simp] theorem keeps_matchedReturn (f : SweepBack) (h : Keeps s₀ s) : Keeps s₀ (matchedReturn f s) := by
  rw [matchedReturn_eq]
  exact keeps_sendBack _ (keeps_heatReturn _ _ _ h.modSweep)

@[simp] theorem keeps_unmatchedReturn (f : SweepBack) (payload : List Byte) (h : Keeps s₀ s) :
    Keeps s₀ (unmatchedReturn f payload s) := by
  unfold unmatchedReturn
  exact keeps_sendBack _ (keeps_heatReturn _ _ _ h.modSweep)

@[simp] theorem keeps_sweepOutward (f : SweepOut) (h : Keeps s₀ s) : Keeps s₀ (sweepOutward f s) := by
  unfold sweepOutward
  dsimp only
  split <;> simp [h]

@[simp] theorem keeps_report (sequence : Byte) (result : ReportResult) (body : Option (Tally × Nat))
    (h : Keeps s₀ s) : Keeps s₀ (report sequence result body s) := by
  simp [report, h]

@[simp] theorem keeps_evalTrainProof (t : Tally) (h : Keeps s₀ s) : Keeps s₀ (evalTrainProof t s) := by
  simp [evalTrainProof, h]

theorem completeReturn_eq (f : SweepBack) (s : State) :
    completeReturn f s =
      let back := heatReturn f.sequence f.allowance true s
      let t := evalTrainProof f.tally back.2
      report f.sequence (if t.door.trainProof then .proven else .notProven) (some (f.tally, back.1)) t := rfl

@[simp] theorem keeps_completeReturn (f : SweepBack) (h : Keeps s₀ s) : Keeps s₀ (completeReturn f s) := by
  rw [completeReturn_eq]
  exact keeps_report _ _ _ (keeps_evalTrainProof _ (keeps_heatReturn _ _ _ h))

@[simp] theorem keeps_headReturn (f : SweepBack) (h : Keeps s₀ s) : Keeps s₀ (headReturn f s) := by
  unfold headReturn
  split <;> simp [h]

@[simp] theorem keeps_useSequence (h : Keeps s₀ s) : Keeps s₀ (useSequence s) := by
  simp [useSequence, h]

@[simp] theorem keeps_launchFrames (h : Keeps s₀ s) : Keeps s₀ (launchFrames s) := by
  have hout := keeps_processOutward (builtSweep s) (keeps_useSequence h)
  unfold launchFrames
  dsimp only
  split
  · exact (keeps_offerFrame _ _ hout).modSweep
  · exact hout

@[simp] theorem keeps_localSweep (h : Keeps s₀ s) : Keeps s₀ (localSweep s) := by
  have hout := keeps_processOutward (builtSweep s) (keeps_useSequence h)
  unfold localSweep
  dsimp only
  split
  · exact (keeps_completeReturn _ hout).modSweep
  · exact hout

@[simp] theorem keeps_launch (h : Keeps s₀ s) : Keeps s₀ (launch s) := by
  unfold launch
  split <;> simp [h]

@[simp] theorem keeps_missSweep (sequence : Byte) (h : Keeps s₀ s) : Keeps s₀ (missSweep sequence s) := by
  unfold missSweep
  exact keeps_report _ _ _ h.modSweep.modDoor

@[simp] theorem keeps_startSweeping (h : Keeps s₀ s) : Keeps s₀ (startSweeping s) := by
  unfold startSweeping
  exact keeps_launch h.modSweep.modDoor

@[simp] theorem keeps_periodRunsOut (h : Keeps s₀ s) : Keeps s₀ (periodRunsOut s) := by
  unfold periodRunsOut
  dsimp only
  split
  · split
    · exact keeps_launch h.modSweep
    · exact keeps_launch (keeps_missSweep _ h.modSweep)
  · exact keeps_launch h.modSweep

end

end Sys2Proof.Machine
end

section
/-! What the census keeps. -/

namespace Sys2Proof.Machine

open Sys2Proof

section
variable {s₀ s : State}

theorem keeps_commitAsHead {g : Byte} {m : List ConsistEntry} (h : Keeps s₀ s)
    (hm : s.consist.MapsFit → m.length ≤ 32) : Keeps s₀ (commitAsHead g m s) := by
  unfold commitAsHead
  exact keeps_startSweeping (keeps_raise _ _ _
    ((keeps_commit h hm).modConsist (by simp) (by simp) (by simp) (by simp)))

@[simp] theorem keeps_sendCensus (p : PortId) (generation kind : Byte) (payload : List Byte)
    (h : Keeps s₀ s) : Keeps s₀ (sendCensus p generation kind payload s) := by
  simp [sendCensus, h]

/-- The state a node with a part in a census takes: PENDING, or UNKNOWN as before (R47, R51). -/
theorem keeps_pendingUnlessUnknown (h : Keeps s₀ s) :
    Keeps s₀ (if s.consist.state = .unknown then s else setConsistState .pending s) := by
  split
  · exact h
  · exact keeps_setConsistState (by decide) h

@[simp] theorem keeps_startCensus (h : Keeps s₀ s) : Keeps s₀ (startCensus s) := by
  unfold startCensus
  dsimp only
  split
  · refine keeps_pendingUnlessUnknown (Keeps.modConsist (keeps_sendCensus _ _ _ _ (Keeps.modConsist
      (h.modConsist ?_ ?_ ?_ ?_) ?_ ?_ ?_ ?_)) ?_ ?_ ?_ ?_) <;> simp
  · refine keeps_commitAsHead (Keeps.modConsist (h.modConsist ?_ ?_ ?_ ?_) ?_ ?_ ?_ ?_) ?_ <;> simp

@[simp] theorem keeps_applyChange (h : Keeps s₀ s) : Keeps s₀ (applyChange s) := by
  unfold applyChange
  dsimp only
  split
  · exact keeps_startCensus ((keeps_changeEffect h).modConsist (by simp) (by simp) (by simp) (by simp))
  · exact keeps_changeEffect h

@[simp] theorem keeps_originateChange (h : Keeps s₀ s) : Keeps s₀ (originateChange s) :=
  keeps_applyChange (keeps_announceChange h)

@[simp] theorem keeps_flushNotices (h : Keeps s₀ s) : Keeps s₀ (flushNotices s) := by
  unfold flushNotices
  exact Keeps.foldl _ (fun _ _ hs => keeps_offerCabNotice _ _ hs) (by simp [h])

@[simp] theorem keeps_claimNotice (status : ClaimStatus) (h : Keeps s₀ s) :
    Keeps s₀ (claimNotice status s) := by
  cases status <;> simp [claimNotice, h]

@[simp] theorem keeps_evalClaims (h : Keeps s₀ s) : Keeps s₀ (evalClaims s) := by
  have hstatus : Keeps s₀ (s.modConsist fun c => { c with status := claimStatusNow s }) := by simp [h]
  unfold evalClaims
  dsimp only
  split
  · exact h
  · split
    · exact keeps_originateChange (keeps_flushNotices hstatus)
    · split
      · exact keeps_loseValidity (keeps_claimNotice _ hstatus)
      · exact keeps_claimNotice _ hstatus

@[simp] theorem keeps_censusDrop (h : Keeps s₀ s) : Keeps s₀ (censusDrop s) := by
  simp [censusDrop, h]

/-- A COUNT with room for one more entry draws the node in. -/
theorem keeps_joinCensus (p : PortId) (generation : Byte) {es : List ConsistEntry} (h : Keeps s₀ s)
    (hes : es.length < 32) : Keeps s₀ (joinCensus p generation es s) := by
  unfold joinCensus
  extract_lets list joined state
  have hstate : Keeps s₀ state :=
    keeps_pendingUnlessUnknown (h.modConsist (by simp) (by simp) (by simp) (by simp))
  split
  · exact keeps_sendCensus _ _ _ _ (hstate.modConsist (by simp) (by simp) (by simp) (by simp))
  · refine keeps_sendCensus _ _ _ _ (hstate.modConsist_of id fun hmaps => ⟨hmaps.1, fun m hm => ?_⟩)
    cases hm
    simpa [list] using hes

theorem countListOk_length {s : State} {es : List ConsistEntry} (h : countListOk s es = true) :
    es.length ≤ 32 := by
  simp only [countListOk, Bool.and_eq_true, decide_eq_true_eq] at h
  exact h.1.1.1.2

@[simp] theorem keeps_takeCount (p : PortId) (f : Frame) (h : Keeps s₀ s) : Keeps s₀ (takeCount p f s) := by
  unfold takeCount
  split
  · simp [h]
  · next es _ =>
    dsimp only
    split
    · simp [h]
    · next hok =>
      split
      · simp [h]
      · split
        · simp [h]
        · next hfull =>
          have hle : es.length ≤ 32 := countListOk_length (by simpa using hok)
          have hne : es.length ≠ 32 := hfull
          exact keeps_joinCensus _ _ h (by omega)

@[simp] theorem keeps_failCensus (why : RollStatus) (h : Keeps s₀ s) : Keeps s₀ (failCensus why s) := by
  have hleft : Keeps s₀ (leaveCensus (s.modConsist fun c => { c with phase := .none })) :=
    keeps_leaveCensus (by simp [h])
  unfold failCensus
  exact Keeps.modConsist (keeps_raise _ _ _ (hleft.modConsist (by simp) (by simp) (by simp) (by simp)))
    (by simp) (by simp) (by simp) (by simp)

@[simp] theorem keeps_headRoll (p : PortId) (g : Byte) (st : RollStatus) (es : List ConsistEntry)
    (h : Keeps s₀ s) : Keeps s₀ (headRoll p g st es s) := by
  unfold headRoll
  split
  · split
    · split
      · next hlist =>
        simp only [Bool.and_eq_true, decide_eq_true_eq] at hlist
        exact keeps_commitAsHead (keeps_sendCensus _ _ _ _ h) fun _ => hlist.1.1.2
      · simp [h]
    · simp [h]
  · simp [h]

@[simp] theorem keeps_passRoll (p : PortId) (g : Byte) (st : RollStatus) (es : List ConsistEntry)
    (h : Keeps s₀ s) : Keeps s₀ (passRoll p g st es s) := by
  unfold passRoll
  split
  · simp [h]
  · split
    · split
      · split
        · next hlist =>
          simp only [Bool.and_eq_true, decide_eq_true_eq] at hlist
          refine keeps_sendCensus _ _ _ _ (h.modConsist_of id fun hmaps => ⟨hmaps.1, fun m hm => ?_⟩)
          cases hm
          exact hlist.1.1.2
        · simp [h]
      · exact keeps_leaveCensus ((keeps_sendCensus _ _ _ _ h).modConsist (by simp) (by simp) (by simp) (by simp))
    · simp [h]

@[simp] theorem keeps_takeRoll (p : PortId) (f : Frame) (h : Keeps s₀ s) : Keeps s₀ (takeRoll p f s) := by
  unfold takeRoll
  split
  · simp [h]
  · split <;> simp [h]

/-- A map a CONFIRM commits has stood as the pending map (R57). -/
theorem confirmedMap_pending {g : Byte} {n : Nat} {m : List ConsistEntry}
    (h : confirmedMap s g n = some m) : s.consist.pendingMap = some m := by
  unfold confirmedMap at h
  split at h
  · exact (Option.filter_eq_some_iff.mp h).1
  · cases h

theorem keeps_commitConfirmed (g : Byte) (n : Nat) {m : List ConsistEntry} (h : Keeps s₀ s)
    (hm : s.consist.pendingMap = some m) : Keeps s₀ (commitConfirmed g n m s) := by
  have hdone : Keeps s₀ ((commit g m s).modConsist fun c =>
      { c with pendingMap := none, lastGeneration := g, holdTimer := none }) :=
    (keeps_commit h fun hmaps => hmaps.2 m hm).modConsist (by simp) (by simp) (by simp) (by simp)
  unfold commitConfirmed
  dsimp only
  split
  · exact keeps_sendCensus _ _ _ _ hdone
  · exact hdone

@[simp] theorem keeps_unmatchedConfirm (h : Keeps s₀ s) : Keeps s₀ (unmatchedConfirm s) := by
  unfold unmatchedConfirm
  exact keeps_originateChange
    ((keeps_enterUnknown (keeps_censusDrop h)).modConsist (by simp) (by simp) (by simp) (by simp))

@[simp] theorem keeps_takeConfirm (f : Frame) (h : Keeps s₀ s) : Keeps s₀ (takeConfirm f s) := by
  unfold takeConfirm
  split
  · simp [h]
  · dsimp only
    split
    · next m hm => exact keeps_commitConfirmed _ _ h (confirmedMap_pending hm)
    · split <;> simp [h]

end

end Sys2Proof.Machine
end

section
/-! What the line ports keep. -/

namespace Sys2Proof.Machine

open Sys2Proof

section
variable {s₀ s : State}

@[simp] theorem keeps_sendHello (p : PortId) (v : HelloVariant) (mark : Mark) (h : Keeps s₀ s) :
    Keeps s₀ (sendHello p v mark s) := by
  simp [sendHello, h]

@[simp] theorem keeps_enterSettling (p : PortId) (h : Keeps s₀ s) : Keeps s₀ (enterSettling p s) := by
  unfold enterSettling
  exact keeps_evalClaims (keeps_sendHello p _ _ (h.modPort p (by simp) (by simp)))

@[simp] theorem keeps_tryLock (p : PortId) (h : Keeps s₀ s) : Keeps s₀ (tryLock p s) := by
  unfold tryLock
  dsimp only
  split <;> simp [h]

@[simp] theorem Port.fallen_urgent (holdoff : Bool) (q : Port) : (q.fallen holdoff).urgent = q.urgent := by
  unfold Port.fallen Port.endOffer
  split <;> rfl

@[simp] theorem Port.fallen_normal (holdoff : Bool) (q : Port) : (q.fallen holdoff).normal = q.normal := by
  unfold Port.fallen Port.endOffer
  split <;> rfl

@[simp] theorem keeps_loseEgress (p : PortId) (h : Keeps s₀ s) : Keeps s₀ (loseEgress p s) := by
  simp [loseEgress, h]

@[simp] theorem keeps_enterDown (p : PortId) (holdoff : Bool) (h : Keeps s₀ s) :
    Keeps s₀ (enterDown p holdoff s) :=
  keeps_loseEgress p (h.modPort p (by simp) (by simp))

@[simp] theorem keeps_tellPortEvent (h : Keeps s₀ s) : Keeps s₀ (tellPortEvent s) := by
  unfold tellPortEvent
  split
  · dsimp only
    split
    · exact keeps_evalClaims (keeps_originateChange h.drawFree)
    · exact keeps_originateChange (keeps_evalClaims h.drawFree)
  · simp [h]

@[simp] theorem keeps_portFalls (p : PortId) (reason : DownReason) (holdoff : Bool) (h : Keeps s₀ s) :
    Keeps s₀ (portFalls p reason holdoff s) :=
  keeps_forwardNotices (keeps_enterDown p holdoff (h.modPort p (by simp) (by simp)))

@[simp] theorem keeps_reportPortDown (p : PortId) (reason : DownReason) (h : Keeps s₀ s) :
    Keeps s₀ (reportPortDown p reason s) := by
  simp [reportPortDown, h]

@[simp] theorem keeps_portDown (p : PortId) (reason : DownReason) (holdoff : Bool) (h : Keeps s₀ s) :
    Keeps s₀ (portDown p reason holdoff s) := by
  simp [portDown, h]

@[simp] theorem keeps_portUp (p : PortId) (who : Neighbour) (h : Keeps s₀ s) : Keeps s₀ (portUp p who s) := by
  unfold portUp
  exact keeps_raise _ _ _ (keeps_tellPortEvent (h.modPort p (by simp) (by simp)))

@[simp] theorem keeps_checkSettled (p : PortId) (h : Keeps s₀ s) : Keeps s₀ (checkSettled p s) := by
  unfold checkSettled
  dsimp only
  split
  · split <;> simp [h]
  · exact h

@[simp] theorem keeps_settleHello (p : PortId) (who : Neighbour) (h : Keeps s₀ s) :
    Keeps s₀ (settleHello p who s) := by
  simp [settleHello, h]

@[simp] theorem keeps_takeOffer (p : PortId) (frames : Nat) (h : Keeps s₀ s) :
    Keeps s₀ (takeOffer p frames s) := by
  unfold takeOffer
  split <;> simp [h]

@[simp] theorem keeps_refuseOffer (p : PortId) (h : Keeps s₀ s) : Keeps s₀ (refuseOffer p s) := by
  unfold refuseOffer
  split <;> simp [h]

@[simp] theorem keeps_takeAccept (p : PortId) (h : Keeps s₀ s) : Keeps s₀ (takeAccept p s) := by
  unfold takeAccept
  split <;> simp [h]

@[simp] theorem keeps_helloVariant (p : PortId) (v : HelloVariant) (h : Keeps s₀ s) :
    Keeps s₀ (helloVariant p v s) := by
  cases v <;> simp [helloVariant, h]

@[simp] theorem keeps_supervise (p : PortId) (who : Neighbour) (v : HelloVariant) (h : Keeps s₀ s) :
    Keeps s₀ (supervise p who v s) := by
  unfold supervise
  split
  · split <;> simp [h]
  · simp [h]

@[simp] theorem keeps_countErrored (p : PortId) (h : Keeps s₀ s) : Keeps s₀ (countErrored p s) := by
  have hcounted : Keeps s₀ (s.modPort p fun q =>
      { q with
        received := satInc q.received
        errored := satInc q.errored
        windowFrames := q.windowFrames + 1
        windowErrors := q.windowErrors + 1 }) := by simp [h]
  unfold countErrored
  dsimp only
  split
  · exact keeps_portDown p _ _ hcounted
  · split
    · exact hcounted.modPort p (by simp) (by simp)
    · exact hcounted

@[simp] theorem keeps_startTestFrame (p : PortId) (r : TestRun) (h : Keeps s₀ s) :
    Keeps s₀ (startTestFrame p r s) := by
  simp [startTestFrame, h]

@[simp] theorem keeps_enterTest (p : PortId) (frames : Nat) (h : Keeps s₀ s) :
    Keeps s₀ (enterTest p frames s) := by
  unfold enterTest
  exact keeps_reportPortDown p _ (keeps_startTestFrame p _ (keeps_forwardNotices
    (keeps_loseEgress p (h.modPort p (by simp) (by simp)))))

@[simp] theorem keeps_testFalls (p : PortId) (r : TestRun) (outcome : TestOutcome) (reason : DownReason)
    (h : Keeps s₀ s) : Keeps s₀ (testFalls p r outcome reason s) :=
  (keeps_enterDown p false h).modPort p (by simp) (by simp)

@[simp] theorem keeps_finishTest (p : PortId) (r : TestRun) (outcome : TestOutcome) (h : Keeps s₀ s) :
    Keeps s₀ (finishTest p r outcome s) := by
  simp [finishTest, h]

@[simp] theorem keeps_continueTest (p : PortId) (r : TestRun) (h : Keeps s₀ s) :
    Keeps s₀ (continueTest p r s) := by
  unfold continueTest
  dsimp only
  split <;> simp [h]

@[simp] theorem keeps_testArrives (p : PortId) (payload : List Byte) (h : Keeps s₀ s) :
    Keeps s₀ (testArrives p payload s) := by
  unfold testArrives
  split <;> simp [h]

@[simp] theorem keeps_testSent (p : PortId) (h : Keeps s₀ s) : Keeps s₀ (testSent p s) := by
  unfold testSent
  split
  · exact h
  · split <;> simp [h]

@[simp] theorem keeps_testLoses (p : PortId) (h : Keeps s₀ s) : Keeps s₀ (testLoses p s) := by
  unfold testLoses
  split <;> simp [h]

@[simp] theorem keeps_loseLock (p : PortId) (h : Keeps s₀ s) : Keeps s₀ (loseLock p s) := by
  have hdark : Keeps s₀ (s.modPort p fun q => { q with signal := false }) := by simp [h]
  unfold loseLock
  dsimp only
  split
  · exact keeps_dropFrames p _ (hdark.modPort p (by simp) (by simp))
  · exact keeps_evalClaims (keeps_enterDown p _ hdark)
  · exact keeps_testLoses p hdark
  · exact hdark
  · exact hdark

@[simp] theorem keeps_gainLock (p : PortId) (h : Keeps s₀ s) : Keeps s₀ (gainLock p s) := by
  have hlit : Keeps s₀ (s.modPort p fun q => { q with signal := true }) := by simp [h]
  unfold gainLock
  dsimp only
  split
  · exact keeps_tryLock p hlit
  · exact keeps_pump p (hlit.modPort p (by simp) (by simp))
  all_goals exact hlit

/-- PORT-RESTART with a reply that keeps the invariants. -/
theorem keeps_restartPort (p : PortId) {reply : State → State}
    (hreply : ∀ s, Keeps s₀ s → Keeps s₀ (reply s)) (h : Keeps s₀ s) : Keeps s₀ (restartPort p reply s) := by
  unfold restartPort
  dsimp only
  split
  · exact hreply _ h
  · have hfallen := keeps_enterDown p false
      (h.modPort p (f := fun q => { q with lastDown := .restart }) (by simp) (by simp))
    split
    · exact keeps_evalClaims (hreply _ hfallen.drawFree)
    · exact hreply _ (keeps_evalClaims hfallen.drawFree)
  iterate 2
    · have hfallen := keeps_portFalls p .restart false h
      split
      · exact keeps_reportPortDown p _ (hreply _ hfallen.drawFree)
      · exact hreply _ (keeps_reportPortDown p _ hfallen.drawFree)
  · split
    · next r _ =>
      have hfallen := keeps_testFalls p r .aborted .restart h
      split
      · exact keeps_evalClaims (hreply _ hfallen.drawFree)
      · exact hreply _ (keeps_evalClaims hfallen.drawFree)
    · exact hreply _ h

end

end Sys2Proof.Machine
end

section
/-! What the Record Store keeps: images, the content of a record, and taking up a new one. -/

namespace Sys2Proof.Machine

open Sys2Proof

theorem groupOffsets_length {img : List Byte} {n off stop : Nat} {offs : List Nat}
    (h : groupOffsets img n off = some (offs, stop)) : offs.length = n := by
  induction n generalizing off offs stop with
  | zero =>
    cases h
    rfl
  | succ n ih =>
    unfold groupOffsets at h
    dsimp only at h
    split at h
    · obtain ⟨⟨offs', stop'⟩, hrest, heq⟩ := Option.map_eq_some_iff.mp h
      cases heq
      simp [ih hrest]
    · cases h

/-- A record lists at most 4 groups (R151, R174). -/
theorem readLayout_groups {img : List Byte} {l : Layout} (h : readLayout img = some l) :
    l.groups.length ≤ 4 := by
  unfold readLayout at h
  dsimp only at h
  split at h
  · next hcounts =>
    split at h
    · cases h
    · next offs poll hoffs =>
      split at h
      · cases h
        simp [groupOffsets_length hoffs, hcounts.2.2]
      · cases h
  · cases h

theorem contentOf_groups (img : List Byte) (verdict : Option CheckReason) :
    (contentOf img verdict).groups.length ≤ 4 := by
  unfold contentOf
  split
  · next l hl => simpa [readContent] using readLayout_groups hl
  · exact Nat.zero_le 4

@[simp] theorem toImage_length (bs : List Byte) : (toImage bs).length = 512 := by
  simp [toImage, Config.imageSize]

@[simp] theorem tornImage_length (n : Nat) : (tornImage n).length = 512 := by
  unfold tornImage
  dsimp only
  split <;> simp [Config.imageSize]

theorem overwrite_length {img : List Byte} {offset : Nat} {data : List Byte}
    (h : offset + data.length ≤ img.length) : (overwrite img offset data).length = img.length := by
  simp only [overwrite, List.length_append, List.length_take, List.length_drop]
  omega

section
variable {s₀ s : State}

@[simp] theorem keeps_loadRecord (h : Keeps s₀ s) : Keeps s₀ (loadRecord s) := by
  unfold loadRecord
  extract_lets img verdict drawn loaded
  have hdrawn : Keeps s₀ drawn := by
    unfold drawn
    split
    · exact h
    · exact h.drawFree
  have hstored : drawn.store = s.store := by
    unfold drawn
    split <;> rfl
  have hloaded : Keeps s₀ loaded := by
    refine hdrawn.modStore_of (fun hi => ?_) fun _ => contentOf_groups _ _
    rw [hstored] at hi ⊢
    exact ⟨hi.1, hi.1, hi.1, fun _ h => by cases h⟩
  cases verdict with
  | none => exact hloaded
  | some why => exact keeps_raise _ _ _ hloaded

@[simp] theorem keeps_endRoundForRecord (h : Keeps s₀ s) : Keeps s₀ (endRoundForRecord s) := by
  unfold endRoundForRecord
  refine h.modBus (fun b => ?_) (fun b => ?_) (fun b => ?_) (fun b => ?_) (fun b => ?_) (fun b => ?_) <;>
    dsimp only <;> repeat' split
  all_goals simp_all

theorem keepInFlight_sublist (q : List QueueEntry) : (keepInFlight q).Sublist q := List.filter_sublist

/-- Entries leave the class queues, none joins. -/
theorem Bus.HeatFits.of_sublist {b b' : Bus} (h : b.HeatFits) (hq : b'.heatQueue.Sublist b.heatQueue)
    (hf : b'.flight = b.flight) : b'.HeatFits := by
  obtain ⟨howner, htwo, hone⟩ := h
  rw [← hf] at hone
  exact ⟨fun e he => howner e (hq.subset he), fun g => (hq.countP_le).trans (htwo g), (hq.countP_le).trans hone⟩

theorem Bus.RostersFit.of_subset {b b' : Bus} (h : b.RostersFit) (hr : b'.roster = b.roster)
    (hq : ∀ cls, ∀ e ∈ b'.queue cls, e ∈ b.queue cls) : b'.RostersFit :=
  ⟨hr ▸ h.1, fun cls e he => h.2 cls e (hq cls e he)⟩

@[simp] theorem keeps_emptyOutbound (h : Keeps s₀ s) : Keeps s₀ (emptyOutbound s) := by
  unfold emptyOutbound
  refine Keeps.foldl _ (fun _ f hs => keeps_cabFrameGone f (by simp [hs])) ?_
  exact h.modBus_of id id (fun _ => Nat.zero_le 16) (fun _ hb => hb) (fun hb => hb)

@[simp] theorem keeps_redecideCab (h : Keeps s₀ s) : Keeps s₀ (redecideCab s) := by
  unfold redecideCab
  split
  · exact h
  · exact (keeps_emptyOutbound (keeps_endCabEntry h)).modBus (by simp) (by simp) (by simp) (by simp) (by simp)
      (by simp)

@[simp] theorem keeps_busNewRecord (h : Keeps s₀ s) : Keeps s₀ (busNewRecord s) := by
  unfold busNewRecord
  refine keeps_redecideCab ((keeps_endRoundForRecord h).modBus_of
    (fun hd => (keepInFlight_sublist _).length_le.trans hd) id id
    (fun _ hb => hb.of_sublist (keepInFlight_sublist _) rfl) (fun hb => hb.of_subset rfl fun cls => ?_))
  cases cls
  · exact (keepInFlight_sublist _).subset
  · exact (keepInFlight_sublist _).subset
  · exact fun _ => id

@[simp] theorem keeps_consistNewRecord (h : Keeps s₀ s) : Keeps s₀ (consistNewRecord s) := by
  unfold consistNewRecord
  exact keeps_originateChange (keeps_evalClaims (keeps_setClaims _ _ h))

@[simp] theorem keeps_takeUpRecord (h : Keeps s₀ s) : Keeps s₀ (takeUpRecord s) := by
  unfold takeUpRecord
  split
  · exact h
  · next img himg =>
    refine keeps_raise _ _ _ (keeps_consistNewRecord (keeps_rebuildGroups (keeps_rebuildLeaves
      (keeps_busNewRecord (h.modStore_of ?_ fun _ => contentOf_groups _ _)))))
    rintro ⟨hstored, -, hedit, hawaiting⟩
    exact ⟨hstored, hawaiting img himg, hedit, fun _ h => by cases h⟩

@[simp] theorem keeps_recordLiveIfReady (h : Keeps s₀ s) : Keeps s₀ (recordLiveIfReady s) := by
  unfold recordLiveIfReady
  split <;> simp [h]

@[simp] theorem keeps_writeEnds (readBack : List Byte) (h : Keeps s₀ s) : Keeps s₀ (writeEnds readBack s) := by
  unfold writeEnds
  extract_lets img good written
  have himg : img.length = 512 := toImage_length readBack
  clear_value img
  have hwritten : Keeps s₀ written :=
    h.modStore_of (fun ⟨_, hlive, hedit, hawaiting⟩ => ⟨himg, hlive, hedit, hawaiting⟩) id
  split
  · refine keeps_recordLiveIfReady (hwritten.modStore_of (fun ⟨hstored, hlive, hedit, _⟩ => ?_) id)
    refine ⟨hstored, hlive, hedit, fun img himg => ?_⟩
    cases himg
    exact hedit
  · exact keeps_raise _ _ _ (hwritten.modStore (by simp) (by simp) (by simp) (by simp) (by simp))

@[simp] theorem keeps_setProtectionMode (wanted : Protection) (h : Keeps s₀ s) :
    Keeps s₀ (setProtectionMode wanted s) := by
  unfold setProtectionMode
  split <;> simp [h]

end

end Sys2Proof.Machine
end

section
/-! What a request keeps. -/

namespace Sys2Proof.Machine

open Sys2Proof

section
variable {s₀ s : State}

@[simp] theorem keeps_refuse (src : ReqSource) (st : Status) (h : Keeps s₀ s) : Keeps s₀ (refuse src st s) :=
  keeps_answer _ _ _ _ h

@[simp] theorem keeps_accept (src : ReqSource) (payload : List Byte) (h : Keeps s₀ s) :
    Keeps s₀ (accept src payload s) :=
  keeps_answer _ _ _ _ h

@[simp] theorem keeps_requestDropped (h : Keeps s₀ s) : Keeps s₀ (requestDropped s) := by
  simp [requestDropped, h]

theorem keeps_envelope (src : ReqSource) {body : Option Arm → State → State}
    (hbody : ∀ arm s, Keeps s₀ s → Keeps s₀ (body arm s)) (h : Keeps s₀ s) :
    Keeps s₀ (envelope src body s) := by
  unfold envelope
  split
  · simp [h]
  · dsimp only
    split
    · simp [h]
    · exact hbody _ _ (by simp [h])

theorem keeps_handle (src : ReqSource) {body : State → State} (hbody : ∀ s, Keeps s₀ s → Keeps s₀ (body s))
    (h : Keeps s₀ s) : Keeps s₀ (handle src body s) :=
  keeps_envelope src (fun _ => hbody) h

@[simp] theorem keeps_doReadMap (src : ReqSource) (page : Byte) (h : Keeps s₀ s) :
    Keeps s₀ (doReadMap src page s) := by
  unfold doReadMap
  split <;> simp [h]

theorem keeps_clearAll (h : Keeps s₀ s) : Keeps s₀ (clearAll s) :=
  h.trans (by
    constructor
    case lanes => rintro ⟨⟩ <;> exact fun hq => hq
    all_goals exact fun hx => hx)

@[simp] theorem keeps_doClearCounters (src : ReqSource) (h : Keeps s₀ s) : Keeps s₀ (doClearCounters src s) :=
  keeps_accept _ _ (keeps_clearAll h)

@[simp] theorem keeps_doReadNotices (src : ReqSource) (h : Keeps s₀ s) : Keeps s₀ (doReadNotices src s) := by
  refine keeps_accept _ _ (h.trans ?_)
  constructor <;> simp [HeatFits]
  omega

@[simp] theorem keeps_doSetForwarding (src : ReqSource) (setting : Byte) (h : Keeps s₀ s) :
    Keeps s₀ (doSetForwarding src setting s) := by
  unfold doSetForwarding
  split <;> simp [h]

@[simp] theorem keeps_doResetArm (src : ReqSource) (h : Keeps s₀ s) : Keeps s₀ (doResetArm src s) := by
  simp [doResetArm, h]

@[simp] theorem keeps_doResetNode (src : ReqSource) (armTag : Byte) (arm : Option Arm) (h : Keeps s₀ s) :
    Keeps s₀ (doResetNode src armTag arm s) := by
  unfold doResetNode
  split <;> simp [h]

@[simp] theorem keeps_doPortRestart (src : ReqSource) (number : Byte) (h : Keeps s₀ s) :
    Keeps s₀ (doPortRestart src number s) := by
  unfold doPortRestart
  split
  · simp [h]
  · exact keeps_restartPort _ (fun _ => keeps_accept _ _) h

@[simp] theorem keeps_doLinkTest (src : ReqSource) (number : Byte) (frames : Word16) (h : Keeps s₀ s) :
    Keeps s₀ (doLinkTest src number frames s) := by
  unfold doLinkTest
  split
  · simp [h]
  · dsimp only
    split
    · simp [h]
    · split
      · simp [h]
      · split
        · simp [h]
        · exact keeps_sendHello _ _ _ ((keeps_accept _ _ h).modPort _ (by simp) (by simp))

@[simp] theorem keeps_doLinkResult (src : ReqSource) (number : Byte) (h : Keeps s₀ s) :
    Keeps s₀ (doLinkResult src number s) := by
  unfold doLinkResult
  split
  · simp [h]
  · split <;> simp [h]

@[simp] theorem keeps_claim (e : CabEnd) (claimed : Bool) (h : Keeps s₀ s) : Keeps s₀ (claim e claimed s) := by
  cases e <;> simp [claim, h]

@[simp] theorem keeps_doLeadSet (src : ReqSource) (cabEnd : Byte) (h : Keeps s₀ s) :
    Keeps s₀ (doLeadSet src cabEnd s) := by
  unfold doLeadSet
  split
  · simp [h]
  · split
    · simp [h]
    · split <;> simp [h]

@[simp] theorem keeps_doLeadClear (src : ReqSource) (cabEnd : Byte) (h : Keeps s₀ s) :
    Keeps s₀ (doLeadClear src cabEnd s) := by
  unfold doLeadClear
  split
  · simp [h]
  · split <;> simp [h]

@[simp] theorem keeps_doCensusStart (src : ReqSource) (h : Keeps s₀ s) : Keeps s₀ (doCensusStart src s) := by
  unfold doCensusStart
  split
  · simp [h]
  · exact keeps_startCensus ((keeps_accept _ _ h).modConsist (by simp) (by simp) (by simp) (by simp))

@[simp] theorem keeps_doSetTrainState (src : ReqSource) (bits : TrainBits) (period : Option Word16)
    (h : Keeps s₀ s) : Keeps s₀ (doSetTrainState src bits period s) := by
  unfold doSetTrainState
  split
  · simp [h]
  · split <;> simp [h]

theorem withoutAlias_length_le (number : Byte) (t : List AliasEntry) :
    (withoutAlias number t).length ≤ t.length := List.length_filter_le _ t

/-- A table that holds a number is longer than without it. -/
theorem withoutAlias_length_lt {number : Byte} {t : List AliasEntry} (h : (findAlias number t).isSome) :
    (withoutAlias number t).length < t.length := by
  obtain ⟨e, he⟩ := Option.isSome_iff_exists.mp h
  refine List.length_filter_lt_length_iff_exists.mpr ⟨e, List.mem_of_find?_eq_some he, ?_⟩
  simpa using List.find?_some he

@[simp] theorem keeps_doAliasWrite (src : ReqSource) (number : Byte) (vehicle : VehicleRef) (station : Byte)
    (h : Keeps s₀ s) : Keeps s₀ (doAliasWrite src number vehicle station s) := by
  unfold doAliasWrite
  dsimp only
  split
  · simp [h]
  · split
    · simp [h]
    · next hroom =>
      refine keeps_accept _ _ (h.trans ?_)
      constructor <;> try simp [HeatFits]
      intro hlen
      by_cases hnone : (findAlias number s.req.aliases).isNone
      · have hfull : s.req.aliases.length < 16 := Nat.lt_of_not_le fun hle => hroom ⟨hnone, hle⟩
        have := withoutAlias_length_le number s.req.aliases
        omega
      · have := withoutAlias_length_lt (number := number) (t := s.req.aliases) (by simpa [Option.isSome_iff_ne_none] using hnone)
        omega

@[simp] theorem keeps_doAliasClear (src : ReqSource) (number : Byte) (h : Keeps s₀ s) :
    Keeps s₀ (doAliasClear src number s) := by
  unfold doAliasClear
  dsimp only
  split
  · simp [h]
  · split
    · simp [h]
    · refine keeps_accept _ _ (h.trans ?_)
      constructor <;> try simp [HeatFits]
      exact (withoutAlias_length_le number _).trans

@[simp] theorem keeps_doAliasRead (src : ReqSource) (number : Byte) (h : Keeps s₀ s) :
    Keeps s₀ (doAliasRead src number s) := by
  unfold doAliasRead
  dsimp only
  split
  · simp [h]
  · split <;> simp [h]

/-- A remote transaction is taken; a walk has its stations in order and no roster yet. -/
theorem keeps_takeRemote {src : ReqSource} {op : BusOp} {mode : BusMode} (h : Keeps s₀ s)
    (hop : (QueueEntry.fresh op mode (.remote src)).WalkFits) : Keeps s₀ (takeRemote src op mode s) := by
  unfold takeRemote
  split
  · simp [h]
  · split
    · simp [h]
    · next hroom =>
      have hlen : s.req.remotes.length < 8 := Nat.lt_of_not_le hroom
      extract_lets entry
      have hpending : Keeps s₀ (s.modReq fun r => { r with remotes := r.remotes ++ [entry] }) := by
        refine h.trans ?_
        constructor <;> simp [HeatFits]
        omega
      split
      · next t ht => exact keeps_offerRemote hpending hop ht
      · simp [h]

@[simp] theorem keeps_doRemoteRead (src : ReqSource) (mode station item : Byte) (timeout : Word16)
    (h : Keeps s₀ s) : Keeps s₀ (doRemoteRead src mode station item timeout s) := by
  unfold doRemoteRead
  split
  · simp [h]
  · split
    · exact keeps_takeRemote h (fresh_walkFits (by simp))
    · simp [h]

@[simp] theorem keeps_doRemoteWrite (src : ReqSource) (mode station item : Byte) (data : List Byte)
    (timeout : Word16) (h : Keeps s₀ s) : Keeps s₀ (doRemoteWrite src mode station item data timeout s) := by
  unfold doRemoteWrite
  split
  · simp [h]
  · split
    · exact keeps_takeRemote h (fresh_walkFits (by simp))
    · simp [h]

@[simp] theorem keeps_doRemoteWalk (src : ReqSource) (first last : Byte) (h : Keeps s₀ s) :
    Keeps s₀ (doRemoteWalk src first last s) := by
  unfold doRemoteWalk
  split
  · next hrange =>
    refine keeps_takeRemote h fun next last' started roster hop => ?_
    cases hop
    obtain ⟨hone, hle, hlast⟩ := hrange
    exact ⟨hone, hle, hlast, hone, List.Pairwise.nil, by simp⟩
  · simp [h]

@[simp] theorem keeps_sendRelease (src : ReqSource) (side : TrainSide) (first last : Nat) (outside : Bool)
    (h : Keeps s₀ s) : Keeps s₀ (sendRelease src side first last outside s) := by
  unfold sendRelease
  exact keeps_accept _ _ (keeps_applyRelease _ _ ((keeps_broadcast _ h.modDoor).modRelay (by simp)))

@[simp] theorem keeps_doDoorRelease (src : ReqSource) (side first last : Byte) (outside : Bool)
    (h : Keeps s₀ s) : Keeps s₀ (doDoorRelease src side first last outside s) := by
  unfold doDoorRelease
  dsimp only
  repeat' split
  all_goals simp [h]

@[simp] theorem keeps_doDoorClose (src : ReqSource) (mask : Byte) (h : Keeps s₀ s) :
    Keeps s₀ (doDoorClose src mask s) := by
  unfold doDoorClose
  split
  · exact keeps_accept _ _ (keeps_applyClose _ _ (keeps_broadcast _ h.modDoor))
  · simp [h]

@[simp] theorem keeps_doDoorIsolate (src : ReqSource) (leaf : Byte) (h : Keeps s₀ s) :
    Keeps s₀ (doDoorIsolate src leaf s) := by
  unfold doDoorIsolate
  split <;> simp [h]

@[simp] theorem keeps_doDoorRestore (src : ReqSource) (leaf : Byte) (h : Keeps s₀ s) :
    Keeps s₀ (doDoorRestore src leaf s) := by
  unfold doDoorRestore
  split
  · simp [h]
  · split <;> simp [h]

@[simp] theorem keeps_doSetAllowance (src : ReqSource) (allowance : Word16) (stagger : Option Word16)
    (h : Keeps s₀ s) : Keeps s₀ (doSetAllowance src allowance stagger s) := by
  unfold doSetAllowance
  split
  · simp [h]
  · split
    · simp [h]
    · exact keeps_accept _ _ (h.modHeat (by simp)).modSweep

@[simp] theorem keeps_doGroupReset (src : ReqSource) (number : Byte) (h : Keeps s₀ s) :
    Keeps s₀ (doGroupReset src number s) := by
  unfold doGroupReset
  split
  · simp [h]
  · split <;> simp [h]

@[simp] theorem keeps_doRecordEdit (src : ReqSource) (offset : Word16) (data : List Byte) (h : Keeps s₀ s) :
    Keeps s₀ (doRecordEdit src offset data s) := by
  unfold doRecordEdit
  dsimp only
  split
  · simp [h]
  · next hrange =>
    have hfits : ¬ 512 < offset.toNat + data.length := fun hlt => hrange (.inr (.inr hlt))
    split
    · simp [h]
    · refine keeps_accept _ _ (h.modStore_of (fun ⟨hstored, hlive, hedit, hawaiting⟩ => ?_) id)
      exact ⟨hstored, hlive, (overwrite_length (by omega)).trans hedit, hawaiting⟩

@[simp] theorem keeps_doEditReset (src : ReqSource) (h : Keeps s₀ s) : Keeps s₀ (doEditReset src s) := by
  unfold doEditReset
  split
  · simp [h]
  · exact keeps_accept _ _ (h.modStore_of
      (fun ⟨hstored, hlive, _, hawaiting⟩ => ⟨hstored, hlive, hlive, hawaiting⟩) id)

@[simp] theorem keeps_doRecordRead (src : ReqSource) (image : Byte) (offset : Word16) (len : Byte)
    (h : Keeps s₀ s) : Keeps s₀ (doRecordRead src image offset len s) := by
  unfold doRecordRead
  dsimp only
  repeat' split
  all_goals simp [h]

@[simp] theorem keeps_doRecordStore (src : ReqSource) (h : Keeps s₀ s) : Keeps s₀ (doRecordStore src s) := by
  unfold doRecordStore
  repeat' split
  all_goals simp [h]

@[simp] theorem keeps_doSetProtection (src : ReqSource) (mode : Byte) (h : Keeps s₀ s) :
    Keeps s₀ (doSetProtection src mode s) := by
  unfold doSetProtection
  repeat' split
  all_goals simp [h]

/-- A request at the node that executes it, whichever it is. -/
@[simp] theorem keeps_perform (i : Instr) (h : Keeps s₀ s) : Keeps s₀ (perform i s) := by
  unfold perform
  split
  case h_9 => exact keeps_envelope _ (fun _ _ hs => keeps_doResetNode _ _ _ hs) h
  case h_35 => exact h
  all_goals
    refine keeps_handle _ (fun s hs => ?_) h
    simp [hs, doIdentify, doReadStatus, doReadCounters, doRemoteRoster]

@[simp] theorem keeps_executeRequest (src : ReqSource) (kind : Byte) (fields : List Byte) (h : Keeps s₀ s) :
    Keeps s₀ (executeRequest src kind fields s) := by
  unfold executeRequest
  split
  · simp [h]
  · exact keeps_handle _ (fun _ => keeps_refuse _ _) h
  · exact keeps_handle _ (fun _ => keeps_refuse _ _) h

@[simp] theorem keeps_deliverRequest (f : Frame) (h : Keeps s₀ s) : Keeps s₀ (deliverRequest f s) := by
  unfold deliverRequest
  dsimp only
  split
  · simp [h]
  · exact keeps_handle _ (fun _ => keeps_refuse _ _) h

@[simp] theorem keeps_originateRequest (destination tag kind : Byte) (fields : List Byte) (h : Keeps s₀ s) :
    Keeps s₀ (originateRequest destination tag kind fields s) := by
  unfold originateRequest
  dsimp only
  split <;> simp [h]

@[simp] theorem keeps_takeHostFrame (bytes : List Byte) (h : Keeps s₀ s) : Keeps s₀ (takeHostFrame bytes s) := by
  unfold takeHostFrame
  split
  · simp [h]
  · split <;> simp [h]

end

end Sys2Proof.Machine
end

section
/-! What the end of an attempt on the coach bus keeps: the entry in flight leaves its queue, or waits again. -/

namespace Sys2Proof.Machine

open Sys2Proof

/-- The entry in flight stands in its queue where `takeInFlight` says. -/
theorem takeInFlight_eq {q : List QueueEntry} {e : QueueEntry} {place : Nat}
    (h : takeInFlight q = some (e, place)) :
    ∃ before after, q = before ++ e :: after ∧ place = before.length ∧ e.phase = .inFlight := by
  induction q generalizing place with
  | nil => cases h
  | cons x rest ih =>
    unfold takeInFlight at h
    split at h
    · next hx =>
      cases h
      exact ⟨[], rest, rfl, rfl, hx⟩
    · obtain ⟨⟨found, i⟩, hrest, heq⟩ := Option.map_eq_some_iff.mp h
      cases heq
      obtain ⟨before, after, rfl, rfl, hphase⟩ := ih hrest
      exact ⟨x :: before, after, rfl, rfl, hphase⟩

theorem takeInFlight_none {q : List QueueEntry} (h : takeInFlight q = none) : flying q = 0 := by
  induction q with
  | nil => rfl
  | cons x rest ih =>
    unfold takeInFlight at h
    split at h
    · cases h
    · next hx =>
      have hrest := ih (Option.map_eq_none_iff.mp h)
      simp only [flying] at hrest
      simp [flying, hx, hrest]

theorem eraseIdx_append_length {α : Type} (before : List α) (e : α) (after : List α) :
    (before ++ e :: after).eraseIdx before.length = before ++ after := by
  induction before with
  | nil => rfl
  | cons x rest ih => simpa using ih

theorem modify_append_length {α : Type} (f : α → α) (before : List α) (e : α) (after : List α) :
    (before ++ e :: after).modify before.length f = before ++ f e :: after := by
  induction before with
  | nil => rfl
  | cons x rest ih => simpa using ih

@[simp] theorem Bus.queue_withQueue (cls : QueueClass) (q : List QueueEntry) (b : Bus) :
    (b.withQueue cls q).queue cls = q := by cases cls <;> rfl

theorem Bus.queue_withQueue_ne {cls cls' : QueueClass} (h : cls' ≠ cls) (q : List QueueEntry) (b : Bus) :
    (b.withQueue cls q).queue cls' = b.queue cls' := by
  cases cls <;> cases cls' <;> first | rfl | exact absurd rfl h

@[simp] theorem Bus.withQueue_roster (cls : QueueClass) (q : List QueueEntry) (b : Bus) :
    (b.withQueue cls q).roster = b.roster := by cases cls <;> rfl

@[simp] theorem Bus.withQueue_flight (cls : QueueClass) (q : List QueueEntry) (b : Bus) :
    (b.withQueue cls q).flight = b.flight := by cases cls <;> rfl

@[simp] theorem Bus.withQueue_outbound (cls : QueueClass) (q : List QueueEntry) (b : Bus) :
    (b.withQueue cls q).outbound = b.outbound := by cases cls <;> rfl

section
variable {s₀ s : State}

/-- A class queue takes a value that is no longer, on a bus that is otherwise as it was but for the transaction in
flight, the roster and counters. -/
theorem Keeps.setQueue {cls : QueueClass} {g : Bus → Bus} {q : List QueueEntry} (h : Keeps s₀ s)
    (hqueue : ∀ cls', (g s.bus).queue cls' = s.bus.queue cls') (hout : (g s.bus).outbound = s.bus.outbound)
    (hlen : q.length ≤ (s.bus.queue cls).length)
    (hheat : s.bus.HeatFits → ((g s.bus).withQueue cls q).HeatFits)
    (hroster : s.bus.RostersFit → RosterBelow 31 (g s.bus).roster)
    (hwalks : s.bus.RostersFit → ∀ e ∈ q, e.WalkFits) :
    Keeps s₀ (s.modBus fun _ => (g s.bus).withQueue cls q) := by
  have hlens : ∀ cls', (((g s.bus).withQueue cls q).queue cls').length ≤ (s.bus.queue cls').length := by
    intro cls'
    by_cases hc : cls' = cls
    · subst hc
      simpa using hlen
    · rw [Bus.queue_withQueue_ne hc, hqueue]
  refine h.modBus_of (hlens .door).trans (hlens .remote).trans (by simp [hout]) (fun _ => hheat) fun hb => ?_
  refine ⟨by simpa using hroster hb, fun cls' e he => ?_⟩
  by_cases hc : cls' = cls
  · subst hc
    exact hwalks hb e (by simpa using he)
  · rw [Bus.queue_withQueue_ne hc, hqueue] at he
    exact hb.2 cls' e he

/-- Class 2 without an entry, or with one that waits again: no group has more writes than before and nothing of
it is in flight. -/
theorem Bus.HeatFits.of_flown {cls : QueueClass} {b b' : Bus} {q before after : List QueueEntry}
    {e : QueueEntry} (h : b.HeatFits) (hflight : b.flight = some (.queue cls))
    (hqueue : b.queue cls = before ++ e :: after)
    (hother : ∀ cls', cls' ≠ cls → b'.queue cls' = b.queue cls') (hq : b'.queue cls = q)
    (hgroups : (∀ x ∈ before ++ e :: after, x.OfGroup) → ∀ x ∈ q, x.OfGroup)
    (howned : ∀ o, owned o q ≤ owned o (before ++ e :: after))
    (hflying : flying q + 1 ≤ flying (before ++ e :: after)) : b'.HeatFits := by
  obtain ⟨hown, htwo, hone⟩ := h
  rw [hflight] at hone
  by_cases hc : cls = .heat
  · subst hc
    have hold : b.heatQueue = before ++ e :: after := hqueue
    have hnew : b'.heatQueue = q := hq
    rw [hold] at hown htwo hone
    refine ⟨hnew ▸ hgroups hown, fun g => hnew ▸ (howned _).trans (htwo g), ?_⟩
    rw [hnew]
    simp only [if_true] at hone
    omega
  · have hsame : b'.heatQueue = b.heatQueue := hother .heat (Ne.symm hc)
    refine ⟨hsame ▸ hown, hsame ▸ htwo, ?_⟩
    rw [hsame]
    rw [if_neg (by simpa using hc)] at hone
    exact hone.trans (Nat.zero_le _)

/-- The entry in flight leaves its queue, whatever else the bus counts (R84). -/
theorem keeps_removeFlown {cls : QueueClass} {e : QueueEntry} {place : Nat} (g : Bus → Bus) (h : Keeps s₀ s)
    (hflight : s.bus.flight = some (.queue cls)) (htake : takeInFlight (s.bus.queue cls) = some (e, place))
    (hqueue : ∀ b cls', (g b).queue cls' = b.queue cls') (hout : ∀ b, (g b).outbound = b.outbound)
    (hroster : s.bus.RostersFit → RosterBelow 31 (g s.bus).roster) :
    Keeps s₀ (removeEntry cls place (s.modBus g)) := by
  obtain ⟨before, after, hq, rfl, hphase⟩ := takeInFlight_eq htake
  have herase : ((g s.bus).queue cls).eraseIdx before.length = before ++ after := by
    rw [hqueue, hq, eraseIdx_append_length]
  have heq : removeEntry cls before.length (s.modBus g)
      = s.modBus fun _ => (g s.bus).withQueue cls (before ++ after) := by
    rw [← herase]; rfl
  rw [heq]
  refine h.setQueue (hqueue _) (hout _) (by simp [hq]) (fun hb => ?_) hroster fun hb x hx => ?_
  · refine hb.of_flown (q := before ++ after) hflight hq (fun cls' hc => ?_) (by simp)
      (fun hown x hx => ?_) (fun o => ?_) ?_
    · rw [Bus.queue_withQueue_ne hc, hqueue]
    · exact hown x (by rcases List.mem_append.mp hx with hx | hx <;> simp [hx])
    · simp [owned, List.countP_cons]
    · simp [flying, hphase]
  · exact hb.2 cls x (by rw [hq]; rcases List.mem_append.mp hx with hx | hx <;> simp [hx])

/-- The entry in flight waits again in its place (R82, R83). -/
theorem keeps_changeFlown {cls : QueueClass} {e : QueueEntry} {place : Nat} (g : Bus → Bus)
    (f : QueueEntry → QueueEntry) (h : Keeps s₀ s)
    (hflight : s.bus.flight = some (.queue cls)) (htake : takeInFlight (s.bus.queue cls) = some (e, place))
    (hqueue : ∀ b cls', (g b).queue cls' = b.queue cls') (hout : ∀ b, (g b).outbound = b.outbound)
    (hroster : ∀ b, (g b).roster = b.roster) (howner : (f e).owner = e.owner)
    (hphase' : (f e).phase ≠ .inFlight) (hwalk : e.WalkFits → (f e).WalkFits) :
    Keeps s₀ (changeEntry cls place f (s.modBus g)) := by
  obtain ⟨before, after, hq, rfl, hphase⟩ := takeInFlight_eq htake
  have hmodify : ((g s.bus).queue cls).modify before.length f = before ++ f e :: after := by
    rw [hqueue, hq, modify_append_length]
  have heq : changeEntry cls before.length f (s.modBus g)
      = s.modBus fun _ => (g s.bus).withQueue cls (before ++ f e :: after) := by
    rw [← hmodify]; rfl
  rw [heq]
  refine h.setQueue (hqueue _) (hout _) (by simp [hq]) (fun hb => ?_) (fun hb => by simpa [hroster] using hb.1)
    fun hb x hx => ?_
  · refine hb.of_flown (q := before ++ f e :: after) hflight hq (fun cls' hc => ?_) (by simp)
      (fun hown x hx => ?_) (fun o => ?_) ?_
    · rw [Bus.queue_withQueue_ne hc, hqueue]
    · rcases List.mem_append.mp hx with hx | hx
      · exact hown x (by simp [hx])
      · rcases List.mem_cons.mp hx with rfl | hx
        · unfold QueueEntry.OfGroup
          rw [howner]
          exact hown e (by simp)
        · exact hown x (by simp [hx])
    · simp [owned, List.countP_cons, howner]
    · simp [flying, hphase, hphase']
  · have hwalks := hb.2 cls
    rw [hq] at hwalks
    rcases List.mem_append.mp hx with hx | hx
    · exact hwalks x (by simp [hx])
    · rcases List.mem_cons.mp hx with rfl | hx
      · exact hwalk (hwalks e (by simp))
      · exact hwalks x (by simp [hx])

@[simp] theorem keeps_remoteEnds (src : ReqSource) (outcome : BusOutcome) (h : Keeps s₀ s) :
    Keeps s₀ (remoteEnds src outcome s) := by
  unfold remoteEnds
  split
  · exact h
  · next e _ =>
    have hgone : Keeps s₀ (s.modReq fun r =>
        { r with remotes := r.remotes.filter fun x => decide (x.source ≠ src) }) :=
      h.modReq (by simp) (fun _ hlen => (List.length_filter_le _ _).trans hlen) (by simp)
    dsimp only
    split
    · exact hgone.modReq (by simp) (by simp) (by simp)
    · split
      · exact hgone.modReq (by simp) (by simp) (by simp)
      · exact keeps_answer _ _ _ _ hgone

@[simp] theorem keeps_tellOwner (e : QueueEntry) (outcome : BusOutcome) (h : Keeps s₀ s) :
    Keeps s₀ (tellOwner e outcome s) := by
  unfold tellOwner
  split <;> simp [h]

/-- The transaction in flight is over: the bus is idle, and the attempt is counted. -/
def Bus.landed (a : Attempt) (b : Bus) : Bus := { countAttempt a b with flight := none, replyTimer := none }

@[simp] theorem Bus.landed_queue (a : Attempt) (b : Bus) (cls : QueueClass) :
    (b.landed a).queue cls = b.queue cls := by cases a <;> cases cls <;> rfl

@[simp] theorem Bus.landed_outbound (a : Attempt) (b : Bus) : (b.landed a).outbound = b.outbound := by
  cases a <;> rfl

@[simp] theorem Bus.landed_roster (a : Attempt) (b : Bus) : (b.landed a).roster = b.roster := by
  cases a <;> rfl

@[simp] theorem Bus.landed_flight (a : Attempt) (b : Bus) : (b.landed a).flight = none := rfl

/-- A transaction of a class queue that has landed ends: its entry leaves and its owner is told (R84). -/
theorem keeps_endFlown {cls : QueueClass} {e : QueueEntry} {place : Nat} {a : Attempt} {outcome : BusOutcome}
    (g : Bus → Bus) (h : Keeps s₀ s)
    (hflight : s.bus.flight = some (.queue cls)) (htake : takeInFlight (s.bus.queue cls) = some (e, place))
    (hqueue : ∀ b cls', (g b).queue cls' = b.queue cls') (hout : ∀ b, (g b).outbound = b.outbound)
    (hroster : s.bus.RostersFit → RosterBelow 31 (g (s.bus.landed a)).roster) :
    Keeps s₀ (endEntry cls place e outcome ((s.modBus (Bus.landed a)).modBus g)) := by
  unfold endEntry
  dsimp only
  refine keeps_tellOwner _ _ ?_
  split
  · refine keeps_removeFlown
      (fun b => { g (b.landed a) with persistTimeouts := satInc (g (b.landed a)).persistTimeouts })
      h hflight htake (fun b cls' => ?_) (by simp [hout]) hroster
    rw [← Bus.landed_queue a b cls', ← hqueue (b.landed a) cls']
    cases cls' <;> rfl
  · exact keeps_removeFlown (fun b => g (b.landed a)) h hflight htake (by simp [hqueue]) (by simp [hout]) hroster

/-! ## Walks (R83) -/

/-- One READ of a walk adds at most its station to the roster below it. -/
theorem walkRoster_below {next : Byte} {roster : List RosterEntry} (a : Attempt)
    (hone : 1 ≤ next.toNat) (h : RosterBelow next.toNat roster) :
    RosterBelow (next.toNat + 1) (walkRoster next roster a) := by
  obtain ⟨hlen, hsorted, hmem⟩ := h
  have hadd : ∀ identification, RosterBelow (next.toNat + 1)
      (roster ++ [{ station := next, identification := identification }]) := by
    intro identification
    refine ⟨by simpa using hlen, ?_, fun e he => ?_⟩
    · rw [List.map_append, List.pairwise_append]
      refine ⟨hsorted, by simp, fun x hx y hy => ?_⟩
      obtain ⟨e, he, rfl⟩ := List.mem_map.mp hx
      rw [List.mem_singleton.mp hy]
      exact (hmem e he).2
    · rcases List.mem_append.mp he with he | he
      · have := hmem e he
        omega
      · rw [List.mem_singleton.mp he]
        exact ⟨hone, Nat.lt_succ_self _⟩
  cases a with
  | done data => exact hadd _
  | notReady => exact hadd _
  | noAnswer =>
    refine ⟨by simp only [walkRoster]; omega, hsorted, fun e he => ?_⟩
    have := hmem e he
    omega

theorem RosterBelow.mono {n m : Nat} {r : List RosterEntry} (h : RosterBelow n r) (hnm : n ≤ m) :
    RosterBelow m r :=
  ⟨h.1.trans_le hnm, h.2.1, fun e he => ⟨(h.2.2 e he).1, (h.2.2 e he).2.trans_le hnm⟩⟩

/-- A walk whose READ has landed goes on to its next station, or ends with its roster stored (R83). -/
theorem keeps_walkEnds {cls : QueueClass} {e : QueueEntry} {place : Nat} {next last : Byte} {started : Bool}
    {roster : List RosterEntry} (a : Attempt) (h : Keeps s₀ s) (hflight : s.bus.flight = some (.queue cls))
    (htake : takeInFlight (s.bus.queue cls) = some (e, place)) (hop : e.op = .walk next last started roster) :
    Keeps s₀ (walkEnds cls place e next last roster a (s.modBus (Bus.landed a))) := by
  have hmem : e ∈ s.bus.queue cls := by
    obtain ⟨before, after, hq, -, -⟩ := takeInFlight_eq htake
    simp [hq]
  unfold walkEnds
  dsimp only
  split
  · refine keeps_endFlown (fun b => { b with roster := walkRoster next roster a }) h hflight htake
      (fun b cls' => by cases cls' <;> rfl) (fun b => rfl) fun hb => ?_
    obtain ⟨hone, hle, hlast, hbelow⟩ := hb.2 cls e hmem next last started roster hop
    exact (walkRoster_below a hone hbelow).mono (by omega)
  · next hne =>
    refine keeps_changeFlown (Bus.landed a) _ h hflight htake (by simp) (by simp) (by simp) rfl (by simp)
      fun hw next' last' started' roster' hop' => ?_
    obtain ⟨hone, hle, hlast, hbelow⟩ := hw next last started roster hop
    have hlt : next.toNat ≠ last.toNat := fun heq => hne (BitVec.eq_of_toNat_eq heq)
    have hstep : (next + 1#8).toNat = next.toNat + 1 := by
      rw [BitVec.toNat_add]
      simp only [BitVec.toNat_ofNat]
      omega
    simp only [BusOp.walk.injEq] at hop'
    obtain ⟨rfl, rfl, -, rfl⟩ := hop'
    rw [hstep]
    exact ⟨by omega, by omega, hlast, walkRoster_below a hone hbelow⟩

/-- An attempt of a class queue entry has landed (R81, R82, R83). -/
theorem keeps_entryEnds {cls : QueueClass} {e : QueueEntry} {place : Nat} (a : Attempt) (h : Keeps s₀ s)
    (hflight : s.bus.flight = some (.queue cls)) (htake : takeInFlight (s.bus.queue cls) = some (e, place)) :
    Keeps s₀ (entryEnds cls place e a (s.modBus (Bus.landed a))) := by
  have hends : ∀ outcome, Keeps s₀ (endEntry cls place e outcome (s.modBus (Bus.landed a))) := fun outcome =>
    keeps_endFlown id h hflight htake (fun _ _ => rfl) (fun _ => rfl) fun hb => by simpa using hb.1
  unfold entryEnds
  split
  · next hop => exact keeps_walkEnds _ h hflight htake hop
  · exact hends _
  · unfold persistFails
    split
    · exact hends _
    · exact keeps_changeFlown (Bus.landed _) (fun e => { e with phase := .retryWait Config.retryWaitMs })
        h hflight htake (by simp) (by simp) (by simp) rfl (by simp) fun hw => hw
  · exact hends _
  · exact hends _

/-! ## Poll reads and mailbox transfers -/

@[simp] theorem keeps_countTimeout (h : Keeps s₀ s) : Keeps s₀ (countTimeout s) := by
  simp [countTimeout, h]

@[simp] theorem keeps_stationChange (e : PollEntry) (number : Nat) (data : List Byte) (h : Keeps s₀ s) :
    Keeps s₀ (stationChange e number data s) := by
  unfold stationChange
  repeat' split
  all_goals simp [h]

@[simp] theorem keeps_tellPollOwner (d : PollDest) (fromRead : Bool) (h : Keeps s₀ s) :
    Keeps s₀ (tellPollOwner d fromRead s) := by
  unfold tellPollOwner
  split <;> simp [h]

@[simp] theorem keeps_applyPoll (e : PollEntry) (number : Nat) (p : PollResult) (h : Keeps s₀ s) :
    Keeps s₀ (applyPoll e number p s) := by
  unfold applyPoll
  extract_lets told recorded
  have htold : Keeps s₀ told := by
    unfold told
    cases p <;> simp [h]
  exact keeps_tellPollOwner _ _ (htold.modBus (by simp) (by simp) (by simp) (by simp) (by simp) (by simp))

@[simp] theorem keeps_advancePointer (h : Keeps s₀ s) : Keeps s₀ (advancePointer s) := by
  unfold advancePointer
  exact keeps_finishRound (h.modBus (by simp) (by simp) (by simp) (by simp) (by simp) (by simp))

@[simp] theorem keeps_countPollTimeout (e : PollEntry) (p : PollResult) (h : Keeps s₀ s) :
    Keeps s₀ (countPollTimeout e p s) := by
  unfold countPollTimeout
  split <;> simp [h]

@[simp] theorem keeps_pollEnds (e : PollEntry) (number : Nat) (use : PollUse) (a : Attempt) (h : Keeps s₀ s) :
    Keeps s₀ (pollEnds e number use a s) := by
  have hpersist : Keeps s₀ (s.modBus fun b => { b with pollPersist := .unstarted }) := by simp [h]
  unfold pollEnds
  dsimp only
  split
  · exact hpersist
  · split
    · exact keeps_applyPoll _ _ _ (keeps_countPollTimeout _ _ hpersist)
    · exact hpersist
  · split
    · exact keeps_applyPoll _ _ _ (keeps_advancePointer (keeps_countPollTimeout _ _ h))
    · simp [h]

@[simp] theorem keeps_endCabService (h : Keeps s₀ s) : Keeps s₀ (endCabService s) := by
  unfold endCabService
  split
  · exact h
  · exact keeps_finishRound (keeps_takeCabOutcome _ (by simp [h]))

@[simp] theorem keeps_checkCabEnd (h : Keeps s₀ s) : Keeps s₀ (checkCabEnd s) := by
  unfold checkCabEnd
  split
  · split <;> simp [h]
  · exact h

@[simp] theorem keeps_transferMoves (t : CabTransfer) (a : Attempt) (h : Keeps s₀ s) :
    Keeps s₀ (transferMoves t a s) := by
  unfold transferMoves
  split
  · simp [h]
  · split
    · next f rest hout =>
      refine keeps_cabFrameGone f (h.modBus_of id id (fun hlen => ?_) (fun _ hb => hb) (fun hb => hb))
      rw [hout] at hlen
      exact Nat.le_of_succ_le hlen
    · exact h
  · exact h

@[simp] theorem keeps_cabEnds (t : CabTransfer) (detached : Option CabTally) (a : Attempt) (h : Keeps s₀ s) :
    Keeps s₀ (cabEnds t detached a s) := by
  have hcab : Keeps s₀ (s.modBus fun b => { b with cab := b.cab.map (CabEntry.after t a) }) := by simp [h]
  unfold cabEnds
  split
  · simp [h]
  · dsimp only
    split
    · exact keeps_endCabService hcab
    · exact keeps_checkCabEnd (keeps_transferMoves t a hcab)

/-- A transaction other than a heat write lands. -/
theorem keeps_landed (a : Attempt) (h : Keeps s₀ s)
    (hheat : s.bus.flight = some (.queue .heat) → flying s.bus.heatQueue = 0) :
    Keeps s₀ (s.modBus (Bus.landed a)) := by
  refine h.modBus_of ?_ ?_ ?_ (fun _ hb => ?_) (fun hb => ?_)
  · exact fun hd => (congrArg List.length (Bus.landed_queue a s.bus .door)).trans_le hd
  · exact fun hr => (congrArg List.length (Bus.landed_queue a s.bus .remote)).trans_le hr
  · simp
  · have hq : (s.bus.landed a).heatQueue = s.bus.heatQueue := Bus.landed_queue a s.bus .heat
    obtain ⟨howner, htwo, hone⟩ := hb
    refine ⟨hq ▸ howner, hq ▸ htwo, ?_⟩
    rw [hq, Bus.landed_flight]
    split at hone
    · next hf => simp [hheat hf]
    · simpa using hone
  · exact hb.of_subset (by simp) (by simp)

theorem attemptEnds_eq (f : Flight) (a : Attempt) (s : State) :
    attemptEnds f a s =
      let t := s.modBus (Bus.landed a)
      arbitrate (match f with
        | .queue cls =>
          match takeInFlight (t.bus.queue cls) with
          | some (e, place) => entryEnds cls place e a t
          | none => t
        | .cab c detached => cabEnds c detached a t
        | .poll e number use => pollEnds e number use a t) := rfl

theorem keeps_attemptEnds {f : Flight} (a : Attempt) (h : Keeps s₀ s) (hflight : s.bus.flight = some f) :
    Keeps s₀ (attemptEnds f a s) := by
  rw [attemptEnds_eq]
  dsimp only
  refine keeps_arbitrate ?_
  cases f with
  | queue cls =>
    simp only [State.modBus_bus, Bus.landed_queue]
    cases htake : takeInFlight (s.bus.queue cls) with
    | none =>
      refine keeps_landed a h fun hf => ?_
      rw [hflight] at hf
      cases hf
      exact takeInFlight_none htake
    | some found => exact keeps_entryEnds a h hflight htake
  | cab t detached => exact keeps_cabEnds _ _ _ (keeps_landed a h (by simp [hflight]))
  | poll e number use => exact keeps_pollEnds _ _ _ _ (keeps_landed a h (by simp [hflight]))

@[simp] theorem keeps_stationAnswers (station item : Byte) (ready : Bool) (data : List Byte) (h : Keeps s₀ s) :
    Keeps s₀ (stationAnswers station item ready data s) := by
  unfold stationAnswers
  split
  · exact h
  · next hf =>
    split
    · exact keeps_attemptEnds _ h hf
    · exact h

@[simp] theorem keeps_replyTimesOut (h : Keeps s₀ s) : Keeps s₀ (replyTimesOut s) := by
  unfold replyTimesOut
  split
  · exact h
  · next hf => exact keeps_attemptEnds _ h hf

/-! ## Retry waits and persist timeouts (R82) -/

theorem Bus.HeatFits.of_queueChange {cls : QueueClass} {b : Bus} {q : List QueueEntry} (h : b.HeatFits)
    (hgroups : (∀ x ∈ b.queue cls, x.OfGroup) → ∀ x ∈ q, x.OfGroup)
    (howned : ∀ o, owned o q ≤ owned o (b.queue cls)) (hflying : flying q ≤ flying (b.queue cls)) :
    (b.withQueue cls q).HeatFits := by
  obtain ⟨howner, htwo, hone⟩ := h
  cases cls with
  | heat => exact ⟨hgroups howner, fun g => (howned _).trans (htwo g), hflying.trans hone⟩
  | door => exact ⟨howner, htwo, hone⟩
  | remote => exact ⟨howner, htwo, hone⟩

/-- A class queue takes a value with no more entries, of no other owner, with no more in flight. -/
theorem keeps_withQueue {cls : QueueClass} {q : List QueueEntry} (h : Keeps s₀ s)
    (hlen : q.length ≤ (s.bus.queue cls).length)
    (hgroups : (∀ x ∈ s.bus.queue cls, x.OfGroup) → ∀ x ∈ q, x.OfGroup)
    (howned : ∀ o, owned o q ≤ owned o (s.bus.queue cls)) (hflying : flying q ≤ flying (s.bus.queue cls))
    (hwalks : (∀ x ∈ s.bus.queue cls, x.WalkFits) → ∀ x ∈ q, x.WalkFits) :
    Keeps s₀ (s.modBus fun b => b.withQueue cls q) :=
  h.setQueue (g := id) (fun _ => rfl) rfl hlen (fun hb => hb.of_queueChange hgroups howned hflying)
    (fun hb => hb.1) fun hb => hwalks (hb.2 cls)

theorem getElem_split {q : List QueueEntry} {place : Nat} {e : QueueEntry} (h : q[place]? = some e) :
    ∃ before after, q = before ++ e :: after ∧ place = before.length := by
  obtain ⟨hlt, rfl⟩ := List.getElem?_eq_some_iff.mp h
  exact ⟨q.take place, q.drop (place + 1), by simp, by simp [hlt.le]⟩

@[simp] theorem keeps_removeEntry (cls : QueueClass) (place : Nat) (h : Keeps s₀ s) :
    Keeps s₀ (removeEntry cls place s) := by
  have hsub : ((s.bus.queue cls).eraseIdx place).Sublist (s.bus.queue cls) := List.eraseIdx_sublist _ _
  exact keeps_withQueue h hsub.length_le (fun hg x hx => hg x (hsub.subset hx)) (fun _ => hsub.countP_le)
    hsub.countP_le fun hw x hx => hw x (hsub.subset hx)

@[simp] theorem keeps_endEntry (cls : QueueClass) (place : Nat) (e : QueueEntry) (outcome : BusOutcome)
    (h : Keeps s₀ s) : Keeps s₀ (endEntry cls place e outcome s) := by
  unfold endEntry
  dsimp only
  refine keeps_tellOwner _ _ (keeps_removeEntry _ _ ?_)
  split
  · exact keeps_countTimeout h
  · exact h

theorem toFront_perm (e : QueueEntry) (q : List QueueEntry) : (toFront e q).Perm (e :: q) := by
  cases q with
  | nil => exact List.Perm.refl _
  | cons x rest =>
    simp only [toFront]
    split
    · exact List.Perm.swap _ _ _
    · exact List.Perm.refl _

@[simp] theorem keeps_entryRetryEnds (cls : QueueClass) (place : Nat) (h : Keeps s₀ s) :
    Keeps s₀ (entryRetryEnds cls place s) := by
  unfold entryRetryEnds
  split
  · next e he =>
    split
    · obtain ⟨before, after, hq, rfl⟩ := getElem_split he
      have hkeep : ∀ q : List QueueEntry, q.Perm ({ e with phase := .waiting } :: (before ++ after)) →
          Keeps s₀ (s.modBus fun b => b.withQueue cls q) := by
        intro q hperm
        refine keeps_withQueue h ?_ (fun hg x hx => ?_) (fun o => ?_) ?_ fun hw x hx => ?_
        · rw [hperm.length_eq, hq]
          simp
        · rw [hq] at hg
          rcases List.mem_cons.mp (hperm.mem_iff.mp hx) with rfl | hx
          · exact hg e (by simp)
          · exact hg x (by rcases List.mem_append.mp hx with hx | hx <;> simp [hx])
        · simp only [owned, hperm.countP_eq, hq, List.countP_cons, List.countP_append]
          omega
        · simp only [flying, hperm.countP_eq, hq, List.countP_cons, List.countP_append, reduceCtorEq,
            decide_false, Bool.false_eq_true, if_false]
          omega
        · rw [hq] at hw
          rcases List.mem_cons.mp (hperm.mem_iff.mp hx) with rfl | hx
          · exact hw e (by simp)
          · exact hw x (by rcases List.mem_append.mp hx with hx | hx <;> simp [hx])
      refine keeps_arbitrate (hkeep _ ?_)
      rw [hq, eraseIdx_append_length]
      exact toFront_perm { e with phase := .waiting } (before ++ after)
    · exact h
  · exact h

@[simp] theorem keeps_retryEnds (c : BusClass) (place : Nat) (h : Keeps s₀ s) :
    Keeps s₀ (retryEnds c place s) := by
  unfold retryEnds
  split
  · simp [h]
  · split <;> simp [h]

@[simp] theorem keeps_entryPersistEnds (cls : QueueClass) (place : Nat) (h : Keeps s₀ s) :
    Keeps s₀ (entryPersistEnds cls place s) := by
  unfold entryPersistEnds
  split
  · next e he =>
    split
    · exact h
    · split
      · obtain ⟨before, after, hq, rfl⟩ := getElem_split he
        have hmodify : (s.bus.queue cls).modify before.length (fun e => { e with persist := .expired })
            = before ++ { e with persist := .expired } :: after := by
          rw [hq, modify_append_length]
        refine keeps_withQueue h (by simp) (fun hg x hx => ?_) (fun o => ?_) ?_ fun hw x hx => ?_
        · rw [hmodify] at hx
          rw [hq] at hg
          rcases List.mem_append.mp hx with hx | hx
          · exact hg x (by simp [hx])
          · rcases List.mem_cons.mp hx with rfl | hx
            · exact hg e (by simp)
            · exact hg x (by simp [hx])
        · rw [hmodify, hq]
          simp [owned, List.countP_cons]
        · rw [hmodify, hq]
          simp [flying, List.countP_cons]
        · rw [hmodify] at hx
          rw [hq] at hw
          rcases List.mem_append.mp hx with hx | hx
          · exact hw x (by simp [hx])
          · rcases List.mem_cons.mp hx with rfl | hx
            · exact hw e (by simp)
            · exact hw x (by simp [hx])
      · simp [h]
  · exact h

@[simp] theorem keeps_pollPersistEnds (h : Keeps s₀ s) : Keeps s₀ (pollPersistEnds s) := by
  unfold pollPersistEnds
  split
  · exact h
  · split
    · simp [h]
    · split
      · exact keeps_arbitrate (keeps_applyPoll _ _ _ (keeps_advancePointer (keeps_countTimeout h)))
      · simp [h]

@[simp] theorem keeps_persistEnds (c : BusClass) (place : Nat) (h : Keeps s₀ s) :
    Keeps s₀ (persistEnds c place s) := by
  unfold persistEnds
  split <;> simp [h]

end

end Sys2Proof.Machine
end

section
/-! Every command keeps what the invariants ask, and so does the idle node. -/

namespace Sys2Proof.Machine

open Sys2Proof

section
variable {s₀ s : State}

/-! ## Received frames -/

@[simp] theorem keeps_headerError (h : Keeps s₀ s) : Keeps s₀ (headerError s) := h.modRelay (by simp)

@[simp] theorem keeps_wrongDirection (h : Keeps s₀ s) : Keeps s₀ (wrongDirection s) := h.modRelay (by simp)

@[simp] theorem keeps_countRepeat (h : Keeps s₀ s) : Keeps s₀ (countRepeat s) := h.modRelay (by simp)

@[simp] theorem keeps_sweepMismatch (h : Keeps s₀ s) : Keeps s₀ (sweepMismatch s) := h.modSweep

@[simp] theorem keeps_forward (p : PortId) (f : Frame) (h : Keeps s₀ s) : Keeps s₀ (forward p f s) :=
  keeps_offerIfCarrying _ _ h

@[simp] theorem Relay.refuseKind_changeIds (kind : Byte) (r : Relay) :
    (r.refuseKind kind).changeIds = r.changeIds := by
  unfold Relay.refuseKind
  repeat' split
  all_goals rfl

@[simp] theorem keeps_relayChange (p : PortId) (f : Frame) (h : Keeps s₀ s) : Keeps s₀ (relayChange p f s) := by
  unfold relayChange
  split
  · exact keeps_headerError h
  · next id _ =>
    have hforward := keeps_forward p f h
    dsimp only
    split
    · exact keeps_countRepeat hforward
    · exact keeps_applyChange (keeps_enterChange id hforward)

@[simp] theorem keeps_relayRelease (p : PortId) (f : Frame) (h : Keeps s₀ s) :
    Keeps s₀ (relayRelease p f s) := by
  unfold relayRelease
  split
  · exact keeps_headerError h
  · split
    · exact keeps_wrongDirection h
    · have hforward := keeps_forward p f h
      dsimp only
      split
      · exact keeps_countRepeat hforward
      · exact keeps_applyRelease _ _ (hforward.modRelay (by simp))

@[simp] theorem keeps_relayClose (p : PortId) (f : Frame) (h : Keeps s₀ s) : Keeps s₀ (relayClose p f s) := by
  unfold relayClose
  split
  · exact keeps_headerError h
  · exact keeps_applyClose _ _ (keeps_forward p f h)

@[simp] theorem keeps_relaySweepOut (p : PortId) (f : Frame) (h : Keeps s₀ s) :
    Keeps s₀ (relaySweepOut p f s) := by
  unfold relaySweepOut
  repeat' split
  all_goals simp [h]

@[simp] theorem keeps_relaySweepBack (p : PortId) (f : Frame) (h : Keeps s₀ s) :
    Keeps s₀ (relaySweepBack p f s) := by
  unfold relaySweepBack
  repeat' split
  all_goals simp [h]

theorem keeps_relayAddressed {deliver : Frame → State → State} (f : Frame)
    (hd : ∀ s, Keeps s₀ s → Keeps s₀ (deliver f s)) (h : Keeps s₀ s) :
    Keeps s₀ (relayAddressed deliver f s) := by
  unfold relayAddressed
  split
  · exact hd _ h
  · exact keeps_route _ h

@[simp] theorem keeps_relayAccepted (p : PortId) (f : Frame) (h : Keeps s₀ s) :
    Keeps s₀ (relayAccepted p f s) := by
  unfold relayAccepted
  split
  · exact keeps_relayChange p f h
  split
  · exact keeps_takeCount p f h
  split
  · exact keeps_takeRoll p f h
  split
  · exact keeps_takeConfirm f h
  split
  · exact keeps_relaySweepOut p f h
  split
  · exact keeps_relaySweepBack p f h
  split
  · exact keeps_relayRelease p f h
  split
  · exact keeps_relayClose p f h
  split
  · exact keeps_relayAddressed f (fun _ => keeps_deliverRequest f) h
  split
  · exact keeps_relayAddressed f (fun _ => keeps_deliverReply f .plain) h
  · exact keeps_relayAddressed f (fun _ => keeps_deliverNotice f) h

@[simp] theorem keeps_relayFrame (p : PortId) (f : Frame) (h : Keeps s₀ s) : Keeps s₀ (relayFrame p f s) := by
  unfold relayFrame
  split
  · exact keeps_headerError h
  · split
    · exact h.modRelay (by simp)
    · exact keeps_relayAccepted p f h

@[simp] theorem keeps_erroredFrame (p : PortId) (h : Keeps s₀ s) : Keeps s₀ (erroredFrame p s) := by
  unfold erroredFrame
  split <;> simp [h]

@[simp] theorem keeps_upFrame (p : PortId) (f : Frame) (h : Keeps s₀ s) : Keeps s₀ (upFrame p f s) := by
  have hcounted : Keeps s₀ (s.modPort p Port.countGood)  :=
    h.modPort p (by simp) (by simp)
  unfold upFrame
  dsimp only
  split
  · split
    · exact keeps_supervise _ _ _ hcounted
    · exact hcounted
  · split
    · exact hcounted
    · exact keeps_relayFrame p f hcounted

@[simp] theorem keeps_settlingFrame (p : PortId) (f : Frame) (h : Keeps s₀ s) :
    Keeps s₀ (settlingFrame p f s) := by
  unfold settlingFrame
  split
  · split <;> simp [h]
  · exact h

@[simp] theorem keeps_receive (p : PortId) (f : Frame) (h : Keeps s₀ s) : Keeps s₀ (receive p f s) := by
  unfold receive
  split
  · exact keeps_erroredFrame p h
  · split
    · exact keeps_upFrame p f h
    · exact keeps_settlingFrame p f h
    · split <;> simp [h]
    · exact h
    · exact h

/-! ## Power and reset -/

@[simp] theorem keeps_startBlocks (h : Keeps s₀ s) : Keeps s₀ (startBlocks s) := by
  unfold startBlocks
  extract_lets c polled doored
  have hpolled : Keeps s₀ polled := h.modBus (by simp) (by simp) (by simp) (by simp) (by simp) (by simp)
  exact keeps_commandAllOff (hpolled.modDoor.modHeat_of fun hc => by simpa [doored, polled, c] using hc)

theorem Bus.reset_heatFits : Bus.reset.HeatFits :=
  ⟨(fun _ he => nomatch he), fun _ => Nat.zero_le _, Nat.zero_le _⟩

theorem Bus.reset_rostersFit : Bus.reset.RostersFit := by
  refine ⟨⟨by decide, List.Pairwise.nil, fun _ he => nomatch he⟩, fun cls e he => ?_⟩
  cases cls <;> cases he

theorem keeps_resetBlocks {lp1 lp2 : Port} (counter : Byte) (mode : Protection) (h : Keeps s₀ s)
    (h1 : LanesBounded lp1) (h2 : LanesBounded lp2) : Keeps s₀ (resetBlocks lp1 lp2 counter mode s) := by
  unfold resetBlocks
  extract_lets fresh
  refine keeps_startBlocks (keeps_loadRecord (h.trans ?_))
  constructor
  case lanes =>
    rintro (_ | _) -
    · exact h1
    · exact h2
  case unknown => exact fun _ _ => ⟨rfl, rfl⟩
  case maps => exact fun _ => ⟨Nat.zero_le _, fun m hm => by cases hm⟩
  case heat =>
    exact fun hf => ⟨hf.1, Nat.zero_le _, Bus.reset_heatFits⟩
  case rosters =>
    exact fun _ => Bus.reset_rostersFit
  case images => exact id
  all_goals exact fun _ => Nat.zero_le _

@[simp] theorem keeps_losePower (h : Keeps s₀ s) : Keeps s₀ (losePower s) := by
  unfold losePower
  extract_lets n t
  have ht : Keeps s₀ t := by
    unfold t
    split
    · have himg := tornImage_length n
      generalize tornImage n = img at himg ⊢
      exact (h.modStore_of (fun ⟨_, hrest⟩ => ⟨himg, hrest⟩) id).drawFree
    · exact h.modStore (by simp) (by simp) (by simp) (by simp) (by simp)
    · exact h
    · exact h
  exact ht.of_eq (by rintro ⟨⟩ <;> rfl) rfl rfl rfl rfl rfl rfl

theorem Port.reset_lanesBounded : LanesBounded Port.reset := ⟨Nat.zero_le _, Nat.zero_le _⟩

theorem Port.resetNode_lanesBounded (q : Port) : LanesBounded q.resetNode := ⟨Nat.zero_le _, Nat.zero_le _⟩

@[simp] theorem keeps_gainPower (pins : Pins) (h : Keeps s₀ s) : Keeps s₀ (gainPower pins s) := by
  unfold gainPower
  extract_lets off on
  have hoff : Keeps s₀ off := by
    unfold off
    split
    · exact keeps_losePower h
    · exact h
  refine keeps_driveProven (keeps_resetBlocks _ _ ?_ Port.reset_lanesBounded Port.reset_lanesBounded)
  exact hoff.of_eq (by rintro ⟨⟩ <;> rfl) rfl rfl rfl rfl rfl rfl

@[simp] theorem keeps_resetNow (h : Keeps s₀ s) : Keeps s₀ (resetNow s) :=
  keeps_resetBlocks _ _ h (Port.resetNode_lanesBounded _) (Port.resetNode_lanesBounded _)

@[simp] theorem keeps_resetWhenDue (h : Keeps s₀ s) : Keeps s₀ (resetWhenDue s) := by
  unfold resetWhenDue
  repeat' split
  all_goals simp [h]

@[simp] theorem keeps_recordWriteEnds (readBack : List Byte) (h : Keeps s₀ s) :
    Keeps s₀ (recordWriteEnds readBack s) := by
  unfold recordWriteEnds
  split
  · split
    · have himg := toImage_length readBack
      generalize toImage readBack = img at himg ⊢
      exact keeps_resetNow (h.modStore_of (fun ⟨_, hrest⟩ => ⟨himg, hrest⟩) id)
    · exact keeps_writeEnds readBack h
  · exact h

@[simp] theorem keeps_settingWriteEnds (h : Keeps s₀ s) : Keeps s₀ (settingWriteEnds s) := by
  unfold settingWriteEnds
  dsimp only
  repeat' split
  all_goals simp [h]

/-! ## The events of the units -/

theorem keeps_onlyIf (c : Bool) {f : State → State} (hf : Keeps s₀ s → Keeps s₀ (f s)) (h : Keeps s₀ s) :
    Keeps s₀ (onlyIf c f s) := by
  unfold onlyIf
  split
  · exact hf h
  · exact h

@[simp] theorem keeps_changeIdEnds (id : ChangeId) (h : Keeps s₀ s) : Keeps s₀ (changeIdEnds id s) :=
  h.modRelay fun _ hlen => (List.length_filter_le _ _).trans hlen

@[simp] theorem keeps_repeatChange (counter : Byte) (h : Keeps s₀ s) : Keeps s₀ (repeatChange counter s) := by
  unfold repeatChange onlyIf
  split <;> simp [h]

@[simp] theorem keeps_rollEnds (h : Keeps s₀ s) : Keeps s₀ (rollEnds s) := by
  unfold rollEnds onlyIf
  dsimp only
  repeat' split
  all_goals simp [h]

@[simp] theorem keeps_holdEnds (h : Keeps s₀ s) : Keeps s₀ (holdEnds s) := by
  unfold holdEnds onlyIf
  dsimp only
  split
  · split
    · exact keeps_leaveCensus ((h.modConsist (by simp) (by simp) (by simp) (by simp)).modConsist (by simp) (by simp)
        (by simp) (by simp))
    · simp [h]
  · exact h

@[simp] theorem keeps_waitEnds (h : Keeps s₀ s) : Keeps s₀ (waitEnds s) := by
  unfold waitEnds
  split <;> simp [h]

@[simp] theorem keeps_retryTimerEnds (h : Keeps s₀ s) : Keeps s₀ (retryTimerEnds s) := by
  unfold retryTimerEnds onlyIf
  dsimp only
  repeat' split
  all_goals simp [h]

@[simp] theorem keeps_periodEnds (h : Keeps s₀ s) : Keeps s₀ (periodEnds s) := by
  unfold periodEnds onlyIf
  dsimp only
  repeat' split
  all_goals simp [h]

@[simp] theorem keeps_freshnessEnds (h : Keeps s₀ s) : Keeps s₀ (freshnessEnds s) := h.modSweep

@[simp] theorem keeps_warningEnds (k : Nat) (h : Keeps s₀ s) : Keeps s₀ (warningEnds k s) :=
  keeps_onlyIf _ (keeps_enterLeaf k .closing) h

@[simp] theorem keeps_closeConfirmEnds (k : Nat) (h : Keeps s₀ s) : Keeps s₀ (closeConfirmEnds k s) :=
  keeps_onlyIf _ (keeps_closeFailed k) h

@[simp] theorem keeps_dwellEnds (k : Nat) (h : Keeps s₀ s) : Keeps s₀ (dwellEnds k s) :=
  keeps_onlyIf _ (keeps_enterLeaf k .closing) h

@[simp] theorem keeps_headlessEnds (h : Keeps s₀ s) : Keeps s₀ (headlessEnds s) := by
  unfold headlessEnds
  split <;> simp [h]

@[simp] theorem keeps_increaseWaitEnds (h : Keeps s₀ s) : Keeps s₀ (increaseWaitEnds s) := by
  unfold increaseWaitEnds
  split <;> simp [h]

@[simp] theorem keeps_staggerEnds (h : Keeps s₀ s) : Keeps s₀ (staggerEnds s) := by
  unfold staggerEnds
  split <;> simp [h]

@[simp] theorem keeps_heatHoldEnds (h : Keeps s₀ s) : Keeps s₀ (heatHoldEnds s) := by
  unfold heatHoldEnds onlyIf
  dsimp only
  repeat' split
  all_goals simp [h]

@[simp] theorem keeps_dropIntervalEnds (p : PortId) (h : Keeps s₀ s) : Keeps s₀ (dropIntervalEnds p s) := by
  unfold dropIntervalEnds onlyIf
  split <;> simp [h]

@[simp] theorem keeps_contactHoldoffEnds (p : PortId) (h : Keeps s₀ s) :
    Keeps s₀ (contactHoldoffEnds p s) := by
  unfold contactHoldoffEnds onlyIf
  split <;> simp [h]

@[simp] theorem keeps_settleTimeEnds (p : PortId) (h : Keeps s₀ s) : Keeps s₀ (settleTimeEnds p s) := by
  unfold settleTimeEnds onlyIf
  split <;> simp [h]

@[simp] theorem keeps_helloDue (p : PortId) (h : Keeps s₀ s) : Keeps s₀ (helloDue p s) := by
  unfold helloDue onlyIf
  split <;> simp [h]

@[simp] theorem keeps_silenceEnds (p : PortId) (h : Keeps s₀ s) : Keeps s₀ (silenceEnds p s) :=
  keeps_onlyIf _ (keeps_portDown p .silent false) h

@[simp] theorem keeps_glitchEnds (p : PortId) (h : Keeps s₀ s) : Keeps s₀ (glitchEnds p s) :=
  keeps_onlyIf _ (keeps_portDown p .uncoupled false) h

@[simp] theorem keeps_offerEnds (p : PortId) (h : Keeps s₀ s) : Keeps s₀ (offerEnds p s) :=
  keeps_refuseOffer p h

@[simp] theorem keeps_testDueEnters (p : PortId) (h : Keeps s₀ s) : Keeps s₀ (testDueEnters p s) := by
  unfold testDueEnters
  dsimp only
  repeat' split
  all_goals simp [h]

@[simp] theorem keeps_testQuietEnds (p : PortId) (h : Keeps s₀ s) : Keeps s₀ (testQuietEnds p s) := by
  unfold testQuietEnds
  repeat' split
  all_goals simp [h]

@[simp] theorem keeps_transmitEnds (p : PortId) (h : Keeps s₀ s) : Keeps s₀ (transmitEnds p s) := by
  unfold transmitEnds
  split
  · exact h
  · exact keeps_pump p (keeps_laneFrameGone p _ (h.modPort p (by simp) (by simp)))
  · exact h

@[simp] theorem keeps_dropHoldoffEnds (p : PortId) (h : Keeps s₀ s) : Keeps s₀ (dropHoldoffEnds p s) :=
  h.modPort p (by simp) (by simp)

@[simp] theorem keeps_standstillFalls (h : Keeps s₀ s) : Keeps s₀ (standstillFalls s) := by
  unfold standstillFalls onlyIf
  split <;> simp [h]

@[simp] theorem keeps_supplyFalls (h : Keeps s₀ s) : Keeps s₀ (supplyFalls s) := by
  unfold supplyFalls onlyIf
  split <;> simp [h]

@[simp] theorem keeps_spacingEnds (h : Keeps s₀ s) : Keeps s₀ (spacingEnds s) := by
  simp [spacingEnds, h]

@[simp] theorem keeps_roundTimerEnds (h : Keeps s₀ s) : Keeps s₀ (roundTimerEnds s) :=
  keeps_onlyIf _ (keeps_roundStart _) h

@[simp] theorem keeps_overrunHoldoffEnds (h : Keeps s₀ s) : Keeps s₀ (overrunHoldoffEnds s) := by
  simp [overrunHoldoffEnds, h]

/-! ## The idle node -/

@[simp] theorem QueueEntry.tick_owner (e : QueueEntry) : e.tick.owner = e.owner := rfl

@[simp] theorem QueueEntry.tick_op (e : QueueEntry) : e.tick.op = e.op := rfl

@[simp] theorem QueueEntry.tick_inFlight (e : QueueEntry) : e.tick.phase = .inFlight ↔ e.phase = .inFlight := by
  obtain ⟨op, mode, owner, phase, persist, current⟩ := e
  cases phase <;> simp [QueueEntry.tick]

@[simp] theorem owned_tick (o : Owner) (q : List QueueEntry) : owned o (q.map QueueEntry.tick) = owned o q := by
  rw [owned, List.countP_map]
  rfl

@[simp] theorem flying_tick (q : List QueueEntry) : flying (q.map QueueEntry.tick) = flying q := by
  simp [flying, List.countP_map, Function.comp_def]

theorem Bus.queue_tick (b : Bus) (cls : QueueClass) : b.tick.queue cls = (b.queue cls).map QueueEntry.tick := by
  cases cls <;> rfl

theorem keeps_tick (s : State) : Keeps s (tick s) where
  lanes p h := by cases p <;> exact h
  changeIds h := by simpa [tick, Relay.tick] using h
  doors h := by simpa [tick, Bus.tick] using h
  remoteQueue h := by simpa [tick, Bus.tick] using h
  outbound := id
  aliases := id
  remotes h := by simpa [tick, Req.tick] using h
  notices := id
  unknown := id
  maps := id
  heat := by
    rintro ⟨hc, hg, howner, htwo, hone⟩
    refine ⟨hc, hg, fun e he => ?_, fun g => ?_, ?_⟩
    · obtain ⟨x, hx, rfl⟩ := List.mem_map.mp he
      exact howner x hx
    · exact (owned_tick _ _).trans_le (htwo g)
    · exact (flying_tick _).trans_le hone
  rosters := by
    rintro ⟨hroster, hwalks⟩
    refine ⟨hroster, fun cls e he => ?_⟩
    rw [show (tick s).bus = s.bus.tick from rfl, Bus.queue_tick] at he
    obtain ⟨x, hx, rfl⟩ := List.mem_map.mp he
    exact hwalks cls x hx
  images := id

theorem keeps_idle (s : State) : Keeps s (idle s) := by
  rcases idle_cases s with ⟨c, hc⟩ | hc | hc <;> rw [hc]
  · exact (Keeps.refl s).setPending _
  · exact keeps_tick s
  · exact Keeps.refl s

/-! ## The commands -/

theorem keeps_live {f : State → State} (hf : ∀ s, Keeps s₀ s → Keeps s₀ (f s)) (h : Keeps s₀ s) :
    Keeps s₀ (liveState f s) := by
  unfold liveState
  split
  · exact keeps_finish (hf _ h)
  · exact h

end

/-- Every command but those of the supplies is an effect that keeps what the invariants ask. -/
theorem exec_keepingEffect (i : Instr) (s : State) :
    (∃ pins, i = .powerOn pins) ∨ i = .powerFail
      ∨ ∃ f, exec i s = live f s ∧ ∀ s₀ t, Keeps s₀ t → Keeps s₀ (f t) := by
  have request : exec i s = live (perform i) s →
      ∃ f, exec i s = live f s ∧ ∀ s₀ t, Keeps s₀ t → Keeps s₀ (f t) :=
    fun h => ⟨_, h, fun _ _ => keeps_perform i⟩
  cases i
  case powerOn pins => exact .inl ⟨pins, rfl⟩
  case powerFail => exact .inr (.inl rfl)
  case identify | readStatus | readMap | readCounters | clearCounters | readNotices | setNoticeForwarding
      | resetArm | resetNode | portRestart | linkTest | linkResult | leadSet | leadClear | censusStart
      | setTrainState | aliasWrite | aliasClear | aliasRead | remoteStationRead | remoteStationWrite
      | remoteStationWalk | remoteStationRoster | doorRelease | doorClose | doorIsolate | doorRestore
      | setAllowance | groupReset | recordEdit | recordEditReset | recordRead | recordStore
      | setProtection => exact .inr (.inr (request rfl))
  all_goals exact .inr (.inr ⟨_, rfl, fun _ _ h => by simp [h]⟩)

theorem keeps_exec {i : Instr} {s t : State} (h : exec i s = .next t) : Keeps s t := by
  rcases exec_keepingEffect i s with ⟨pins, rfl⟩ | rfl | ⟨f, hf, hkeeps⟩
  · cases h
    exact keeps_gainPower pins (Keeps.refl s)
  · cases h
    split
    · exact keeps_losePower (Keeps.refl s)
    · exact Keeps.refl s
  · rw [hf] at h
    cases h
    exact keeps_live (hkeeps s) (Keeps.refl s)

theorem keeps_step {s t : State} (h : step s = .next t) : Keeps s t := by
  cases hq : s.pending with
  | nil =>
    rw [step_empty hq] at h
    cases h
    exact keeps_idle s
  | cons c rest =>
    rw [step_command hq] at h
    exact ((Keeps.refl s).setPending rest).trans (keeps_exec h)

/-- Settles O59: each part of the invariants is kept by every step on its own. -/
theorem everyStepKeepsCapacitiesAndUnknownEmpty : Obligations.EveryStepKeepsCapacitiesAndUnknownEmpty := by
  refine ⟨fun s t hc hu h => ?_, fun s t hi h => ?_, fun s t hi h => ?_, fun s t hi h => ?_, fun s t hi h => ?_⟩ <;>
    obtain ⟨capacities, unknown, heat, rosters, maps, images⟩ := (keeps_step h).invariants
  · exact ⟨capacities hc, unknown hu⟩
  · exact heat hi
  · exact rosters hi
  · exact maps hi
  · exact images hi

end Sys2Proof.Machine
end

section
/-! Power-on and node reset: what loading the stored record and starting the blocks leave behind (R37, R65, R79,
R92, R102, R115, R140, R150, R173, R175, R184). -/

namespace Sys2Proof.Machine

open Sys2Proof

/-! ## The writes of 0 a reset offers to class 2 (R151) -/

/-- The write of 0 for the group of place `i` in the record. -/
def offWrite (i : Nat) (g : GroupConfig) : QueueEntry :=
  QueueEntry.fresh (.write g.commandStation g.commandItem [0#8]) (.persist 200) (.group (i + 1))

/-- The writes of 0 for some groups, in record order. -/
def offWrites (gs : List GroupConfig) : List QueueEntry := gs.mapIdx offWrite

/-- A queue whose first entry has started. -/
def firstStarted : List QueueEntry → List QueueEntry
  | [] => []
  | first :: rest => { first with phase := .inFlight, persist := .running 200 } :: rest

/-- An idle bus that has been offered the writes of 0 for some groups. -/
def Bus.switchingOff (gs : List GroupConfig) (b : Bus) : Bus :=
  { b with
    heatQueue := firstStarted (offWrites gs)
    flight := if gs = [] then none else some (.queue .heat)
    replyTimer := if gs = [] then none else some 4 }

theorem Bus.switchingOff_cons (g : GroupConfig) (rest : List GroupConfig) :
    Bus.switchingOff (g :: rest) = fun b =>
      { b with
        heatQueue := firstStarted (offWrites (g :: rest))
        flight := some (.queue .heat)
        replyTimer := some 4 } := by
  funext b
  simp [Bus.switchingOff]

theorem firstStarted_append {q : List QueueEntry} (more : List QueueEntry) (h : q ≠ []) :
    firstStarted (q ++ more) = firstStarted q ++ more := by
  cases q with
  | nil => exact absurd rfl h
  | cons first rest => rfl

theorem offWrites_append (gs : List GroupConfig) (c : GroupConfig) :
    offWrites (gs ++ [c]) = offWrites gs ++ [offWrite gs.length c] := by
  simp [offWrites, List.mapIdx_append]

theorem owner_of_mem_offWrites {gs : List GroupConfig} {e : QueueEntry} (h : e ∈ offWrites gs) :
    ∃ i, i < gs.length ∧ e.owner = .group (i + 1) := by
  obtain ⟨i, hi, rfl⟩ := List.mem_mapIdx.mp h
  exact ⟨i, hi, rfl⟩

theorem owner_of_mem_firstStarted {q : List QueueEntry} {e : QueueEntry} (h : e ∈ firstStarted q) :
    ∃ x ∈ q, x.owner = e.owner := by
  cases q with
  | nil => cases h
  | cons first rest =>
    rcases List.mem_cons.mp h with rfl | h
    · exact ⟨first, by simp, rfl⟩
    · exact ⟨e, by simp [h], rfl⟩

theorem supersede_of_ne {o : Owner} {q : List QueueEntry} (h : ∀ e ∈ q, e.owner ≠ o) : supersede o q = q :=
  (List.map_congr_left fun e he => if_neg (h e he)).trans (List.map_id q)

theorem replaceWaiting_of_ne {o : Owner} {new : QueueEntry} {q : List QueueEntry} (h : ∀ e ∈ q, e.owner ≠ o) :
    replaceWaiting o new q = none := by
  induction q with
  | nil => rfl
  | cons e rest ih =>
    have he : e.waitsFor o = false := by simp [QueueEntry.waitsFor, h e (by simp)]
    simp [replaceWaiting, he, ih fun x hx => h x (by simp [hx])]

/-- A heat write of a group with no write in class 2 joins at the newest end (R87). -/
theorem offerHeatWrite_joins {g : Nat} {s : State} (station item : Byte) (count : Nat)
    (h : ∀ e ∈ s.bus.heatQueue, e.owner ≠ .group g) :
    offerHeatWrite g station item count s =
      arbitrate (s.modBus fun b =>
        { b with
          heatQueue := s.bus.heatQueue ++
            [QueueEntry.fresh (.write station item [byteOf count]) (.persist 200) (.group g)] }) := by
  unfold offerHeatWrite
  simp only [supersede_of_ne h, replaceWaiting_of_ne h, Option.getD_none]
  rfl

/-- The first write of 0 takes the idle bus (R85). -/
theorem arbitrate_firstHeatWrite {s : State} (c : GroupConfig) (hflight : s.bus.flight = none)
    (hdoor : s.bus.doorQueue = []) :
    arbitrate (s.modBus fun b => { b with heatQueue := [offWrite 0 c] }) = s.modBus (Bus.switchingOff [c]) := by
  obtain ⟨powered, identity, pins, proven, lp1, lp2, relay, consist, sweep, bus⟩ := s
  obtain ⟨doorQueue, heatQueue, remoteQueue, cab, pointer, pollRetry, pollPersist, flight⟩ := bus
  cases hflight
  cases hdoor
  rfl

section
variable {s : State} {gs : List GroupConfig}

/-- Commanding one more group to 0 on a bus that has been offered the writes for the groups before it. -/
theorem offerGroup_switchingOff {c : GroupConfig} (hflight : s.bus.flight = none) (hdoor : s.bus.doorQueue = [])
    (hreply : s.bus.replyTimer = none) (hheat : s.bus.heatQueue = [])
    (hconfig : s.store.content.groups[gs.length]? = some c) (hfresh : ∀ x ∈ s.heat.groups, x = Group.fresh) :
    offerGroup (gs.length + 1) 0 (s.modBus (Bus.switchingOff gs)) = s.modBus (Bus.switchingOff (gs ++ [c])) := by
  have hgroup : (s.modBus (Bus.switchingOff gs)).groupConfig (gs.length + 1) = some c := by
    simpa [State.groupConfig] using hconfig
  have hsame : (s.modBus (Bus.switchingOff gs)).modGroup (gs.length + 1)
      (fun x => { x with commanded := 0, settled := false, mismatch := 0 }) = s.modBus (Bus.switchingOff gs) := by
    have hmodify : s.heat.groups.modify gs.length
        (fun x => { x with commanded := 0, settled := false, mismatch := 0 }) = s.heat.groups := by
      refine List.ext_getElem? fun i => ?_
      rw [List.getElem?_modify]
      split
      · cases hx : s.heat.groups[i]? with
        | none => rfl
        | some x =>
          rw [hfresh x (List.mem_of_getElem? hx)]
          rfl
      · simp
    simp only [State.modGroup, Nat.add_eq_zero_iff, one_ne_zero, and_false, if_false, State.modHeat,
      State.modBus_heat, Nat.add_sub_cancel, hmodify]
    rfl
  have hnone : ∀ e ∈ (s.modBus (Bus.switchingOff gs)).bus.heatQueue, e.owner ≠ .group (gs.length + 1) := by
    intro e he howner
    obtain ⟨x, hx, hxe⟩ := owner_of_mem_firstStarted he
    obtain ⟨i, hi, hxo⟩ := owner_of_mem_offWrites hx
    rw [← hxe, hxo] at howner
    injection howner with howner
    omega
  unfold offerGroup
  rw [hgroup]
  dsimp only
  rw [hsame, offerHeatWrite_joins _ _ _ hnone]
  cases gs with
  | nil =>
    refine Eq.trans ?_ (arbitrate_firstHeatWrite (s := s) c hflight hdoor)
    obtain ⟨powered, identity, pins, proven, lp1, lp2, relay, consist, sweep, bus⟩ := s
    obtain ⟨doorQueue, heatQueue, remoteQueue, cab, pointer, pollRetry, pollPersist, flight, replyTimer⟩ := bus
    cases hflight
    cases hreply
    rfl
  | cons g rest =>
    rw [arbitrate_busy _ (by simp [Bus.switchingOff])]
    rw [Bus.switchingOff_cons, List.cons_append, Bus.switchingOff_cons, ← List.cons_append, offWrites_append,
      firstStarted_append _ (by simp [offWrites])]
    rfl

/-- Every group of a table just taken up commanded to 0 on an idle bus: a write for each, the oldest in flight
(R151). -/
theorem commandAllOff_switchesOff (hflight : s.bus.flight = none) (hdoor : s.bus.doorQueue = [])
    (hreply : s.bus.replyTimer = none) (hheat : s.bus.heatQueue = [])
    (htable : s.heat.groups = s.store.content.groups.map fun _ => Group.fresh) :
    commandAllOff s = s.modBus (Bus.switchingOff s.store.content.groups) := by
  have hfresh : ∀ x ∈ s.heat.groups, x = Group.fresh := by
    intro x hx
    rw [htable] at hx
    obtain ⟨c, -, rfl⟩ := List.mem_map.mp hx
    rfl
  have hupto : ∀ n ≤ s.store.content.groups.length,
      ((List.range n).map (· + 1)).foldl (fun s g => offerGroup g 0 s) s
        = s.modBus (Bus.switchingOff (s.store.content.groups.take n)) := by
    intro n hn
    induction n with
    | zero =>
      obtain ⟨powered, identity, pins, proven, lp1, lp2, relay, consist, sweep, bus⟩ := s
      obtain ⟨doorQueue, heatQueue, remoteQueue, cab, pointer, pollRetry, pollPersist, flight, replyTimer⟩ := bus
      cases hflight
      cases hreply
      cases hheat
      rfl
    | succ n ih =>
      have hlen : (s.store.content.groups.take n).length = n := by simp; omega
      have hlast : s.store.content.groups[n]? = some (s.store.content.groups[n]'hn) := List.getElem?_eq_getElem hn
      rw [List.range_succ, List.map_append, List.foldl_append, ih (by omega), List.map_singleton,
        List.foldl_cons, List.foldl_nil, List.take_add_one, hlast]
      have hnext := offerGroup_switchingOff (gs := s.store.content.groups.take n) hflight hdoor hreply hheat
        (by rw [hlen]; exact hlast) hfresh
      rwa [hlen] at hnext
  unfold commandAllOff State.groupNumbers
  rw [htable, List.length_map, hupto _ le_rfl, List.take_length]

end

/-! ## Loading and starting (R92, R115, R136, R150, R151, R175) -/

/-- The notices after a load: RECORD-INVALID with the check reason where the record is not valid (R175). -/
def loadNotices : Option CheckReason → List Notice
  | none => []
  | some why =>
    [{ kind := .recordInvalid, subject := 0#8, value := BitVec.ofNat 16 (checkCode (some why)).toNat
       generation := 0#8 }]

/-- The verdict a reset loads the stored record with. -/
def State.verdict (s : State) : Option CheckReason :=
  loadVerdict s.store.storedMark s.store.stored s.freeCount

/-- The Record Store with the stored record loaded under a verdict. -/
def Store.loaded (verdict : Option CheckReason) (r : Store) : Store :=
  { r with
    live := r.stored, content := contentOf r.stored verdict, validity := verdict, edit := r.stored
    state := .idle, awaiting := none, writeTimer := none }

/-- Whether loading draws a free value (assumption 12). -/
def State.loadDraws (s : State) : Nat := if s.store.storedMark = .whole then 0 else 1

/-- The node after a reset, block by block. -/
def State.restarted (lp1 lp2 : Port) (changeCounter : Byte) (mode : Protection) (s : State) : State :=
  let c := contentOf s.store.stored s.verdict
  { s with
    proven := false
    lp1 := lp1
    lp2 := lp2
    relay := Relay.reset
    consist := { Consist.reset with changeCounter := changeCounter }
    sweep := Sweep.reset
    bus := ({ Bus.reset with records := freshRecords c.polls }).switchingOff c.groups
    req := { Req.reset with notices := loadNotices s.verdict }
    door := { Door.reset with
      leaves := c.leaves.map fun _ => Leaf.fresh c
      headless := .running (c.headlessDelay * 1000) }
    heat := { Heat.reset with groups := c.groups.map fun _ => Group.fresh }
    store := ({ s.store with mode := mode }).loaded s.verdict
    freeCount := s.freeCount + s.loadDraws }

/-- A notice raised at a node just reset only joins its queue. -/
theorem raise_of_unknown {s : State} (kind : NoticeKind) (subject : Byte) (value : Nat)
    (hstatus : s.consist.status ≠ .valid) (hstate : s.consist.state ≠ .settled) (hroom : s.req.notices.length < 32) :
    raise kind subject value s =
      s.modReq fun r => { r with notices := r.notices ++ [s.noticeOf kind subject value] } := by
  have hhead : s.actsAsHead = false := by simp [State.actsAsHead, hstatus]
  simp [raise, enqueueNotice, forwardNotices, hhead, Config.noticeQueueSize, hroom, State.isSettled, hstate]

theorem startBlocks_idle {s : State} (hbus : s.bus = Bus.reset) (hdoor : s.door = Door.reset)
    (hheat : s.heat = Heat.reset) :
    startBlocks s =
      let c := s.store.content
      { s with
        bus := ({ Bus.reset with records := freshRecords c.polls }).switchingOff c.groups
        door := { Door.reset with
          leaves := c.leaves.map fun _ => Leaf.fresh c
          headless := .running (c.headlessDelay * 1000) }
        heat := { Heat.reset with groups := c.groups.map fun _ => Group.fresh } } := by
  unfold startBlocks
  dsimp only
  rw [commandAllOff_switchesOff] <;> simp only [State.modBus, State.modDoor, State.modHeat, hbus, hdoor, hheat] <;> rfl

theorem resetBlocks_eq (lp1 lp2 : Port) (changeCounter : Byte) (mode : Protection) (s : State) :
    resetBlocks lp1 lp2 changeCounter mode s = s.restarted lp1 lp2 changeCounter mode := by
  unfold resetBlocks
  extract_lets blank store fresh
  have hload : loadRecord fresh =
      { fresh with
        req := { Req.reset with notices := loadNotices s.verdict }
        store := fresh.store.loaded s.verdict
        freeCount := s.freeCount + s.loadDraws } := by
    unfold loadRecord
    extract_lets img verdict drawn loaded
    have hverdict : verdict = s.verdict := rfl
    have hloaded : loaded = { fresh with store := fresh.store.loaded s.verdict
                                         freeCount := s.freeCount + s.loadDraws } := by
      unfold loaded drawn State.loadDraws
      have hmark : fresh.store.storedMark = s.store.storedMark := rfl
      rw [hmark]
      split <;> rfl
    rw [hverdict, hloaded]
    cases hv : s.verdict with
    | none => rfl
    | some why =>
      refine (raise_of_unknown _ _ _ ?_ ?_ ?_).trans rfl
      · exact fun h => by cases h
      · exact fun h => by cases h
      · exact (by decide : ([] : List Notice).length < 32)
  rw [hload, startBlocks_idle rfl rfl rfl]
  rfl

/-! ## What the verdict may be (R174, R175, R181) -/

theorem State.verdict_whole {s : State} (h : s.store.storedMark = .whole) :
    s.verdict = checkImage s.store.stored := by
  unfold State.verdict loadVerdict
  rw [h]

theorem State.verdict_failedReadBack {s : State} (h : s.store.storedMark = .failedReadBack) :
    s.verdict ≠ none ∧ ∀ why, checkImage s.store.stored = some why → s.verdict = some why := by
  have hverdict : s.verdict =
      some ((checkImage s.store.stored).getD (reasonOf (Config.failedReason s.freeCount))) := by
    unfold State.verdict loadVerdict
    rw [h]
  rw [hverdict]
  exact ⟨by simp, fun why hwhy => by rw [hwhy]; rfl⟩

theorem contentOf_invalid {img : List Byte} {verdict : Option CheckReason} (h : verdict ≠ none) :
    contentOf img verdict = Content.defaults := by
  cases verdict with
  | none => exact absurd rfl h
  | some why => rfl

theorem contentOf_verdict (img : List Byte) (verdict : Option CheckReason) :
    contentOf img verdict = if verdict = none then contentOf img none else Content.defaults := by
  split
  · next h => rw [h]
  · next h => exact contentOf_invalid h

/-- A node after a reset stands afresh, whatever it held before. -/
theorem State.restarted_startsAfresh (lp1 lp2 : Port) (changeCounter : Byte) (mode : Protection) {s : State}
    (h : s.powered = true) : StartsAfresh (s.restarted lp1 lp2 changeCounter mode) := by
  refine ⟨h, rfl, rfl, rfl, rfl, ?_, rfl, rfl, rfl, rfl, contentOf_verdict _ _, rfl, rfl, rfl⟩
  change _ = ({ Req.reset with notices := _ } : Req)
  simp only [State.restarted, Store.loaded]
  cases s.verdict <;> rfl

end Sys2Proof.Machine
end

section
/-! Power-on, power failure and node reset (R175, R183 to R185, R196). -/

namespace Sys2Proof.Machine

open Sys2Proof

/-- Power-on of a node without power. -/
theorem gainPower_unpowered (pins : Pins) {s : State} (h : s.powered = false) :
    gainPower pins s =
      driveProven (({ s with powered := true, pins := pins }).restarted Port.reset Port.reset 0#8
        (settingOf s.store.storedSetting)) := by
  unfold gainPower
  extract_lets off on
  have hoff : off = s := if_neg (by simp [h])
  unfold on
  rw [hoff, resetBlocks_eq]

theorem exec_powerOn (pins : Pins) (s : State) : exec (.powerOn pins) s = .next (gainPower pins s) := rfl

theorem exec_powerFail {s : State} (h : s.powered = true) : exec .powerFail s = .next (losePower s) :=
  congrArg Host.Outcome.next (if_pos h)

/-- The PROVEN output of a node just reset is deasserted: it has neither a lead nor a vehicle proof (R148). -/
theorem driveProven_restarted (lp1 lp2 : Port) (changeCounter : Byte) (mode : Protection) (s : State) :
    driveProven (s.restarted lp1 lp2 changeCounter mode) = s.restarted lp1 lp2 changeCounter mode := rfl

theorem checkImage_blankImage : checkImage blankImage = some .signature := by decide +kernel

/-- Settles O3. -/
theorem powerOnOfABlankNodeGivesReset : Obligations.PowerOnOfABlankNodeGivesReset := by
  intro s hpower hidentity hfree hpending hstored hmark hsetting
  rw [exec_powerOn, gainPower_unpowered _ hpower, driveProven_restarted]
  obtain ⟨powered, identity, pins, proven, lp1, lp2, relay, consist, sweep, bus, req, door, heat, store,
    freeCount, pending⟩ := s
  obtain ⟨stored, storedMark, storedSetting⟩ := store
  dsimp only at hidentity hfree hpending hstored hmark hsetting
  subst hidentity hfree hpending hstored hmark hsetting
  simp only [State.restarted, State.verdict, loadVerdict, checkImage_blankImage, contentOf_invalid, Store.loaded,
    State.loadDraws, ne_eq, reduceCtorEq, not_false_eq_true]
  rfl

/-- Settles O4. -/
theorem powerOnLoadsTheStoredRecord : Obligations.PowerOnLoadsTheStoredRecord := by
  intro pins s hpower
  let on : State := { s with powered := true, pins := pins }
  refine ⟨on.restarted Port.reset Port.reset 0#8 (settingOf s.store.storedSetting), ?_,
    State.restarted_startsAfresh _ _ _ _ rfl, rfl, rfl, rfl, rfl, rfl, rfl, rfl, rfl, rfl, rfl, fun hmark => ⟨?_, ?_⟩,
    fun hmark => ?_⟩
  · rw [exec_powerOn, gainPower_unpowered _ hpower, driveProven_restarted]
  · exact State.verdict_whole (s := on) hmark
  · exact congrArg (s.freeCount + ·) (if_pos hmark)
  · exact State.verdict_failedReadBack (s := on) hmark

/-! ## The end of power (R183, R185) -/

theorem losePower_quiet {s : State} (h : s.store.state = .idle ∨ s.store.state = .awaitingDoors) :
    losePower s = { s with powered := false, proven := false } := by
  unfold losePower
  rcases h with h | h <;> rw [h]

theorem losePower_writing {s : State} (h : s.store.state = .writing) :
    (losePower s).powered = false ∧ (losePower s).proven = false
      ∧ (losePower s).store.stored = tornImage s.freeCount ∧ (losePower s).store.storedMark = .whole := by
  unfold losePower
  rw [h]
  dsimp only
  generalize tornImage s.freeCount = img
  exact ⟨rfl, rfl, rfl, rfl⟩

theorem losePower_setting {s : State} (h : s.store.state = .setting) :
    losePower s =
      { s with powered := false, proven := false, store := { s.store with storedSetting := none } } := by
  unfold losePower
  rw [h]
  rfl

/-- A node that loads an invalid record takes the defaults and has RECORD-INVALID queued (R175). -/
theorem State.restarted_invalid (lp1 lp2 : Port) (changeCounter : Byte) (mode : Protection) {s : State}
    (h : s.verdict ≠ none) :
    (s.restarted lp1 lp2 changeCounter mode).store.content = Content.defaults
      ∧ ∃ n ∈ (s.restarted lp1 lp2 changeCounter mode).req.notices, n.kind = .recordInvalid := by
  refine ⟨contentOf_invalid h, ?_⟩
  obtain ⟨why, hwhy⟩ := Option.ne_none_iff_exists'.mp h
  simp [State.restarted, hwhy, loadNotices]

/-- Settles O5. -/
theorem powerFailureMeetsAStore : Obligations.PowerFailureMeetsAStore := by
  intro pins s hpower
  refine ⟨fun hquiet => ?_, fun hwriting => ?_, fun hsetting => ?_⟩
  · rw [exec_powerFail hpower, losePower_quiet hquiet]
  · obtain ⟨hoff, hproven, hstored, hmark⟩ := losePower_writing hwriting
    have hexec := exec_powerFail hpower
    have htorn := tornImage_fails s.freeCount
    rw [← hstored] at htorn
    generalize losePower s = t at hexec hoff hproven hmark htorn
    have hverdict : ({ t with powered := true, pins := pins } : State).verdict ≠ none :=
      (State.verdict_whole (s := { t with powered := true, pins := pins }) hmark).trans_ne htorn
    obtain ⟨hcontent, hnotice⟩ := State.restarted_invalid Port.reset Port.reset 0#8
      (settingOf t.store.storedSetting) hverdict
    refine ⟨t, gainPower pins t, hexec, hoff, hproven, htorn, rfl, ?_⟩
    rw [gainPower_unpowered pins hoff, driveProven_restarted]
    exact ⟨hverdict, rfl, hcontent, hnotice⟩
  · have hlost := losePower_setting hsetting
    have hoff : (losePower s).powered = false := rfl
    refine ⟨losePower s, gainPower pins (losePower s), exec_powerFail hpower, hoff, by rw [hlost],
      by rw [hlost], rfl, ?_⟩
    rw [gainPower_unpowered pins hoff, hlost]
    rfl

/-! ## A node reset (R183, R185, R196) -/

theorem finish_unsettled {s : State} (h : s.consist.state ≠ .settled) : finish s = driveProven s := by
  have : s.isSettled = false := by simp [State.isSettled, h]
  simp [finish, forwardNotices, this]

theorem resetNow_eq (s : State) :
    resetNow s =
      s.restarted s.lp1.resetNode s.lp2.resetNode s.consist.changeCounter (modeAfterReset s.store) :=
  resetBlocks_eq _ _ _ _ s

/-- At the end of the command that resets a node there is nothing to forward and nothing to drive. -/
theorem finish_resetNow (s : State) : finish (resetNow s) = resetNow s := by
  rw [resetNow_eq, finish_unsettled fun h => (by cases h), driveProven_restarted]

theorem resetWhenDue_takesPlace {s : State} (hpending : s.req.resetPending = true)
    (h : s.store.state = .idle ∨ s.store.state = .awaitingDoors) : resetWhenDue s = resetNow s := by
  have hfree : ¬(s.store.state = .writing ∨ s.store.state = .setting) := by rcases h with h | h <;> simp [h]
  simp [resetWhenDue, hpending, hfree]

theorem resetWhenDue_heldBack {s : State} (hpending : s.req.resetPending = true)
    (h : s.store.state = .writing ∨ s.store.state = .setting) :
    resetWhenDue s = { s with req := { s.req with resetHeld := true } } := by
  unfold resetWhenDue
  rw [if_neg (by simp [hpending]), if_pos h]
  rfl

theorem modeAfterReset_eq (r : Store) :
    modeAfterReset r = if r.mode = .held then .held else r.storedSetting.getD .keyed := rfl

/-- Settles O6. -/
theorem nodeResetTakesPlaceOrIsHeldBack : Obligations.NodeResetTakesPlaceOrIsHeldBack := by
  intro s hpower hpending
  have hexec : exec .nodeReset s = .next (finish (resetWhenDue s)) := live_powered resetWhenDue s hpower
  refine ⟨fun hquiet => ?_, fun hbusy => ?_⟩
  · refine ⟨resetNow s, ?_, ?_⟩
    · rw [hexec, resetWhenDue_takesPlace hpending hquiet, finish_resetNow]
    · rw [resetNow_eq]
      exact ⟨State.restarted_startsAfresh _ _ _ _ hpower, rfl, rfl, rfl, rfl, rfl, rfl, rfl,
        State.verdict_whole, State.verdict_failedReadBack, rfl, rfl, rfl⟩
  · rw [hexec, resetWhenDue_heldBack hpending hbusy]

end Sys2Proof.Machine
end

section
/-! What sending leaves alone beside the units: the other port, and the Relay Unit where the port carries the
frame (R9, R12, R13, R18). -/

namespace Sys2Proof.Machine

open Sys2Proof

/-! ## The other port -/

theorem laneFrameGone_port_other (p : PortId) (e : LaneEntry) (s : State) :
    (laneFrameGone p e s).port p.other = s.port p.other := by
  unfold laneFrameGone resetReplyGone
  split <;> simp

theorem dropFrame_port_other (p : PortId) (e : LaneEntry) (s : State) :
    (dropFrame p e s).port p.other = s.port p.other := (dropFrame_lanes p e s).2.2.2

theorem pump_port_other (p : PortId) (s : State) : (pump p s).port p.other = s.port p.other := by
  unfold pump
  dsimp only
  split
  · split <;> simp
  · rfl

theorem joinUrgent_port_other (p : PortId) (e : LaneEntry) (s : State) :
    (joinUrgent p e s).port p.other = s.port p.other := by
  unfold joinUrgent
  dsimp only
  split
  · simp
  · split
    · rw [dropFrame_port_other]
      simp
    · exact dropFrame_port_other p e s

theorem joinNormal_port_other (p : PortId) (e : LaneEntry) (s : State) :
    (joinNormal p e s).port p.other = s.port p.other := by
  unfold joinNormal
  split
  · simp
  · exact dropFrame_port_other p e s

/-- A frame offered to a port leaves the other port alone (R13). -/
theorem offer_port_other (p : PortId) (e : LaneEntry) (s : State) :
    (offer p e s).port p.other = s.port p.other := by
  unfold offer
  dsimp only
  split
  · rw [pump_port_other]
    split
    · exact joinNormal_port_other p e s
    · exact joinUrgent_port_other p e s
  · exact (laneFrameGone_port_other p e _).trans (by simp)

theorem offerIfCarrying_port_other (p : PortId) (f : Frame) (s : State) :
    (offerIfCarrying p f s).port p.other = s.port p.other := by
  unfold offerIfCarrying
  split
  · exact offer_port_other p _ s
  · rfl

theorem PortId.eq_or_eq_other (p q : PortId) : q = p ∨ q = p.other := by cases p <;> cases q <;> simp [PortId.other]

/-! ## The Relay Unit -/

@[simp] theorem offerCab_relay (f : CabFrame) (s : State) : (offerCab f s).relay = s.relay := by
  unfold offerCab cabFrameGone resetReplyGone
  repeat' split
  all_goals rfl

@[simp] theorem enqueueNotice_relay (n : Notice) (s : State) : (enqueueNotice n s).relay = s.relay := by
  unfold enqueueNotice
  split
  · exact offerCab_relay _ s
  · split <;> rfl

@[simp] theorem laneFrameGone_relay (p : PortId) (e : LaneEntry) (s : State) :
    (laneFrameGone p e s).relay = s.relay := by
  unfold laneFrameGone
  split
  · rfl
  · simp
  · rfl

@[simp] theorem dropFrame_relay (p : PortId) (e : LaneEntry) (s : State) : (dropFrame p e s).relay = s.relay := by
  unfold dropFrame
  dsimp only
  rw [laneFrameGone_relay]
  split <;> simp

@[simp] theorem pump_relay (p : PortId) (s : State) : (pump p s).relay = s.relay := by
  unfold pump
  dsimp only
  split
  · split <;> simp
  · rfl

@[simp] theorem joinUrgent_relay (p : PortId) (e : LaneEntry) (s : State) :
    (joinUrgent p e s).relay = s.relay := by
  unfold joinUrgent
  dsimp only
  split
  · simp
  · split <;> simp

@[simp] theorem joinNormal_relay (p : PortId) (e : LaneEntry) (s : State) :
    (joinNormal p e s).relay = s.relay := by
  unfold joinNormal
  split <;> simp

/-- A frame handed to a port that carries it counts nothing at the Relay Unit (R13). -/
theorem offer_relay_of_carries {p : PortId} {s : State} (e : LaneEntry) (h : (s.port p).carries = true) :
    (offer p e s).relay = s.relay := by
  unfold offer
  dsimp only
  rw [if_pos (.inl h), pump_relay]
  split <;> simp

@[simp] theorem offerIfCarrying_relay (p : PortId) (f : Frame) (s : State) :
    (offerIfCarrying p f s).relay = s.relay := by
  unfold offerIfCarrying
  split
  · next h => exact offer_relay_of_carries _ h
  · rfl

@[simp] theorem broadcast_relay (f : Frame) (s : State) : (broadcast f s).relay = s.relay := by simp [broadcast]

/-! ## Broadcasts (R9, R12) -/

/-- A broadcast goes on through a port in UP or GLITCH, and leaves any other as it is. -/
theorem offerIfCarrying_joins (p : PortId) {f : Frame} (s : State) (h : isNormalKind f.kind = false) :
    JoinsUrgent p f s (offerIfCarrying p f s)
      ∧ ((s.port p).carries = false → (offerIfCarrying p f s).port p = s.port p) := by
  unfold offerIfCarrying
  split
  · next hc => exact ⟨offerFrame_joinsUrgent p f s h, fun hno => by rw [hc] at hno; cases hno⟩
  · next hc => exact ⟨fun hyes => absurd hyes hc, fun _ => rfl⟩

theorem broadcast_joins {f : Frame} (s : State) (h : isNormalKind f.kind = false) (p : PortId) :
    JoinsUrgent p f s (broadcast f s) ∧ ((s.port p).carries = false → (broadcast f s).port p = s.port p) := by
  have h2 : (offerIfCarrying .lp1 f s).port .lp2 = s.port .lp2 := offerIfCarrying_port_other .lp1 f s
  have h1 : (broadcast f s).port .lp1 = (offerIfCarrying .lp1 f s).port .lp1 :=
    offerIfCarrying_port_other .lp2 f _
  cases p with
  | lp1 =>
    obtain ⟨hjoin, hstay⟩ := offerIfCarrying_joins .lp1 s h
    exact ⟨hjoin.congr rfl h1, fun hc => h1.trans (hstay hc)⟩
  | lp2 =>
    obtain ⟨hjoin, hstay⟩ := offerIfCarrying_joins .lp2 (offerIfCarrying .lp1 f s) h
    rw [h2] at hstay
    exact ⟨hjoin.congr h2.symm rfl, hstay⟩

/-- A CHANGE as the node builds it (R1, R42). -/
theorem changeFrame_eq (s : State) (counter : Byte) :
    changeFrame s counter =
      { kind := 0x03#8, header := broadcastHeader s.consist.generation s.sourcePosition
        payload := changePayload (s.identity, counter) } := rfl

end Sys2Proof.Machine
end

section
/-! The timers of the Relay and Consist Units that stand alone (R10, R42, R74, R193). -/

namespace Sys2Proof.Machine

open Sys2Proof

/-- One copy less of one CHANGE among others. -/
theorem sentCopy_eq {before after : List ChangeCopies} {counter : Byte} {left timer : Nat}
    (h : ∀ x ∈ before ++ after, x.counter ≠ counter ∧ 0 < x.copies) :
    sentCopy counter (before ++ { counter := counter, copies := left + 1, timer := timer } :: after) =
      before ++ (if left = 0 then [] else [{ counter := counter, copies := left, timer := 100 }]) ++ after := by
  have hothers : ∀ l : List ChangeCopies, (∀ x ∈ l, x.counter ≠ counter ∧ 0 < x.copies) →
      sentCopy counter l = l := by
    intro l hl
    have hmap : l.map (fun c =>
        if c.counter = counter then { c with copies := c.copies - 1, timer := Config.changeRepeatMs } else c) = l :=
      (List.map_congr_left fun x hx => if_neg (hl x hx).1).trans (List.map_id l)
    unfold sentCopy
    rw [hmap]
    exact List.filter_eq_self.mpr fun x hx => decide_eq_true (hl x hx).2
  have hsplit : ∀ l m, sentCopy counter (l ++ m) = sentCopy counter l ++ sentCopy counter m := by
    intro l m
    simp [sentCopy]
  rw [hsplit, ← List.singleton_append, hsplit, hothers before fun x hx => h x (by simp [hx]),
    hothers after fun x hx => h x (by simp [hx]), List.append_assoc]
  congr 2
  by_cases hleft : left = 0
  · simp [sentCopy, hleft]
  · simp [sentCopy, hleft, Nat.pos_of_ne_zero hleft, Config.changeRepeatMs]

/-- Settles O27. -/
theorem smallTimers : Obligations.SmallTimers := by
  intro s hpower
  refine ⟨fun id => live_powered _ s hpower, fun before counter left timer after hcopies hothers => ?_,
    live_powered freshnessEnds s hpower, live_powered spacingEnds s hpower⟩
  let sent : State := s.modConsist fun c => { c with copies := sentCopy counter c.copies }
  have hegress := broadcast_egress (changeFrame s counter) sent
  have hany : (s.consist.copies.any fun c => decide (c.counter = counter)) = true := by simp [hcopies]
  refine ⟨broadcast (changeFrame s counter) sent, ?_, ?_, broadcast_relay _ _, hegress.sweep, hegress.door,
    hegress.heat, fun p => broadcast_joins (f := changeFrame s counter) sent rfl p⟩
  · refine (live_powered _ s hpower).trans ?_
    unfold repeatChange
    rw [hany]
    rfl
  · rw [hegress.consist, ← sentCopy_eq hothers, ← hcopies]
    rfl

end Sys2Proof.Machine
end

section
/-! The proof tally of a vehicle (R143, R144). -/

namespace Sys2Proof.Machine

open Sys2Proof

theorem doorsAtRest_iff (s : State) :
    doorsAtRest s = true ↔ ∀ l ∈ s.door.leaves, l.state = .closed ∨ l.state = .isolated := by
  simp [doorsAtRest]

/-- Settles O35. -/
theorem tallyStepsOfAVehicle : Obligations.TallyStepsOfAVehicle := by
  intro s t
  refine ⟨rfl, fun hproof => ?_, fun hproof => ?_, ?_, fun ⟨l, hl, hopen⟩ => ?_, fun hrest => ?_⟩
  · simp [tallyVehicle, hproof]
  · simp [tallyVehicle, hproof, satInc8]
  · simp [tallyVehicle, List.countP_eq_length_filter]
  · have hnot : doorsAtRest s = false := by
      rw [Bool.eq_false_iff, ne_eq, doorsAtRest_iff]
      intro hall
      rcases hall l hl with h | h
      · exact hopen.1 h
      · exact hopen.2 h
    simp [tallyVehicle, hnot, satInc8]
  · simp [tallyVehicle, (doorsAtRest_iff s).mpr hrest]

end Sys2Proof.Machine
end

section
/-! Acceptance by generation (R5). -/

namespace Sys2Proof.Machine

open Sys2Proof

theorem State.settledIn_iff (s : State) (g : Byte) :
    s.settledIn g = true ↔ s.consist.state = .settled ∧ g = s.consist.generation := by
  simp [State.settledIn, State.isSettled]

/-- A frame that needs the generation at a node that does not have it (R5). -/
theorem relayFrame_refused (p : PortId) {f : Frame} {s : State} (hok : headerOk f = true)
    (hneeds : needsGeneration f.kind = true) (hnot : s.settledIn f.header.generation = false) :
    relayFrame p f s = s.modRelay (Relay.refuseKind f.kind) := by
  simp [relayFrame, hok, hneeds, hnot]

/-- A frame at a node that has its generation, or that needs none (R5). -/
theorem relayFrame_accepted (p : PortId) {f : Frame} {s : State} (hok : headerOk f = true)
    (h : needsGeneration f.kind = false ∨ s.settledIn f.header.generation = true) :
    relayFrame p f s = relayAccepted p f s := by
  rcases h with h | h <;> simp [relayFrame, hok, h]

theorem needsGeneration_of_free {kind : Byte} (h : kind ∈ [0x03#8, 0x04#8, 0x05#8, 0x06#8, 0x0A#8]) :
    needsGeneration kind = false := by
  simp only [List.mem_cons, List.not_mem_nil, or_false] at h
  rcases h with rfl | rfl | rfl | rfl | rfl <;> decide

/-- Settles O18. -/
theorem generationAcceptance : Obligations.GenerationAcceptance := by
  intro p f s hok
  refine ⟨fun hforeign => ?_, fun hown => ?_, fun hfree => ?_⟩
  · have hnot : s.settledIn f.header.generation = false := by
      rw [Bool.eq_false_iff, ne_eq, State.settledIn_iff]
      rintro ⟨hstate, hgeneration⟩
      rcases hforeign with h | h
      · exact h hstate
      · exact h hgeneration
    have refused : ∀ kind, f.kind = kind → needsGeneration kind = true →
        relayFrame p f s = s.modRelay (Relay.refuseKind kind) := fun kind hkind hneeds =>
      hkind ▸ relayFrame_refused p hok (hkind ▸ hneeds) hnot
    refine ⟨fun h => ?_, fun h => ?_, fun h => ?_, fun h => ?_, fun h => ?_, fun h => ?_⟩ <;>
      exact refused _ h (by decide)
  · exact relayFrame_accepted p hok (.inr ((State.settledIn_iff s _).mpr hown))
  · exact relayFrame_accepted p hok (.inl (needsGeneration_of_free hfree))

end Sys2Proof.Machine
end

section
/-! The requests on the table of vehicles and stations (R107, R108). -/

namespace Sys2Proof.Machine

open Sys2Proof

theorem aliasOk_iff (number station : Byte) (vehicle : VehicleRef) :
    aliasOk number vehicle station = true ↔
      number ≠ 0#8 ∧ (∀ p, vehicle = .position p → 1 ≤ p.toNat ∧ p.toNat ≤ 32)
        ∧ 1 ≤ station.toNat ∧ station.toNat ≤ 30 := by
  cases vehicle with
  | position p =>
    have hp : decide (1 ≤ p.toNat ∧ p.toNat ≤ Config.consistSize) = true ↔ 1 ≤ p.toNat ∧ p.toNat ≤ 32 :=
      decide_eq_true_iff
    simp only [aliasOk, stationOk, Bool.and_eq_true, hp]
    simp [and_assoc]
  | identity i => simp [aliasOk, stationOk]

theorem findAlias_isNone_iff (number : Byte) (t : List AliasEntry) :
    (findAlias number t).isNone = true ↔ ∀ e ∈ t, e.number ≠ number := by
  simp [findAlias]

/-- Settles O50. -/
theorem aliasRequests : Obligations.AliasRequests := by
  intro src number station vehicle s hexec
  have written : exec (.aliasWrite src number vehicle station) s =
      .next (finish (doAliasWrite src number vehicle station s.armCleared)) := live_handle src _ s hexec
  have cleared : ∀ n, exec (.aliasClear src n) s = .next (finish (doAliasClear src n s.armCleared)) :=
    fun n => live_handle src _ s hexec
  refine ⟨fun hrange => ?_, fun hrange hfull hnew => ?_, fun hrange hroom => ?_, ?_, fun hne hhas => ?_,
    fun hne hnone => ?_⟩
  · rw [← aliasOk_iff, Bool.not_eq_true] at hrange
    rw [written]
    simp [doAliasWrite, hrange]
  · rw [← aliasOk_iff] at hrange
    rw [written]
    simp [doAliasWrite, hrange, (findAlias_isNone_iff number _).mpr hnew, Config.aliasTableSize, hfull]
  · rw [← aliasOk_iff] at hrange
    have hfits : ¬((findAlias number s.armCleared.req.aliases).isNone = true
        ∧ Config.aliasTableSize ≤ s.armCleared.req.aliases.length) := by
      rw [findAlias_isNone_iff]
      rintro ⟨hnew, hfull⟩
      rcases hroom with h | ⟨e, he, hnum⟩
      · exact absurd hfull (Nat.not_le.mpr h)
      · exact hnew e he hnum
    rw [written]
    unfold doAliasWrite
    dsimp only
    rw [if_neg (by simp [hrange]), if_neg hfits]
    rfl
  · rw [cleared]
    rfl
  · have hsome : ¬(findAlias number s.armCleared.req.aliases).isNone = true := by
      rw [findAlias_isNone_iff]
      obtain ⟨e, he, hnum⟩ := hhas
      exact fun h => h e he hnum
    rw [cleared]
    unfold doAliasClear
    dsimp only
    rw [if_neg hne, if_neg hsome]
    rfl
  · have hfree : (findAlias number s.armCleared.req.aliases).isNone = true :=
      (findAlias_isNone_iff number _).mpr hnone
    rw [cleared]
    unfold doAliasClear
    dsimp only
    rw [if_neg hne, if_pos hfree]

end Sys2Proof.Machine
end

section
/-! Numbers and identities in bytes (R197). -/

namespace Sys2Proof.Machine

open Sys2Proof

theorem byteOf_toNat {n : Nat} (h : n < 256) : (byteOf n).toNat = n := by
  simp only [byteOf, BitVec.toNat_ofNat]
  omega

theorem num16_byteOf {n : Nat} (h : n < 65536) : num16 (byteOf (n / 256)) (byteOf n) = n := by
  simp only [num16, byteOf, BitVec.toNat_ofNat]
  omega

theorem num16_lt (hi lo : Byte) : num16 hi lo < 65536 := by
  have := hi.isLt
  have := lo.isLt
  unfold num16
  omega

theorem be16_num16 (hi lo : Byte) : be16 (num16 hi lo) = [hi, lo] := by
  have hhi := hi.isLt
  have hlo := lo.isLt
  have h1 : byteOf (num16 hi lo / 256) = hi := by
    apply BitVec.eq_of_toNat_eq
    rw [byteOf_toNat (by unfold num16; omega)]
    unfold num16
    omega
  have h2 : byteOf (num16 hi lo) = lo := by
    apply BitVec.eq_of_toNat_eq
    simp only [num16, byteOf, BitVec.toNat_ofNat]
    omega
  rw [be16, h1, h2]

theorem idOf_idBytes (i : Identity) :
    idOf (i.extractLsb' 40 8) (i.extractLsb' 32 8) (i.extractLsb' 24 8) (i.extractLsb' 16 8)
      (i.extractLsb' 8 8) (i.extractLsb' 0 8) = i := by
  unfold idOf
  iterate 5 rw [BitVec.extractLsb'_append_extractLsb'_eq_extractLsb' (by rfl)]
  exact BitVec.extractLsb'_eq_self

end Sys2Proof.Machine
end

section
/-! The frame on the line (R3, section 12.2). -/

namespace Sys2Proof.Machine

open Sys2Proof

theorem payloadPasses_iff (f : Frame) :
    payloadPasses f = true ↔ f.payload.length ≤ 720 ∧ ¬(f.kind = 0x02#8 ∧ f.payload.length % 2 = 1) := by
  simp only [payloadPasses, Bool.and_eq_true, Bool.not_eq_true', Bool.and_eq_false_iff, decide_eq_true_eq,
    decide_eq_false_iff_not, not_and_or]
  rfl

theorem frameBody_take (f : Frame) (rest : List Byte) :
    (frameBody f ++ rest).take (8 + f.payload.length) = frameBody f := by
  have hlen : (frameBody f).length = 8 + f.payload.length := by
    simp only [frameBody, be16, List.length_append, List.length_cons, List.length_nil]
  rw [← hlen, List.take_left]

/-- The encoding of a frame whose payload passes R3 reads back as the frame. -/
theorem wireFrame_frameWire {f : Frame} (h : payloadPasses f = true) : wireFrame (frameWire f) = some f := by
  obtain ⟨hmax, htest⟩ := (payloadPasses_iff f).mp h
  have hlen : num16 (byteOf (f.payload.length / 256)) (byteOf f.payload.length) = f.payload.length :=
    num16_byteOf (by omega)
  have hbody := frameBody_take f (be16 (crc16 (frameBody f)).toNat)
  have hbytes : frameWire f = f.kind :: f.header.generation :: f.header.flags :: f.header.destination
      :: f.header.source :: f.header.tag :: byteOf (f.payload.length / 256) :: byteOf f.payload.length
      :: (f.payload ++ be16 (crc16 (frameBody f)).toNat) := rfl
  rw [← frameWire, hbytes] at hbody
  rw [hbytes]
  unfold wireFrame
  dsimp only
  rw [hlen, hbody, List.take_left, List.drop_left]
  exact if_pos ⟨by simp [be16], hmax, htest, rfl⟩

/-- A byte string that passes the check is the encoding of the frame it reads as. -/
theorem eq_frameWire_of_wireFrame {bytes : List Byte} {f : Frame} (h : wireFrame bytes = some f) :
    payloadPasses f = true ∧ bytes = frameWire f := by
  unfold wireFrame at h
  split at h
  case h_1 kind generation flags destination source tag lenHi lenLo rest =>
    dsimp only at h
    split at h
    case isTrue hpass =>
      obtain ⟨hrest, hmax, htest, hcheck⟩ := hpass
      have hpayload : (rest.take (num16 lenHi lenLo)).length = num16 lenHi lenLo := by
        rw [List.length_take]
        omega
      obtain rfl : _ = f := Option.some.inj h
      refine ⟨(payloadPasses_iff _).mpr ⟨?_, ?_⟩, ?_⟩
      · exact hpayload.trans_le hmax
      · dsimp only
        rwa [hpayload]
      · have hbody : kind :: generation :: flags :: destination :: source :: tag :: lenHi :: lenLo
            :: rest.take (num16 lenHi lenLo) =
            (kind :: generation :: flags :: destination :: source :: tag :: lenHi :: lenLo
              :: rest).take (8 + num16 lenHi lenLo) := by
          rw [Nat.add_comm]
          rfl
        rw [frameWire, frameBody]
        dsimp only
        rw [hpayload, be16_num16]
        change _ = (kind :: generation :: flags :: destination :: source :: tag :: lenHi :: lenLo
          :: rest.take (num16 lenHi lenLo)) ++ be16 (crc16 (kind :: generation :: flags :: destination
          :: source :: tag :: lenHi :: lenLo :: rest.take (num16 lenHi lenLo))).toNat
        conv_rhs => rw [hbody, ← hcheck, ← hbody]
        simp
    case isFalse => simp at h
  case h_2 => simp at h

/-- Settles O56. -/
theorem framesReadBackAsTheyWereSent : Obligations.FramesReadBackAsTheyWereSent := by
  intro bytes f
  refine ⟨eq_frameWire_of_wireFrame, ?_⟩
  rintro ⟨hpasses, rfl⟩
  exact wireFrame_frameWire hpasses

end Sys2Proof.Machine
end

section
/-! Payloads read back as they were built (section 12.2). -/

namespace Sys2Proof.Machine

open Sys2Proof

/-! ## HELLO, TEST and CHANGE -/

theorem endOf_endCode (e : CabEnd) : endOf (endCode e) = some e := by cases e <;> rfl

theorem readHello_helloPayload (who : Neighbour) (v : HelloVariant)
    (h : ∀ n, v = .testOffer n → 16 ≤ n ∧ n ≤ 4096) :
    readHello (helloPayload who.identity who.farEnd who.generation v) = some (who, v) := by
  have hid := idOf_idBytes who.identity
  cases v with
  | testOffer n =>
    obtain ⟨hlow, hhigh⟩ := h n rfl
    have hn : num16 (byteOf (n / 256)) (byteOf n) = n := num16_byteOf (by omega)
    simp [helloPayload, readHello, idBytes, be16, endOf_endCode, hid, hn, hlow, hhigh]
  | _ => simp [helloPayload, readHello, idBytes, endOf_endCode, hid]

theorem readTest_testPayload {i : Nat} (h : i < 65536) : readTest (testPayload i) = some i := by
  simp [testPayload, readTest, be16, num16_byteOf h]

theorem readChange_changePayload (id : ChangeId) : readChange (changePayload id) = some id := by
  simp [changePayload, readChange, idBytes, idOf_idBytes]

/-! ## Consist entries -/

/-- The flags byte of an entry gives back its orientation, its verdict and its claims. -/
theorem entryFlags_reads (e : ConsistEntry) :
    claimOfFlags (entryFlags e) = some e.claimedEnd
      ∧ (if (entryFlags e).getLsbD 0 then Orientation.reversed else .forward) = e.orientation
      ∧ (entryFlags e).getLsbD 1 = e.recordValid ∧ (entryFlags e).getLsbD 2 = e.isHead := by
  unfold entryFlags
  generalize e.orientation = orientation
  generalize e.recordValid = recordValid
  generalize e.isHead = isHead
  generalize e.claimedEnd = claimedEnd
  cases orientation <;> cases recordValid <;> cases isHead <;> rcases claimedEnd with _ | _ | _ <;> decide

theorem readEntry_entryBytes {e : ConsistEntry} (h : EntryInRange e) (rest : List Byte) :
    readEntry (entryBytes e ++ rest) = some (e, rest) := by
  obtain ⟨hweight, hleavesA, hleavesB, hlen, hprintable⟩ := h
  obtain ⟨hclaim, horientation, hvalid, hhead⟩ := entryFlags_reads e
  have hcount : (byteOf e.vehicleNumber.length).toNat = e.vehicleNumber.length := byteOf_toNat (by omega)
  have hbytes : entryBytes e ++ rest =
      e.identity.extractLsb' 40 8 :: e.identity.extractLsb' 32 8 :: e.identity.extractLsb' 24 8
        :: e.identity.extractLsb' 16 8 :: e.identity.extractLsb' 8 8 :: e.identity.extractLsb' 0 8
        :: entryFlags e :: e.weight :: e.leavesA :: e.leavesB :: byteOf e.vehicleNumber.length
        :: (e.vehicleNumber ++ rest) := by
    simp [entryBytes, idBytes, counted]
  have hall : e.vehicleNumber.all printable = true := by
    simpa [printable] using hprintable
  rw [hbytes]
  unfold readEntry
  dsimp only
  rw [hclaim, hcount, List.take_left, List.drop_left, idOf_idBytes, horientation, hvalid, hhead]
  exact if_pos ⟨hweight, hleavesA, hleavesB, hlen, rfl, hall⟩

theorem readEntries_entryBytes {es : List ConsistEntry} (h : ∀ e ∈ es, EntryInRange e) :
    readEntries es.length (es.map entryBytes).flatten = some es := by
  induction es with
  | nil => rfl
  | cons e rest ih =>
    obtain ⟨he, hrest⟩ := List.forall_mem_cons.mp h
    simp [readEntries, readEntry_entryBytes he, ih hrest]

theorem readCount_entriesBytes {es : List ConsistEntry} (hlen : es.length < 256)
    (h : ∀ e ∈ es, EntryInRange e) : readCount (entriesBytes es) = some es := by
  rw [entriesBytes, readCount, byteOf_toNat (by omega)]
  exact readEntries_entryBytes h

theorem readRoll_rollPayload {es : List ConsistEntry} (st : RollStatus) (hlen : es.length < 256)
    (h : ∀ e ∈ es, EntryInRange e) : readRoll (rollPayload st es) = some (st, es) := by
  rw [rollPayload, entriesBytes, readRoll, byteOf_toNat (by omega), readEntries_entryBytes h]
  cases st <;> rfl

/-! ## Sweeps, releases and closes -/

theorem flagsByte_reads (b0 b1 b2 : Bool) :
    (flagsByte b0 b1 b2).getLsbD 0 = b0 ∧ (flagsByte b0 b1 b2).getLsbD 1 = b1
      ∧ (flagsByte b0 b1 b2).getLsbD 2 = b2 := by
  cases b0 <;> cases b1 <;> cases b2 <;> decide

theorem provenAll_reads (b : Bool) : decide ((if b then 1#8 else 0#8) = 1#8) = b := by cases b <;> decide

/-- A tally whose fields fit the bytes they are sent in (R143). -/
def Tally.Fits (t : Tally) : Prop :=
  t.visits < 256 ∧ t.firstUnproven < 256 ∧ t.unproven < 256 ∧ t.isolated < 65536 ∧ t.released < 256

theorem tallyOf_tallyBytes {t : Tally} (h : t.Fits) :
    tallyOf (byteOf t.visits) (if t.provenAll then 1#8 else 0#8) (byteOf t.firstUnproven)
      (byteOf t.unproven) (byteOf (t.isolated / 256)) (byteOf t.isolated) (byteOf t.released) = t := by
  obtain ⟨hvisits, hfirst, hunproven, hisolated, hreleased⟩ := h
  simp only [tallyOf, byteOf_toNat hvisits, byteOf_toNat hfirst, byteOf_toNat hunproven,
    num16_byteOf hisolated, byteOf_toNat hreleased, provenAll_reads]

theorem readSweepOut_sweepOutPayload {f : SweepOut} (hperiod : f.period < 65536)
    (hstagger : f.stagger < 65536) (hallowance : f.allowance ≤ 2000) (hdemand : f.dSum < 65536)
    (hweight : f.wSum < 65536) (htally : f.tally.Fits) : readSweepOut (sweepOutPayload f) = some f := by
  obtain ⟨hstandstill, hleft, hright⟩ :=
    flagsByte_reads f.bits.standstill f.bits.enableLeft f.bits.enableRight
  simp only [sweepOutPayload, tallyBytes, be16, List.cons_append, List.nil_append, readSweepOut,
    tallyOf_tallyBytes htally, num16_byteOf hperiod, num16_byteOf hstagger, num16_byteOf hdemand,
    num16_byteOf hweight, num16_byteOf (Nat.lt_of_le_of_lt hallowance (by decide)),
    Nat.min_eq_left hallowance, hstandstill, hleft, hright]

theorem readSweepBack_sweepBackPayload {f : SweepBack} (hallowance : f.allowance ≤ 2000)
    (htally : f.tally.Fits) : readSweepBack (sweepBackPayload f) = some f := by
  simp only [sweepBackPayload, tallyBytes, be16, List.cons_append, List.nil_append, readSweepBack,
    tallyOf_tallyBytes htally, num16_byteOf (Nat.lt_of_le_of_lt hallowance (by decide)),
    Nat.min_eq_left hallowance]

theorem trainSideOf_trainSideCode (side : TrainSide) : trainSideOf (trainSideCode side) = some side := by
  cases side <;> rfl

theorem readRelease_releasePayload {r : Release} (hfirst : 1 ≤ r.first) (hle : r.first ≤ r.last)
    (hlast : r.last ≤ 32) : readRelease (releasePayload r) = some r := by
  have houtside : (if r.outside then 1#8 else 0#8) = 0#8 ∨ (if r.outside then 1#8 else 0#8) = 1#8 := by
    cases r.outside <;> simp
  unfold readRelease releasePayload
  dsimp only
  rw [trainSideOf_trainSideCode, byteOf_toNat (by omega), byteOf_toNat (by omega)]
  dsimp only
  rw [if_pos ⟨by omega, hle, hlast, houtside⟩, provenAll_reads]

theorem readClose_closePayload {c : Close} (h : c.left = true ∨ c.right = true) :
    readClose (closePayload c) = some c := by
  obtain ⟨hleft, hright, -⟩ := flagsByte_reads c.left c.right false
  have hone : (c.left || c.right) = true := by simpa using h
  rw [closePayload, readClose, hleft, hright]
  exact if_pos hone

theorem readConfirm_byteOf {n : Nat} (hlow : 1 ≤ n) (hhigh : n ≤ 32) : readConfirm [byteOf n] = some n := by
  rw [readConfirm, byteOf_toNat (by omega)]
  exact if_pos ⟨hlow, hhigh⟩

/-! ## Codes that tell values apart -/

theorem statusCode_injective (a b : Status) (h : statusCode a = statusCode b) : a = b := by
  cases a <;> cases b <;> first | rfl | exact absurd h (by decide)

theorem noticeCode_injective (a b : NoticeKind) (h : noticeCode a = noticeCode b) : a = b := by
  cases a <;> cases b <;> first | rfl | exact absurd h (by decide)

theorem noticeBytes_injective {m n : Notice} (h : noticeBytes m = noticeBytes n) : m = n := by
  obtain ⟨kind, subject, value, generation⟩ := m
  obtain ⟨kind', subject', value', generation'⟩ := n
  simp only [noticeBytes, be16, List.cons_append, List.nil_append, List.cons.injEq, and_true] at h
  obtain ⟨hkind, rfl, hhi, hlo, rfl⟩ := h
  have hvalue : value = value' := by
    apply BitVec.eq_of_toNat_eq
    rw [← num16_byteOf value.isLt, ← num16_byteOf value'.isLt, hhi, hlo]
  rw [noticeCode_injective _ _ hkind, hvalue]

/-- Settles O57. -/
theorem payloadsReadBack : Obligations.PayloadsReadBack := by
  refine ⟨fun es hlen hes => ⟨readCount_entriesBytes (by omega) hes, readRoll_rollPayload .ok (by omega) hes⟩,
    fun f hperiod hstagger hallowance hdemand hweight h1 h2 h3 h4 h5 =>
      readSweepOut_sweepOutPayload hperiod hstagger hallowance hdemand hweight ⟨h1, h2, h3, h4, h5⟩,
    fun f hallowance h1 h2 h3 h4 h5 => readSweepBack_sweepBackPayload hallowance ⟨h1, h2, h3, h4, h5⟩,
    fun r => readRelease_releasePayload, fun c => readClose_closePayload, readChange_changePayload,
    fun i => readTest_testPayload, readHello_helloPayload,
    fun why => readRoll_rollPayload why (by simp) (by simp), fun n => readConfirm_byteOf,
    fun n => ⟨rfl, fun m => noticeBytes_injective⟩, statusCode_injective⟩

end Sys2Proof.Machine
end

section
/-! What the egress side does to a port: the frame in transmission stays where it is, a free transmitter takes
the oldest frame (R13, R14, R17, R18). -/

namespace Sys2Proof.Machine

open Sys2Proof

/-! ## One port changed -/

theorem State.modPort_congr {p : PortId} {f g : Port → Port} {s : State} (h : f (s.port p) = g (s.port p)) :
    s.modPort p f = s.modPort p g := by
  cases p <;> simp only [State.modPort, State.port] at h ⊢ <;> rw [h]

theorem State.modPort_self {p : PortId} {f : Port → Port} {s : State} (h : f (s.port p) = s.port p) :
    s.modPort p f = s := (State.modPort_congr (g := fun q => q) h).trans (State.modPort_id p s)

theorem State.modPort_sameCore (p : PortId) (f : Port → Port) (s : State) : SameCore s (s.modPort p f) := by
  cases p <;> exact SameCore.refl _

/-- A field the link side holds stands where the link side does. -/
theorem Port.field_of_linkSide {α : Type} {a b : Port} (g : Port → α) (hg : ∀ q : Port, g q.linkSide = g q)
    (h : a.linkSide = b.linkSide) : g a = g b := by
  rw [← hg a, h, hg b]

/-! ## The frame in transmission -/

/-- No port has lost the frame it was sending. -/
def SendingKept (s t : State) : Prop :=
  ∀ p e, (s.port p).transmitter = some e → (t.port p).transmitter = some e

theorem SendingKept.refl (s : State) : SendingKept s s := fun _ _ h => h

theorem SendingKept.trans {s t u : State} (h : SendingKept s t) (k : SendingKept t u) : SendingKept s u :=
  fun p e he => k p e (h p e he)

theorem SendingKept.of_port {s t : State} (h : ∀ p, (t.port p).transmitter = (s.port p).transmitter) :
    SendingKept s t := fun p _ he => (h p).trans he

theorem laneFrameGone_transmitter (p : PortId) (e : LaneEntry) (s : State) :
    ((laneFrameGone p e s).port p).transmitter = (s.port p).transmitter := by
  unfold laneFrameGone resetReplyGone
  split
  · rfl
  · rw [State.modPort_port_self]
    split <;> rfl
  · simp

theorem laneFrameGone_sendingKept (p : PortId) (e : LaneEntry) (s : State) :
    SendingKept s (laneFrameGone p e s) :=
  .of_port fun q => by
    rcases PortId.eq_or_eq_other p q with rfl | rfl
    · exact laneFrameGone_transmitter _ e s
    · rw [laneFrameGone_port_other]

theorem dropFrame_sendingKept (p : PortId) (e : LaneEntry) (s : State) : SendingKept s (dropFrame p e s) :=
  .of_port fun q => by
    rcases PortId.eq_or_eq_other p q with rfl | rfl
    · exact (dropFrame_lanes q e s).2.2.1
    · rw [dropFrame_port_other]

theorem modPort_sendingKept {p : PortId} {f : Port → Port} {s : State}
    (h : (f (s.port p)).transmitter = (s.port p).transmitter) : SendingKept s (s.modPort p f) :=
  .of_port fun q => by
    rcases PortId.eq_or_eq_other p q with rfl | rfl
    · rw [State.modPort_port_self, h]
    · rw [State.modPort_port_other]

theorem pump_taken {p : PortId} {s : State} {e : LaneEntry} (h : (s.port p).transmitter = some e) :
    pump p s = s := by
  unfold pump
  exact if_neg fun hfree => by simp [h] at hfree

theorem pump_sendingKept (p : PortId) (s : State) : SendingKept s (pump p s) := by
  intro q e he
  rcases PortId.eq_or_eq_other p q with rfl | rfl
  · rwa [pump_taken he]
  · rwa [pump_port_other]

theorem joinUrgent_sendingKept (p : PortId) (e : LaneEntry) (s : State) : SendingKept s (joinUrgent p e s) := by
  unfold joinUrgent
  dsimp only
  split
  · exact modPort_sendingKept rfl
  · split
    · exact (modPort_sendingKept rfl).trans (dropFrame_sendingKept p _ _)
    · exact dropFrame_sendingKept p e s

theorem joinNormal_sendingKept (p : PortId) (e : LaneEntry) (s : State) : SendingKept s (joinNormal p e s) := by
  unfold joinNormal
  split
  · exact modPort_sendingKept rfl
  · exact dropFrame_sendingKept p e s

theorem offer_sendingKept (p : PortId) (e : LaneEntry) (s : State) : SendingKept s (offer p e s) := by
  unfold offer noRoute
  dsimp only
  split
  · split
    · exact (joinNormal_sendingKept p e s).trans (pump_sendingKept p _)
    · exact (joinUrgent_sendingKept p e s).trans (pump_sendingKept p _)
  · exact (SendingKept.of_port fun q => by simp).trans (laneFrameGone_sendingKept p e _)

theorem offerIfCarrying_sendingKept (p : PortId) (f : Frame) (s : State) :
    SendingKept s (offerIfCarrying p f s) := by
  unfold offerIfCarrying
  split
  · exact offer_sendingKept p _ s
  · exact SendingKept.refl s

theorem broadcast_sendingKept (f : Frame) (s : State) : SendingKept s (broadcast f s) :=
  (offerIfCarrying_sendingKept .lp1 f s).trans (offerIfCarrying_sendingKept .lp2 f _)

theorem route_sendingKept (e : LaneEntry) (s : State) : SendingKept s (route e s) := by
  unfold route
  dsimp only
  split
  · exact offer_sendingKept _ e s
  · split
    · exact offer_sendingKept _ e s
    · exact (SendingKept.of_port fun q => by simp).trans (laneFrameGone_sendingKept _ e _)

theorem deliverNotice_port (f : Frame) (p : PortId) (s : State) : (deliverNotice f s).port p = s.port p := by
  unfold deliverNotice offerCabNotice
  split
  · exact offerCab_port _ p s
  · simp

theorem originateNotice_sendingKept (n : Notice) (s : State) : SendingKept s (originateNotice n s) := by
  unfold originateNotice noRoute
  dsimp only
  split
  · exact (SendingKept.of_port fun q => by simp).trans (laneFrameGone_sendingKept _ _ _)
  · split
    · exact .of_port fun q => by rw [deliverNotice_port]
    · exact route_sendingKept _ s

theorem forwardNotices_sendingKept (s : State) : SendingKept s (forwardNotices s) := by
  unfold forwardNotices
  split
  · split
    · exact SendingKept.refl s
    · exact (SendingKept.of_port fun q => by simp).trans (originateNotice_sendingKept _ _)
  · exact SendingKept.refl s

theorem raise_sendingKept (kind : NoticeKind) (subject : Byte) (value : Nat) (s : State) :
    SendingKept s (raise kind subject value s) :=
  (SendingKept.of_port fun q => by rw [enqueueNotice_port]).trans (forwardNotices_sendingKept _)

theorem driveProven_port (p : PortId) (s : State) : (driveProven s).port p = s.port p := by cases p <;> rfl

theorem finish_sendingKept (s : State) : SendingKept s (finish s) :=
  (forwardNotices_sendingKept s).trans (.of_port fun q => congrArg Port.transmitter (driveProven_port q _))

/-! ## A free transmitter -/

/-- A free transmitter of a port that may send takes the oldest frame (R14). -/
theorem pump_free {p : PortId} {s : State} (hfree : (s.port p).transmitter = none)
    (hlink : (s.port p).link = .up ∨ (s.port p).link = .settling) (hdue : (s.port p).testDue = false) :
    pump p s = s.modPort p fun q =>
      { q with
        transmitter := (q.urgent ++ q.normal).head?
        urgent := q.urgent.tail
        normal := if q.urgent = [] then q.normal.tail else q.normal } := by
  unfold pump
  dsimp only
  rw [if_pos ⟨hfree, hlink, hdue⟩]
  cases hu : (s.port p).urgent with
  | cons e rest => exact State.modPort_congr (by simp [hu])
  | nil =>
    cases hn : (s.port p).normal with
    | cons e rest => exact State.modPort_congr (by simp [hu, hn])
    | nil =>
      refine (State.modPort_self ?_).symm
      generalize s.port p = q at hfree hu hn
      cases q
      dsimp only at hfree hu hn
      subst hfree hu hn
      rfl

/-- A port that is TEST-due, or neither in UP nor in SETTLING, hands nothing to its transmitter (R14, R34). -/
theorem pump_idle {p : PortId} {s : State}
    (h : (s.port p).testDue = true ∨ ¬((s.port p).link = .up ∨ (s.port p).link = .settling)) :
    pump p s = s := by
  unfold pump
  dsimp only
  exact if_neg fun ⟨_, hlink, hdue⟩ => h.elim (fun h => by simp [hdue] at h) (fun h => h hlink)

/-- A HELLO offered to an idle port in UP or SETTLING goes to the transmitter at once (R13, R14, R24). -/
theorem offer_idle {p : PortId} {e : LaneEntry} {s : State} (hkind : e.frame.kind = Config.kindHello)
    (hlink : (s.port p).link = .up ∨ (s.port p).link = .settling) (hdue : (s.port p).testDue = false)
    (hurgent : (s.port p).urgent = []) (hfree : (s.port p).transmitter = none) :
    offer p e s = s.modPort p fun q => { q with transmitter := some e } := by
  have htakes : (s.port p).carries = true ∨ ((s.port p).link = .settling ∧ e.frame.kind = Config.kindHello) := by
    rcases hlink with h | h
    · exact .inl (by simp [Port.carries, h])
    · exact .inr ⟨h, hkind⟩
  unfold offer
  dsimp only
  rw [if_pos htakes, hkind, if_neg (show ¬isNormalKind Config.kindHello = true by decide),
    joinUrgent_room p _ s (by simp [hurgent])]
  rw [pump_free (by simp [hfree]) (by simpa using hlink) (by simp [hdue]), State.modPort_modPort]
  exact State.modPort_congr (by simp [hurgent])

end Sys2Proof.Machine
end

section
/-! Glitches, settling and link test offers (R17, R25 to R28, R32 to R34). -/

namespace Sys2Proof.Machine

open Sys2Proof

/-! ## Lock lost and gained (R28) -/

/-- Settles O9. -/
theorem lockLostInUpIsAGlitch : Obligations.LockLostInUpIsAGlitch := by
  intro p s hpower
  refine ⟨fun hup => ?_, fun hglitch => ?_⟩
  · let lost : State := s.modPort p fun q =>
      { q with signal := false, link := .glitch, glitchTimer := some 120, transmitter := none }
    let t : State := dropFrames p (s.port p).transmitter.toList lost
    have hexec : exec (.lockLost p) s = .next (finish t) := by
      rw [show exec (.lockLost p) s = live (loseLock p) s from rfl, live_powered _ s hpower]
      unfold loseLock
      dsimp only
      rw [State.modPort_port_self]
      simp only [hup, State.modPort_modPort]
      rfl
    have hegress : EgressOnly lost t := dropFrames_egress p _ lost
    have hside : (t.port p).linkSide =
        { (s.port p).linkSide with signal := false, link := .glitch, glitchTimer := some 120 } := by
      rw [hegress.2 p, State.modPort_port_self]
      rfl
    obtain ⟨hurgent, hnormal, htransmitter, hother⟩ := dropFrames_lanes p (s.port p).transmitter.toList lost
    have hdropped : (t.port p).dropped =
        (if (s.port p).transmitter = none then (s.port p).dropped else satInc (s.port p).dropped) := by
      cases htx : (s.port p).transmitter with
      | none => simp [t, htx, dropFrames, lost]
      | some e => simp [t, htx, dropFrames, dropFrame_dropped, lost]
    let u : Port :=
      { t.port p with
        link := (s.port p).link, signal := (s.port p).signal, glitchTimer := (s.port p).glitchTimer }
    refine ⟨t, u, hexec, (State.modPort_sameCore p _ s).trans hegress.1, ?_, ?_, hdropped, ?_, ?_⟩
    · have hlink : (t.port p).link = .glitch := congrArg Port.link hside
      have hsignal : (t.port p).signal = false := congrArg Port.signal hside
      have htimer : (t.port p).glitchTimer = some 120 := congrArg Port.glitchTimer hside
      have hnone : (t.port p).transmitter = none := htransmitter.trans (by simp [lost])
      have hlane : (t.port p).urgent = (s.port p).urgent := hurgent.trans (by simp [lost])
      have hlane' : (t.port p).normal = (s.port p).normal := hnormal.trans (by simp [lost])
      dsimp only [u]
      generalize t.port p = q at hlink hsignal htimer hnone hlane hlane'
      cases q
      dsimp only at hlink hsignal htimer hnone hlane hlane'
      subst hlink hsignal htimer hnone hlane hlane'
      rfl
    · change { (t.port p).linkSide with
        link := (s.port p).link, signal := (s.port p).signal, glitchTimer := (s.port p).glitchTimer } = _
      rw [hside]
      rfl
    · exact hother.trans (by simp [lost])
    · have hrelay : ∀ (es : List LaneEntry) (u : State), (dropFrames p es u).relay = u.relay := by
        intro es
        induction es with
        | nil => exact fun _ => rfl
        | cons e rest ih => exact fun u => (ih (dropFrame p e u)).trans (dropFrame_relay p e u)
      exact (hrelay _ lost).trans (by simp [lost])
  · let regained : State := s.modPort p fun q => { q with signal := true, link := .up, glitchTimer := none }
    have hexec : exec (.lockGained p) s = .next (finish (pump p regained)) := by
      rw [show exec (.lockGained p) s = live (gainLock p) s from rfl, live_powered _ s hpower]
      unfold gainLock
      dsimp only
      rw [State.modPort_port_self]
      simp only [hglitch, State.modPort_modPort]
      rfl
    refine ⟨pump p regained, hexec, (State.modPort_sameCore p _ s).trans (pump_egress p regained).1, ?_, ?_, ?_⟩
    · rw [(pump_egress p regained).2 p, State.modPort_port_self]
      rfl
    · rw [pump_port_other, State.modPort_port_other]
    · rw [pump_relay, State.modPort_relay]

/-! ## SETTLING and the HELLO timer (R24 to R26) -/

/-- A port with a candidate goes UP where the count is 3 and the settle time has been reached (R25). -/
theorem checkSettled_up {p : PortId} {who : Neighbour} {s : State}
    (hcandidate : (s.port p).settle.candidate = some who) (hlink : (s.port p).link = .settling)
    (htime : (s.port p).settle.time = none) (hcount : (s.port p).settle.count = 3) :
    checkSettled p s = portUp p who s := by
  unfold checkSettled
  dsimp only
  rw [hcandidate]
  exact if_pos ⟨hlink, htime, hcount⟩

theorem checkSettled_waits {p : PortId} {s : State}
    (h : (s.port p).settle.time ≠ none ∨ (s.port p).settle.count ≠ 3) : checkSettled p s = s := by
  unfold checkSettled
  dsimp only
  split
  · exact if_neg fun ⟨_, htime, hcount⟩ => h.elim (fun h => h htime) (fun h => h hcount)
  · rfl

/-- Settles O11. -/
theorem settlingEndsInUpAndHelloIsTimed : Obligations.SettlingEndsInUpAndHelloIsTimed := by
  refine ⟨fun p s hpower hsettling htime => ?_, fun p s hpower htimer hlink hdue hurgent hfree => ?_⟩
  · let reached : State := s.modPort p fun q => { q with settle := { q.settle with time := none } }
    have hexec : exec (.settleTimeReached p) s = .next (finish (checkSettled p reached)) := by
      rw [show exec (.settleTimeReached p) s = live (settleTimeEnds p) s from rfl, live_powered _ s hpower,
        settleTimeEnds, Option.isSome_iff_ne_none.mpr htime, onlyIf_true]
    refine ⟨fun who hcandidate hcount => ?_, fun hcount => ?_⟩
    · rw [hexec, checkSettled_up (who := who) (by simp [reached, hcandidate]) (by simp [reached, hsettling])
        (by simp [reached]) (by simp [reached, hcount])]
      unfold portUp
      rw [State.modPort_modPort]
      rfl
    · rw [hexec, checkSettled_waits (.inr (by simpa [reached] using hcount))]
  · let period : Nat := if (s.port p).link = .settling then 100 else 1000
    let timed : State := s.modPort p fun q => { q with helloTimer := some period }
    let e : LaneEntry :=
      { frame := buildFrame timed Config.kindHello 0#8 0#8
          (helloPayload s.identity p.cabEnd s.consist.generation .plain)
        mark := .plain }
    let t : State := timed.modPort p fun q => { q with transmitter := some e }
    have htimed : (s.modPort p fun q =>
        { q with
          helloTimer := some (if q.link = .settling then Config.helloSettlingMs else Config.helloUpMs) }) = timed :=
      State.modPort_congr rfl
    have hexec : exec (.helloTimer p) s = .next (finish t) := by
      rw [show exec (.helloTimer p) s = live (helloDue p) s from rfl, live_powered _ s hpower,
        helloDue, Option.isSome_iff_ne_none.mpr htimer, onlyIf_true, htimed]
      unfold sendHello
      dsimp only
      rw [offer_idle rfl (by simpa [timed, or_comm] using hlink) (by simp [timed, hdue])
        (by simp [timed, hurgent]) (by simp [timed, hfree])]
      congr 3
      simp only [timed, State.modPort_identity, State.modPort_consist]
      rfl
    have hside : ((finish t).port p).linkSide = (t.port p).linkSide := finish_linkSide p t
    refine ⟨finish t, e, hexec, finish_sendingKept t p e (by simp [t]), rfl, rfl, rfl, ?_, rfl, ?_, ?_, ?_⟩
    · simp [e, buildFrame, buildFrameIn, timed]
    · exact (Port.field_of_linkSide Port.helloTimer (fun _ => rfl) hside).trans (by simp [t, timed, period])
    · exact (Port.field_of_linkSide Port.link (fun _ => rfl) hside).trans (by simp [t, timed])
    · simp [t, timed]

end Sys2Proof.Machine
end

section
/-! A port that carries nothing, received HELLOs, and link test offers (R13, R24, R27, R32 to R34). -/

namespace Sys2Proof.Machine

open Sys2Proof

/-! ## A notice leaves a port that does not carry as it is (R13) -/

theorem offer_port_deaf {p : PortId} {s : State} (q : PortId) {e : LaneEntry}
    (hdeaf : (s.port p).carries = false) (hkind : e.frame.kind ≠ Config.kindHello) (hmark : e.mark = .plain) :
    (offer q e s).port p = s.port p := by
  rcases PortId.eq_or_eq_other p q with rfl | rfl
  · rw [offer_noRoute q e s hdeaf (fun h => hkind h.2) hmark, State.modRelay_port]
  · have h := offer_port_other p.other e s
    rwa [PortId.other_other] at h

theorem route_port_deaf {p : PortId} {s : State} {e : LaneEntry} (hdeaf : (s.port p).carries = false)
    (hkind : e.frame.kind ≠ Config.kindHello) (hmark : e.mark = .plain) :
    (route e s).port p = s.port p := by
  unfold route
  dsimp only
  split
  · exact offer_port_deaf _ hdeaf hkind hmark
  · split
    · exact offer_port_deaf _ hdeaf hkind hmark
    · rw [laneFrameGone_plain _ _ _ hmark, State.modRelay_port]

theorem originateNotice_port_deaf {p : PortId} {s : State} (n : Notice) (hdeaf : (s.port p).carries = false) :
    (originateNotice n s).port p = s.port p := by
  unfold originateNotice noRoute
  dsimp only
  split
  · rw [laneFrameGone_plain _ _ _ rfl, State.modRelay_port]
  · split
    · exact deliverNotice_port _ p s
    · exact route_port_deaf hdeaf (show Config.kindNotice ≠ Config.kindHello by decide) rfl

theorem forwardNotices_port_deaf {p : PortId} {s : State} (hdeaf : (s.port p).carries = false) :
    (forwardNotices s).port p = s.port p := by
  unfold forwardNotices
  split
  · split
    · rfl
    · rw [originateNotice_port_deaf _ (by simpa using hdeaf), State.modReq_port]
  · rfl

/-! ## Received HELLOs (R24, R25, R27) -/

theorem helloPayload_length (identity : Identity) (e : CabEnd) (generation : Byte) (v : HelloVariant) :
    (helloPayload identity e generation v).length = 11 := by cases v <;> rfl

theorem payloadPasses_hello (h : Header) {payload : List Byte} (hlen : payload.length ≤ 720) :
    payloadPasses { kind := Config.kindHello, header := h, payload := payload } = true :=
  (payloadPasses_iff _).mpr ⟨hlen, fun hkind => absurd hkind.1 (show ¬Config.kindHello = 2#8 by decide)⟩

section

variable {p : PortId} {h : Header} {who : Neighbour} {v : HelloVariant} {s : State}

theorem validHello_helloPayload (hv : ∀ n, v = .testOffer n → 16 ≤ n ∧ n ≤ 4096)
    (hdestination : h.destination = 0#8) (hflag : h.flags.getLsbD 0 = true)
    (hidentity : who.identity ≠ s.identity) :
    validHello { kind := Config.kindHello, header := h
                 payload := helloPayload who.identity who.farEnd who.generation v } s = some (who, v) := by
  unfold validHello
  dsimp only
  rw [readHello_helloPayload who v hv]
  simp [helloHeaderOk, hdestination, hflag, hidentity]

/-- A valid HELLO in UP supervises its neighbour (R27). -/
theorem receive_hello_up (hup : (s.port p).link = .up) (hv : ∀ n, v = .testOffer n → 16 ≤ n ∧ n ≤ 4096)
    (hdestination : h.destination = 0#8) (hflag : h.flags.getLsbD 0 = true)
    (hidentity : who.identity ≠ s.identity) :
    receive p { kind := Config.kindHello, header := h
                payload := helloPayload who.identity who.farEnd who.generation v } s =
      supervise p who v (s.modPort p Port.countGood) := by
  unfold receive upFrame
  rw [payloadPasses_hello h (by simp [helloPayload_length]), if_neg (by decide), hup]
  dsimp only
  rw [if_pos rfl, validHello_helloPayload hv hdestination hflag (by simpa using hidentity)]

/-- A valid HELLO in SETTLING acts on the settle progress (R25). -/
theorem receive_hello_settling (hsettling : (s.port p).link = .settling)
    (hv : ∀ n, v = .testOffer n → 16 ≤ n ∧ n ≤ 4096)
    (hdestination : h.destination = 0#8) (hflag : h.flags.getLsbD 0 = true)
    (hidentity : who.identity ≠ s.identity) :
    receive p { kind := Config.kindHello, header := h
                payload := helloPayload who.identity who.farEnd who.generation v } s =
      settleHello p who s := by
  unfold receive settlingFrame
  rw [payloadPasses_hello h (by simp [helloPayload_length]), if_neg (by decide), hsettling]
  dsimp only
  rw [if_pos rfl, validHello_helloPayload hv hdestination hflag hidentity]

/-- A HELLO of the recorded neighbour restarts the silence timer and renews its generation; then its variant
acts (R27). -/
theorem supervise_known {old : Neighbour} (hold : (s.port p).neighbour = some old)
    (hidentity : old.identity = who.identity) (hend : old.farEnd = who.farEnd) :
    supervise p who v s =
      helloVariant p v (s.modPort p fun q => { q with neighbour := some who, silence := some 3000 }) := by
  unfold supervise
  rw [hold]
  exact if_pos ⟨hidentity, hend⟩

/-- A HELLO of the neighbour as it is recorded, generation too, only restarts the silence timer (R27). -/
theorem supervise_unchanged (hsame : (s.port p).neighbour = some who) :
    supervise p who v s = helloVariant p v (s.modPort p fun q => { q with silence := some 3000 }) := by
  rw [supervise_known hsame rfl rfl]
  congr 1
  apply State.modPort_congr
  rw [← hsame]

end

/-! ## Offers (R32 to R34) -/

theorem refuseOffer_pending {p : PortId} {n left : Nat} {s : State}
    (h : (s.port p).offer = .pending n (some left)) :
    refuseOffer p s = s.modPort p fun q =>
      { q with offer := .none, result := some (TestResult.unrun n .refused) } := by
  unfold refuseOffer
  rw [h]

theorem takeAccept_pending {p : PortId} {n left : Nat} {s : State}
    (h : (s.port p).offer = .pending n (some left)) :
    takeAccept p s = s.modPort p fun q => { q with offer := .pending n none, testDue := true } := by
  unfold takeAccept
  rw [h]

/-- Settles O12. -/
theorem offersEndInRefusalOrTest : Obligations.OffersEndInRefusalOrTest := by
  refine ⟨fun p n s hpower => ?_, fun p n s hpower hdue hup hfree hframes => ?_⟩
  · dsimp only
    have answered : ∀ (h : Header) (who : Neighbour) (v : HelloVariant), (∀ k, v ≠ .testOffer k) →
        (s.port p).link = .up → (s.port p).neighbour = some who → who.identity ≠ s.identity →
        h.destination = 0#8 → h.flags = 1#8 →
        live (receive p { kind := Config.kindHello, header := h
                          payload := helloPayload who.identity who.farEnd who.generation v }) s =
          .next (finish (helloVariant p v (s.modPort p fun q => { q.countGood with silence := some 3000 }))) := by
      intro h who v hv hup hneighbour hidentity hdestination hflags
      rw [live_powered _ s hpower, receive_hello_up hup (fun k hk => absurd hk (hv k)) hdestination
        (by simp [hflags]) hidentity, supervise_unchanged (by simpa using hneighbour), State.modPort_modPort]
    refine ⟨fun left hoffer => ⟨?_, fun h who ⟨hup, hneighbour, hidentity, hdestination, hflags⟩ => ⟨?_, ?_⟩⟩,
      fun h who ⟨hup, hneighbour, hidentity, hdestination, hflags⟩ hoffer => ⟨?_, ?_⟩⟩
    · rw [show exec (.offerTimeout p) s = live (offerEnds p) s from rfl, live_powered _ s hpower, offerEnds,
        refuseOffer_pending hoffer]
      rfl
    · refine (answered h who .testRefused (by simp) hup hneighbour hidentity hdestination hflags).trans ?_
      rw [helloVariant, refuseOffer_pending (n := n) (left := left) (by simpa using hoffer),
        State.modPort_modPort]
      rfl
    · refine (answered h who .testAccept (by simp) hup hneighbour hidentity hdestination hflags).trans ?_
      rw [helloVariant, takeAccept_pending (n := n) (left := left) (by simpa using hoffer),
        State.modPort_modPort]
    · refine (answered h who .testRefused (by simp) hup hneighbour hidentity hdestination hflags).trans ?_
      rw [helloVariant, refuseOffer, State.modPort_port_self]
      simp only [Port.countGood_offer, hoffer]
    · refine (answered h who .testAccept (by simp) hup hneighbour hidentity hdestination hflags).trans ?_
      rw [helloVariant, takeAccept, State.modPort_port_self]
      simp only [Port.countGood_offer, hoffer]
  · let r : TestRun := { frames := n, sent := 0, received := 0, errored := 0, last := none, quiet := none }
    let entered : State := s.modPort p fun q =>
      { q with
        link := .test, lastDown := .testStart, neighbour := none, silence := none, helloTimer := none
        offer := .none, testDue := false, run := some r }
    let emptied : State := forwardNotices (loseEgress p entered)
    let t : State := startTestFrame p r emptied
    have hexec : exec (.testEntry p) s =
        .next (finish (raise .portDown (portNumber p) 6 (tellPortEvent t))) := by
      rw [show exec (.testEntry p) s = live (testDueEnters p) s from rfl, live_powered _ s hpower]
      unfold testDueEnters
      dsimp only
      rw [if_pos ⟨hdue, hup, hfree⟩, hframes]
      rfl
    obtain ⟨hurgent, hnormal, -, -, hside⟩ := loseEgress_port p entered
    have hlink : ((loseEgress p entered).port p).link = .test :=
      (Port.field_of_linkSide Port.link (fun _ => rfl) hside).trans (by simp [entered])
    have hemptied : emptied.port p = (loseEgress p entered).port p :=
      forwardNotices_port_deaf (by simp [Port.carries, hlink])
    have field : ∀ {α : Type} (g : Port → α), (∀ q : Port, g q.linkSide = g q) →
        (∀ (q : Port) x, g { q with transmitter := x } = g q) → g (t.port p) = g (entered.port p) := by
      intro α g hg hx
      change g ((startTestFrame p r emptied).port p) = _
      rw [startTestFrame, State.modPort_port_self, hx, hemptied]
      exact Port.field_of_linkSide g hg hside
    have hcore : SameCore s t :=
      (State.modPort_sameCore p _ s).trans (((loseEgress_egress p entered).trans
        (forwardNotices_egress _)).1.trans (State.modPort_sameCore p _ emptied))
    have hport : t.port p = { (loseEgress p entered).port p with
        transmitter := if r.sent < r.frames then
          some { frame := buildFrame emptied Config.kindTest 0#8 0#8 (testPayload r.sent), mark := .plain }
          else none } := by
      rw [show t = startTestFrame p r emptied from rfl, startTestFrame, State.modPort_port_self, hemptied]
    obtain ⟨-, -, -, hconsist, -, hdoor, hheat, -⟩ := hcore
    refine ⟨t, hexec, ?_⟩
    refine ⟨(field Port.link (fun _ => rfl) fun _ _ => rfl).trans (by simp [entered]),
      (field Port.lastDown (fun _ => rfl) fun _ _ => rfl).trans (by simp [entered]),
      (field Port.neighbour (fun _ => rfl) fun _ _ => rfl).trans (by simp [entered]),
      (field Port.silence (fun _ => rfl) fun _ _ => rfl).trans (by simp [entered]),
      (field Port.helloTimer (fun _ => rfl) fun _ _ => rfl).trans (by simp [entered]),
      (field Port.offer (fun _ => rfl) fun _ _ => rfl).trans (by simp [entered]),
      (field Port.run (fun _ => rfl) fun _ _ => rfl).trans (by simp [entered, r]), ?_, ?_, fun hn => ?_,
      (field Port.received (fun _ => rfl) fun _ _ => rfl).trans (by simp [entered]),
      (field Port.errored (fun _ => rfl) fun _ _ => rfl).trans (by simp [entered]),
      (field Port.windowFrames (fun _ => rfl) fun _ _ => rfl).trans (by simp [entered]),
      (field Port.windowErrors (fun _ => rfl) fun _ _ => rfl).trans (by simp [entered]),
      hconsist, hdoor, hheat⟩
    · rw [hport]
      exact hurgent
    · rw [hport]
      exact hnormal
    · rw [hport, if_pos hn]
      rfl

end Sys2Proof.Machine
end

section
/-! Transmitters and lost frames (R13, R14, R18). -/

namespace Sys2Proof.Machine

open Sys2Proof

/-! ## A marked frame that has gone (R33, R196) -/

/-- Whether TEST is due at a port once a frame has left its egress side (R33). -/
def Port.dueAfter (e : LaneEntry) (q : Port) : Bool :=
  match e.mark, q.offer with
  | .testAccept, .accepted _ => true
  | _, _ => q.testDue

/-- The node once a frame has left an egress side, but for the ports (R196). -/
def State.withoutReply (e : LaneEntry) (s : State) : State :=
  if e.mark = .resetReply ∧ s.req.resetPending = true then { s with req := { s.req with resetDue := true } } else s

theorem Port.dueAfter_iff (e : LaneEntry) (q : Port) :
    q.dueAfter e = true ↔ q.testDue = true ∨ (e.mark = .testAccept ∧ ∃ n, q.offer = .accepted n) := by
  unfold Port.dueAfter
  split
  · next n hmark hoffer => simp [hmark, hoffer]
  · next hnot =>
    refine ⟨.inl, fun h => h.elim id ?_⟩
    rintro ⟨hmark, n, hoffer⟩
    exact absurd hoffer (hnot n hmark)

@[simp] theorem State.withoutReply_port (e : LaneEntry) (p : PortId) (s : State) :
    (s.withoutReply e).port p = s.port p := by
  unfold State.withoutReply
  split
  · cases p <;> rfl
  · rfl

theorem State.withoutReply_modPort (e : LaneEntry) (p : PortId) (f : Port → Port) (s : State) :
    (s.modPort p f).withoutReply e = (s.withoutReply e).modPort p f := by
  unfold State.withoutReply
  rw [State.modPort_req]
  split
  · cases p <;> rfl
  · rfl

theorem laneFrameGone_eq (p : PortId) (e : LaneEntry) (s : State) :
    laneFrameGone p e s = (s.withoutReply e).modPort p fun q => { q with testDue := q.dueAfter e } := by
  unfold laneFrameGone State.withoutReply Port.dueAfter
  cases hmark : e.mark with
  | plain =>
    simp only [reduceCtorEq, false_and, if_false]
    exact (State.modPort_self rfl).symm
  | testAccept =>
    simp only [reduceCtorEq, false_and, if_false]
    apply State.modPort_congr
    generalize s.port p = q
    obtain ⟨_, _, _, _, _, _, _, _, _, _, _, _, offer, _⟩ := q
    cases offer <;> rfl
  | resetReply =>
    refine Eq.trans ?_ (State.modPort_self rfl).symm
    unfold resetReplyGone
    cases hpending : s.req.resetPending with
    | false =>
      have hor : (s.req.resetDue || s.req.resetPending) = s.req.resetDue := by simp [hpending]
      unfold State.modReq
      dsimp only
      rw [hor, if_neg (by simp)]
    | true => simp only [State.modReq, hpending, Bool.or_true, and_true, if_true]

/-! ## A lost frame (R18) -/

theorem offerCabNotice_req (position : Byte) (entry : List Byte) (s : State) :
    (offerCabNotice position entry s).req = s.req := by
  unfold offerCabNotice offerCab
  split
  · rfl
  · rw [cabFrameGone, if_neg (by simp), State.modBus_req]

/-- What a notice leaves of the Request Unit's reset. -/
theorem enqueueNotice_reset (n : Notice) (s : State) :
    (enqueueNotice n s).req.resetDue = s.req.resetDue
      ∧ (enqueueNotice n s).req.resetPending = s.req.resetPending := by
  unfold enqueueNotice
  split
  · rw [offerCabNotice_req]
    exact ⟨rfl, rfl⟩
  · split <;> exact ⟨rfl, rfl⟩

theorem enqueueNotice_waits {n : Notice} {s : State} (hhead : s.consist.status ≠ .valid)
    (hroom : s.req.notices.length < 32) :
    enqueueNotice n s = s.modReq fun r => { r with notices := r.notices ++ [n] } := by
  unfold enqueueNotice
  rw [if_neg (show ¬s.actsAsHead = true by simp [State.actsAsHead, hhead])]
  exact if_pos hroom

/-- The node once a frame has been lost and its loss counted and told, but for what its mark brings about. -/
def lossTold (p : PortId) (s : State) : State :=
  let t := s.modPort p fun q => { q with dropped := satInc q.dropped }
  if (s.port p).dropHoldoff = none then
    enqueueNotice (t.noticeOf .queueDrop (portNumber p) (satInc (s.port p).dropped))
      (t.modPort p fun q => { q with dropHoldoff := some 1000 })
  else t

theorem dropFrame_eq (p : PortId) (e : LaneEntry) (s : State) :
    dropFrame p e s = laneFrameGone p e (lossTold p s) := by
  unfold dropFrame lossTold
  dsimp only
  rw [State.modPort_port_self]
  rfl

theorem lossTold_port (p : PortId) (s : State) :
    (lossTold p s).port p =
      { s.port p with
        dropped := satInc (s.port p).dropped
        dropHoldoff := some ((s.port p).dropHoldoff.getD 1000) } := by
  unfold lossTold
  dsimp only
  cases hholdoff : (s.port p).dropHoldoff with
  | none => simp [enqueueNotice_port]
  | some left =>
    rw [if_neg (by simp)]
    simp [hholdoff]

theorem lossTold_reset (p : PortId) (s : State) :
    (lossTold p s).req.resetDue = s.req.resetDue ∧ (lossTold p s).req.resetPending = s.req.resetPending := by
  unfold lossTold
  dsimp only
  split
  · obtain ⟨hdue, hpending⟩ := enqueueNotice_reset
      ((s.modPort p fun q => { q with dropped := satInc q.dropped }).noticeOf .queueDrop (portNumber p)
        (satInc (s.port p).dropped))
      ((s.modPort p fun q => { q with dropped := satInc q.dropped }).modPort p fun q =>
        { q with dropHoldoff := some 1000 })
    exact ⟨hdue.trans (by simp), hpending.trans (by simp)⟩
  · simp

theorem withoutReply_notices (e : LaneEntry) (s : State) : (s.withoutReply e).req.notices = s.req.notices := by
  unfold State.withoutReply
  split <;> rfl

theorem withoutReply_resetDue (e : LaneEntry) (s : State) :
    (s.withoutReply e).req.resetDue = true ↔
      s.req.resetDue = true ∨ (e.mark = .resetReply ∧ s.req.resetPending = true) := by
  unfold State.withoutReply
  split
  · next h => simp [h]
  · next h => simp [h]

theorem transmitEnds_eq {p : PortId} {e : LaneEntry} {s : State} (hsending : (s.port p).transmitter = some e)
    (hlink : (s.port p).link ≠ .test) :
    transmitEnds p s = pump p (laneFrameGone p e (s.modPort p fun q => { q with transmitter := none })) := by
  unfold transmitEnds
  rw [hsending]
  cases h : (s.port p).link with
  | test => exact absurd h hlink
  | _ => rfl

/-- Settles O14. -/
theorem transmittersAndDrops : Obligations.TransmittersAndDrops := by
  refine ⟨fun p e s hpower htransmitter => ?_, fun p e s hglitch => ?_, fun p s hpower => ?_, fun p e s => ?_⟩
  · dsimp only
    have hgone : (if e.mark = .resetReply ∧ s.req.resetPending = true then
        { s with req := { s.req with resetDue := true } } else s) = s.withoutReply e := rfl
    rw [hgone, ← Port.dueAfter_iff]
    let sent : State := (s.withoutReply e).modPort p fun q =>
      { q with transmitter := none, testDue := q.dueAfter e }
    have hexec : (s.port p).link ≠ .test → exec (.transmitEnd p) s = .next (finish (pump p sent)) := by
      intro hlink
      rw [show exec (.transmitEnd p) s = live (transmitEnds p) s from rfl, live_powered _ s hpower]
      rw [transmitEnds_eq htransmitter hlink, laneFrameGone_eq, State.withoutReply_modPort, State.modPort_modPort]
      rfl
    have hport : sent.port p = { s.port p with transmitter := none, testDue := (s.port p).dueAfter e } := by
      simp [sent]
    have hset : ∀ due, (s.port p).dueAfter e = due →
        sent = (s.withoutReply e).modPort p fun q => { q with transmitter := none, testDue := due } := by
      intro due hdue
      exact State.modPort_congr (by simp [hdue])
    refine ⟨fun hlink => ⟨fun hnot => ?_, fun hdue => ?_⟩, fun hlink => ⟨fun hdue => ?_, fun hnot => ?_⟩⟩
    · have hdue : (s.port p).dueAfter e = false := Bool.eq_false_iff.mpr hnot
      have hquiet : (s.port p).testDue = false := by
        rw [Bool.eq_false_iff]
        exact fun h => hnot ((Port.dueAfter_iff e _).mpr (.inl h))
      rw [hexec (by rcases hlink with h | h <;> simp [h]),
        pump_free (by simp [hport]) (by simpa [hport] using hlink) (by simp [hport, hdue]), hset false hdue,
        State.modPort_modPort]
      congr 2
      apply State.modPort_congr
      simp only [State.withoutReply_port]
      rw [← hquiet]
    · rw [hexec (by rcases hlink with h | h <;> simp [h]), pump_idle (.inl (by simp [hport, hdue])),
        hset true hdue]
    · rw [hexec (by simp [hlink]), pump_idle (.inl (by simp [hport, hdue])), hset true hdue]
    · rw [hexec (by simp [hlink]), pump_idle (.inr (by simp [hport, hlink])),
        hset false (Bool.eq_false_iff.mpr hnot)]
  · have hcarries : (s.port p).carries = true := by simp [Port.carries, hglitch]
    have hidle : ∀ f : Port → Port, (f (s.port p)).link = (s.port p).link →
        pump p (s.modPort p f) = s.modPort p f :=
      fun f hf => pump_idle (.inr (by simp [hf, hglitch]))
    have hkind : decide (e.frame.kind = 0x0B#8 ∨ e.frame.kind = 0x0C#8 ∨ e.frame.kind = 0x0D#8) =
        isNormalKind e.frame.kind := by
      rw [isNormalKind, Bool.or_assoc, Bool.decide_or, Bool.decide_or]
      rfl
    dsimp only
    rw [hkind]
    refine ⟨fun hurgent hroom => ?_, fun hnormal hroom => ?_⟩
    · rw [offer, if_pos (.inl hcarries), if_neg (by simp [hurgent]), joinUrgent_room p e s hroom, hidle _ rfl]
    · rw [offer, if_pos (.inl hcarries), if_pos hnormal, joinNormal,
        if_pos (show _ < Config.normalLaneSize from hroom), hidle _ rfl]
  · exact live_powered (dropHoldoffEnds p) s hpower
  · dsimp only
    have hport : (dropFrame p e s).port p =
        { (lossTold p s).port p with testDue := ((lossTold p s).port p).dueAfter e } := by
      rw [dropFrame_eq, laneFrameGone_eq]
      simp
    have hdue : ((lossTold p s).port p).dueAfter e = (s.port p).dueAfter e := by
      rw [lossTold_port]
      rfl
    obtain ⟨hresetDue, hresetPending⟩ := lossTold_reset p s
    have hreq : (dropFrame p e s).req = ((lossTold p s).withoutReply e).req := by
      rw [dropFrame_eq, laneFrameGone_eq, State.modPort_req]
    refine ⟨dropFrame_dropped p e s, dropFrame_port_other p e s, (dropFrame_egress p e s).consist, ?_, ?_,
      fun hnone => ?_, fun hhead hroom hnone => ?_, fun left hleft => ⟨?_, ?_⟩⟩
    · rw [hport, hdue]
      exact Port.dueAfter_iff e _
    · rw [hreq, withoutReply_resetDue, hresetDue, hresetPending]
    · rw [hport, lossTold_port, hnone]
      rfl
    · rw [hreq, withoutReply_notices, lossTold, if_pos hnone,
        enqueueNotice_waits (by simpa using hhead) (by simpa using hroom)]
      simp [State.noticeOf]
    · rw [hport, lossTold_port, hleft]
      rfl
    · rw [hreq, withoutReply_notices, lossTold, if_neg (by simp [hleft])]
      simp

end Sys2Proof.Machine
end

section
/-! Frames at a port by its link state (R3, R7, R24, R29, R35). -/

namespace Sys2Proof.Machine

open Sys2Proof

theorem modPort_countGood (p : PortId) (s : State) :
    (s.modPort p fun q =>
      { q with
        received := satInc q.received
        windowFrames := if 64 ≤ q.windowFrames + 1 then 0 else q.windowFrames + 1
        windowErrors := if 64 ≤ q.windowFrames + 1 then 0 else q.windowErrors }) =
      s.modPort p Port.countGood :=
  State.modPort_congr (Port.countGood_eq _).symm

section

variable {p : PortId} {f : Frame} {s : State} (hpasses : payloadPasses f = true)

include hpasses

theorem receive_up (hup : (s.port p).link = .up) : receive p f s = upFrame p f s := by
  unfold receive
  rw [hpasses, if_neg (by decide), hup]

theorem receive_settling (hsettling : (s.port p).link = .settling) : receive p f s = settlingFrame p f s := by
  unfold receive
  rw [hpasses, if_neg (by decide), hsettling]

/-- A frame that passes R3 is discarded in DOWN and GLITCH; in TEST one that is not TEST is (R3, R35). -/
theorem receive_discards
    (hlink : (s.port p).link = .down ∨ (s.port p).link = .glitch
      ∨ ((s.port p).link = .test ∧ f.kind ≠ Config.kindTest)) : receive p f s = s := by
  unfold receive
  rw [hpasses, if_neg (by decide)]
  rcases hlink with h | h | ⟨h, hkind⟩
  · rw [h]
  · rw [h]
  · rw [h]
    exact if_neg hkind

/-- In UP a frame that is neither HELLO nor TEST goes to the Relay Unit, and elsewhere nowhere (R3, R7). -/
theorem receive_relayed (hhello : f.kind ≠ Config.kindHello) (htest : f.kind ≠ Config.kindTest) :
    ((s.port p).link = .up → receive p f s = relayFrame p f (s.modPort p Port.countGood))
      ∧ ((s.port p).link ≠ .up → receive p f s = s) := by
  refine ⟨fun hup => ?_, fun hlink => ?_⟩
  · rw [receive_up hpasses hup, upFrame]
    rw [if_neg hhello, if_neg htest]
  · cases h : (s.port p).link with
    | up => exact absurd h hlink
    | settling => rw [receive_settling hpasses h, settlingFrame, if_neg hhello]
    | down => exact receive_discards hpasses (.inl h)
    | glitch => exact receive_discards hpasses (.inr (.inl h))
    | test => exact receive_discards hpasses (.inr (.inr ⟨h, htest⟩))

end

theorem payloadPasses_of_kind {f : Frame} (hlen : f.payload.length ≤ 720) (hkind : f.kind ≠ 0x02#8) :
    payloadPasses f = true := (payloadPasses_iff f).mpr ⟨hlen, fun h => hkind h.1⟩

/-- What every HELLO payload that reads says of its bytes (R24). -/
theorem readHello_bytes {payload : List Byte} {who : Neighbour} {v : HelloVariant}
    (h : readHello payload = some (who, v)) :
    payload.length = 11 ∧ (payload.getD 6 0#8 = 1#8 ∨ payload.getD 6 0#8 = 2#8)
      ∧ (payload.getD 8 0#8).toNat ≤ 3
      ∧ (payload.getD 8 0#8 = 1#8 →
          16 ≤ num16 (payload.getD 9 0#8) (payload.getD 10 0#8)
            ∧ num16 (payload.getD 9 0#8) (payload.getD 10 0#8) ≤ 4096)
      ∧ ∀ i, payload.take 6 = idBytes i → who.identity = i := by
  unfold readHello at h
  split at h
  case h_1 a b c d e f sending generation variant hi lo =>
    split at h
    case h_1 => simp at h
    case h_2 farEnd hend =>
      have hsending : sending = 1#8 ∨ sending = 2#8 := by
        unfold endOf at hend
        split at hend
        · next h1 => exact .inl h1
        · split at hend
          · next h2 => exact .inr h2
          · simp at hend
      have hidentity : ∀ i, [a, b, c, d, e, f] = idBytes i → idOf a b c d e f = i := by
        intro i hi
        simp only [idBytes, List.cons.injEq, and_true] at hi
        obtain ⟨rfl, rfl, rfl, rfl, rfl, rfl⟩ := hi
        exact idOf_idBytes i
      dsimp only at h
      refine ⟨rfl, hsending, ?_⟩
      change variant.toNat ≤ 3 ∧ (variant = 1#8 → 16 ≤ num16 hi lo ∧ num16 hi lo ≤ 4096) ∧
        ∀ i, [a, b, c, d, e, f] = idBytes i → who.identity = i
      by_cases h0 : variant = 0#8
      · rw [if_pos h0] at h
        obtain ⟨rfl, -⟩ := Prod.mk.inj (Option.some.inj h)
        exact ⟨by rw [h0]; decide, fun h1 => absurd (h0.symm.trans h1) (by decide), hidentity⟩
      rw [if_neg h0] at h
      by_cases h1 : variant = 1#8
      · rw [if_pos h1] at h
        split at h
        · next hrange =>
          obtain ⟨rfl, -⟩ := Prod.mk.inj (Option.some.inj h)
          exact ⟨by rw [h1]; decide, fun _ => hrange, hidentity⟩
        · simp at h
      rw [if_neg h1] at h
      by_cases h2 : variant = 2#8
      · rw [if_pos h2] at h
        obtain ⟨rfl, -⟩ := Prod.mk.inj (Option.some.inj h)
        exact ⟨by rw [h2]; decide, fun h => absurd h h1, hidentity⟩
      rw [if_neg h2] at h
      by_cases h3 : variant = 3#8
      · rw [if_pos h3] at h
        obtain ⟨rfl, -⟩ := Prod.mk.inj (Option.some.inj h)
        exact ⟨by rw [h3]; decide, fun h => absurd h h1, hidentity⟩
      rw [if_neg h3] at h
      simp at h
  case h_2 => simp at h

/-- A HELLO that R24 does not find valid. -/
theorem validHello_invalid {h : Header} {payload : List Byte} {s : State}
    (hinvalid : payload.length ≠ 11 ∨ (payload.getD 6 0#8 ≠ 1#8 ∧ payload.getD 6 0#8 ≠ 2#8)
      ∨ 3 < (payload.getD 8 0#8).toNat
      ∨ (payload.getD 8 0#8 = 1#8
          ∧ (256 * (payload.getD 9 0#8).toNat + (payload.getD 10 0#8).toNat < 16
            ∨ 4096 < 256 * (payload.getD 9 0#8).toNat + (payload.getD 10 0#8).toNat))
      ∨ h.destination ≠ 0#8 ∨ h.flags.getLsbD 0 = false ∨ payload.take 6 = idBytes s.identity) :
    validHello { kind := Config.kindHello, header := h, payload := payload } s = none := by
  unfold validHello
  dsimp only
  split
  · next who v hread =>
    obtain ⟨hlen, hend, hvariant, hframes, hidentity⟩ := readHello_bytes hread
    refine if_neg fun hok => ?_
    simp only [helloHeaderOk, Bool.and_eq_true, decide_eq_true_eq] at hok
    obtain ⟨⟨hdestination, hflag⟩, hother⟩ := hok
    rcases hinvalid with h | ⟨h1, h2⟩ | h | ⟨h1, h⟩ | h | h | h
    · exact h hlen
    · exact hend.elim h1 h2
    · omega
    · obtain ⟨hlow, hhigh⟩ := hframes h1
      unfold num16 at hlow hhigh
      omega
    · exact h hdestination
    · exact absurd (h.symm.trans hflag) (by decide)
    · exact hother (hidentity _ h)
  · rfl

theorem countErrored_below {p : PortId} {s : State} (h : (s.port p).windowErrors < 7) :
    countErrored p s = s.modPort p fun q =>
      { q with
        received := satInc q.received, errored := satInc q.errored
        windowFrames := if 64 ≤ q.windowFrames + 1 then 0 else q.windowFrames + 1
        windowErrors := if 64 ≤ q.windowFrames + 1 then 0 else q.windowErrors + 1 } := by
  unfold countErrored
  dsimp only
  rw [State.modPort_port_self]
  dsimp only
  rw [if_neg (by omega)]
  by_cases hfull : 64 ≤ (s.port p).windowFrames + 1
  · rw [if_pos hfull, State.modPort_modPort]
    exact State.modPort_congr (by simp [hfull])
  · rw [if_neg hfull]
    exact State.modPort_congr (by simp [hfull])

/-- Settles O16. -/
theorem framesAreCountedAtThePort : Obligations.FramesAreCountedAtThePort := by
  refine ⟨fun p h payload s hpower hlen => ?_, fun p s hpower => ?_⟩
  · dsimp only
    rw [modPort_countGood]
    have hlive : ∀ f : State → State, live f s = .next (finish (f s)) := fun f => live_powered f s hpower
    have relayed : ∀ kind : Byte, kind ≠ 0x01#8 → kind ≠ 0x02#8 →
        ((s.port p).link = .up → live (receive p { kind := kind, header := h, payload := payload }) s =
            .next (finish (relayFrame p { kind := kind, header := h, payload := payload }
              (s.modPort p Port.countGood))))
          ∧ ((s.port p).link ≠ .up →
              live (receive p { kind := kind, header := h, payload := payload }) s = .next (finish s)) := by
      intro kind h1 h2
      obtain ⟨hup, hnot⟩ := receive_relayed (p := p) (s := s)
        (payloadPasses_of_kind (f := { kind := kind, header := h, payload := payload }) hlen h2) h1 h2
      exact ⟨fun hlink => by rw [hlive, hup hlink], fun hlink => by rw [hlive, hnot hlink]⟩
    refine ⟨fun r hr => ?_, fun kind hkind h1 h2 => ?_, fun i hi => ?_, fun heven => ⟨fun hup => ?_, fun hup htest => ?_⟩⟩
    · simp only [List.mem_cons, List.not_mem_nil, or_false] at hr
      rcases hr with rfl | rfl | rfl | rfl | rfl | rfl | rfl | rfl | rfl | rfl | rfl <;>
        exact relayed _ (by decide) (by decide)
    · obtain ⟨hup, hnot⟩ := relayed kind h1 h2
      refine ⟨fun hlink => (hup hlink).trans ?_, hnot⟩
      have hunknown : headerOk { kind := kind, header := h, payload := payload } = false := by
        have hnone : decide (kind ∈ relayKinds) = false := decide_eq_false hkind
        simp [headerOk, hnone]
      rw [relayFrame, hunknown]
      rfl
    · have hrow : exec i s = .next (finish
          (receive p { kind := Config.kindHello, header := h, payload := payload } s)) := by
        simp only [List.mem_cons, List.not_mem_nil, or_false] at hi
        rcases hi with rfl | rfl | rfl | rfl <;> exact hlive _
      rw [hrow]
      have hpasses := payloadPasses_hello h hlen
      refine ⟨fun hlink => ?_, fun hinvalid hup => ?_, fun hinvalid hsettling => ?_⟩
      · rw [receive_discards hpasses]
        exact hlink.imp_right fun h => h.imp_right fun h => ⟨h, show Config.kindHello ≠ Config.kindTest by decide⟩
      · rw [receive_up hpasses hup, upFrame]
        dsimp only
        rw [if_pos rfl, validHello_invalid (by simpa using hinvalid)]
      · rw [receive_settling hpasses hsettling, settlingFrame, if_pos rfl, validHello_invalid hinvalid]
    · have hpasses : payloadPasses { kind := Config.kindTest, header := h, payload := payload } = true :=
        (payloadPasses_iff _).mpr ⟨hlen, fun hodd => by simp [heven] at hodd⟩
      rw [show exec (.test p h payload) s =
        live (receive p { kind := Config.kindTest, header := h, payload := payload }) s from rfl, hlive,
        receive_up hpasses hup, upFrame]
      rfl
    · have hpasses : payloadPasses { kind := Config.kindTest, header := h, payload := payload } = true :=
        (payloadPasses_iff _).mpr ⟨hlen, fun hodd => by simp [heven] at hodd⟩
      rw [show exec (.test p h payload) s =
        live (receive p { kind := Config.kindTest, header := h, payload := payload }) s from rfl, hlive]
      cases hlink : (s.port p).link with
      | up => exact absurd hlink hup
      | test => exact absurd hlink htest
      | settling =>
        rw [receive_settling hpasses hlink]
        rfl
      | down => rw [receive_discards hpasses (.inl hlink)]
      | glitch => rw [receive_discards hpasses (.inr (.inl hlink))]
  · have hexec : exec (.frameErrored p) s = .next (finish (erroredFrame p s)) := live_powered _ s hpower
    rw [hexec]
    unfold erroredFrame
    refine ⟨fun hup hbelow => ?_, fun hsettling => ?_, fun r htest hrun => ?_, fun hdeaf => ?_⟩
    · rw [hup]
      dsimp only
      rw [countErrored_below hbelow]
    · rw [hsettling]
    · rw [htest]
      dsimp only
      congr 2
      exact State.modPort_congr (by simp [hrun])
    · rcases hdeaf with h | h <;> rw [h]

end Sys2Proof.Machine
end

section
/-! The link test (R35, R36). -/

namespace Sys2Proof.Machine

open Sys2Proof

/-! ## What a TEST frame counts as (R35) -/

theorem eq_testPayload_of_readTest {payload : List Byte} {i : Nat} (h : readTest payload = some i) :
    payload = testPayload i := by
  unfold readTest at h
  split at h
  · next hi lo pattern =>
    split at h
    · next hpattern =>
      obtain rfl := Option.some.inj h
      rw [testPayload, be16_num16, hpattern]
      rfl
    · simp at h
  · simp at h

theorem readTest_other {payload : List Byte} (h : ∀ i, payload ≠ testPayload i) : readTest payload = none := by
  cases hread : readTest payload with
  | none => rfl
  | some i => exact absurd (eq_testPayload_of_readTest hread) (h i)

theorem TestRun.count_received {r : TestRun} {i : Nat} (hword : i < 65536) (hbelow : i < r.frames)
    (habove : ∀ l, r.last = some l → l < i) :
    r.count (testPayload i) = { r with received := r.received + 1, last := some i } := by
  unfold TestRun.count
  rw [readTest_testPayload hword]
  cases hlast : r.last with
  | none => simp [hbelow]
  | some l => simp [hbelow, habove l hlast]

theorem TestRun.count_repeated {r : TestRun} {i : Nat} (hword : i < 65536)
    (h : r.frames ≤ i ∨ ¬∀ l, r.last = some l → l < i) :
    r.count (testPayload i) = { r with errored := r.errored + 1 } := by
  unfold TestRun.count
  rw [readTest_testPayload hword]
  cases hlast : r.last with
  | none =>
    rcases h with h | h
    · simp [Nat.not_lt.mpr h]
    · simp [hlast] at h
  | some l =>
    have hnot : ¬(i < r.frames ∧ l < i) := by
      rintro ⟨hbelow, habove⟩
      rcases h with h | h
      · omega
      · exact h fun k hk => by rwa [← Option.some.inj (hlast.symm.trans hk)]
    rw [not_and_or] at hnot
    rcases hnot with h | h <;> simp [h]

theorem TestRun.count_other {r : TestRun} {payload : List Byte} (h : ∀ i, payload ≠ testPayload i) :
    r.count payload = { r with errored := r.errored + 1 } := by
  unfold TestRun.count
  rw [readTest_other h]

/-! ## How a test goes on and ends (R36) -/

theorem TestRun.complete_iff (r : TestRun) :
    r.complete = true ↔ r.sent = r.frames ∧ r.last = some (r.frames - 1) ∧ 0 < r.frames := by
  simp [TestRun.complete, and_assoc]

theorem continueTest_runs {p : PortId} {r : TestRun} {s : State}
    (h : ¬(r.sent = r.frames ∧ r.last = some (r.frames - 1))) :
    continueTest p r s = s.modPort p fun q => { q with run := some r } := by
  unfold continueTest
  exact if_neg fun hcomplete => h ⟨((TestRun.complete_iff r).mp hcomplete).1, ((TestRun.complete_iff r).mp hcomplete).2.1⟩

theorem continueTest_ends {p : PortId} {r : TestRun} {s : State} (hsent : r.sent = r.frames)
    (hlast : r.last = some (r.frames - 1)) (hframes : 0 < r.frames) :
    continueTest p r s =
      evalClaims (testFalls p r .complete .testEnd (s.modPort p fun q => { q with run := some r })) := by
  unfold continueTest
  exact if_pos ((TestRun.complete_iff r).mpr ⟨hsent, hlast, hframes⟩)

/-- A port that leaves TEST: DOWN with its reason, the drop interval and the result record (R22, R36). -/
theorem testFalls_port (p : PortId) (r : TestRun) (outcome : TestOutcome) (reason : DownReason) (s : State) :
    ((testFalls p r outcome reason s).port p).link = .down
      ∧ ((testFalls p r outcome reason s).port p).lastDown = reason
      ∧ ((testFalls p r outcome reason s).port p).dropInterval = some 200
      ∧ ((testFalls p r outcome reason s).port p).run = none
      ∧ (testFalls p r outcome reason s).consist = s.consist
      ∧ ((testFalls p r outcome reason s).port p).result = some (r.result outcome) := by
  obtain ⟨hlink, -, -, -, -, hrun, -, -, hinterval, -⟩ := enterDown_port p false s
  unfold testFalls
  rw [State.modPort_port_self, State.modPort_consist]
  refine ⟨hlink, rfl, hinterval, hrun, ?_, rfl⟩
  exact (loseEgress_egress p _).consist.trans (State.modPort_consist _ _ _)

theorem buildFrame_test (s : State) (i : Nat) :
    buildFrame s Config.kindTest 0#8 0#8 (testPayload i) =
      { kind := 0x02#8
        header := { generation := s.consist.generation, flags := 0#8, destination := 0#8
                    source := s.sourcePosition, tag := 0#8 }
        payload := testPayload i } := rfl

section

variable {p : PortId} {r : TestRun} {s : State} (hrun : (s.port p).run = some r)

include hrun

/-- An own frame has been sent and others remain: the next one follows it (R35). -/
theorem testSent_more (h : r.sent + 1 < r.frames) :
    testSent p s = s.modPort p fun q =>
      { q with
        run := some { r with sent := r.sent + 1, quiet := none }
        transmitter := some
          { frame := buildFrame s Config.kindTest 0#8 0#8 (testPayload (r.sent + 1)), mark := .plain } } := by
  unfold testSent
  rw [hrun]
  dsimp only
  rw [if_pos (by omega), if_neg (by omega), continueTest_runs fun hall => Nat.ne_of_lt h hall.1, startTestFrame,
    State.modPort_modPort]
  dsimp only
  rw [if_pos h]

/-- The last own frame has been sent: nothing follows it, and the quiet time starts (R35). -/
theorem testSent_last (h : r.sent + 1 = r.frames) :
    testSent p s =
      continueTest p { r with sent := r.sent + 1, quiet := some 200 }
        (s.modPort p fun q => { q with transmitter := none }) := by
  unfold testSent
  rw [hrun]
  dsimp only
  rw [if_pos (by omega), if_pos h, startTestFrame]
  dsimp only
  rw [if_neg (by omega)]
  rfl

/-- A TEST frame that arrives in TEST is counted, and a running quiet time starts afresh (R35, R36). -/
theorem receive_test (hlink : (s.port p).link = .test) (h : Header) {payload : List Byte}
    (hlen : payload.length ≤ 720) (heven : payload.length % 2 = 0) :
    receive p { kind := Config.kindTest, header := h, payload := payload } s =
      continueTest p { r.count payload with quiet := (r.count payload).quiet.map fun _ => 200 } s := by
  have hpasses : payloadPasses { kind := Config.kindTest, header := h, payload := payload } = true :=
    (payloadPasses_iff _).mpr ⟨hlen, fun hodd => by simp [heven] at hodd⟩
  unfold receive
  rw [hpasses, if_neg (by decide), hlink]
  dsimp only
  rw [if_pos rfl, testArrives, hrun]
  rfl

end

theorem testPayload_length (i : Nat) : (testPayload i).length = 64 := rfl

/-- Settles O13. -/
theorem linkTestCountsAndFinishes : Obligations.LinkTestCountsAndFinishes := by
  intro p r h s hpower hlink hrun hframes
  dsimp only
  have hlive : ∀ f : State → State, live f s = .next (finish (f s)) := fun f => live_powered f s hpower
  have hfinished : ∀ (c : Instr) (f : State → State) (r' r'' : TestRun) (outcome : TestOutcome) (u : State),
      exec c s = live f s → f s = evalClaims (testFalls p r' outcome .testEnd u) → u.consist = s.consist →
      r'.result outcome = r''.result outcome →
      ∃ t, exec c s = .next (finish (evalClaims t)) ∧ (t.port p).link = .down
        ∧ (t.port p).lastDown = .testEnd ∧ (t.port p).dropInterval = some 200
        ∧ (t.port p).run = none ∧ t.consist = s.consist
        ∧ (t.port p).result = some { frames := r''.frames, sent := r''.sent, received := r''.received
                                     errored := r''.errored, missing := r''.frames - r''.received
                                     outcome := outcome } := by
    intro c f r' r'' outcome u hexec hf hconsist hresult
    obtain ⟨h1, h2, h3, h4, h5, h6⟩ := testFalls_port p r' outcome .testEnd u
    exact ⟨_, (hexec.trans (hlive f)).trans (by rw [hf]), h1, h2, h3, h4, h5.trans hconsist,
      h6.trans (by rw [hresult]; rfl)⟩
  have harrives : ∀ payload : List Byte, payload.length ≤ 720 → payload.length % 2 = 0 →
      exec (.test p h payload) s = .next (finish
        (continueTest p { r.count payload with quiet := (r.count payload).quiet.map fun _ => 200 } s)) := by
    intro payload hlen heven
    rw [← receive_test hrun hlink h hlen heven, ← hlive]
    rfl
  have hexact : ∀ i, (testPayload i).length ≤ 720 ∧ (testPayload i).length % 2 = 0 := fun i =>
    ⟨by rw [testPayload_length]; decide, by rw [testPayload_length]⟩
  refine ⟨fun hmore => ?_, fun hlast hnot => ?_, fun hlast hheard => ?_, fun i hbelow hword habove =>
    ⟨fun hopen => ?_, fun hall htop => ?_⟩, fun hopen => ⟨fun payload hlen heven hother => ?_,
      fun i hword hrepeat => ?_⟩, fun hquiet => ?_, ?_⟩
  · rw [show exec (.testFrameSent p) s = live (testSent p) s from rfl, hlive, testSent_more hrun hmore,
      buildFrame_test]
  · rw [show exec (.testFrameSent p) s = live (testSent p) s from rfl, hlive, testSent_last hrun hlast,
      continueTest_runs, State.modPort_modPort]
    exact fun hc => hnot hc.2
  · exact hfinished _ (testSent p) _ _ .complete _ rfl
      ((testSent_last hrun hlast).trans (continueTest_ends hlast hheard hframes)) (by simp) rfl
  · obtain ⟨hlen, heven⟩ := hexact i
    rw [harrives _ hlen heven, TestRun.count_received hword hbelow habove, continueTest_runs]
    rintro ⟨hall, htop⟩
    have := Option.some.inj htop
    dsimp only at hall this
    omega
  · obtain ⟨hlen, heven⟩ := hexact i
    have hends := receive_test hrun hlink h hlen heven
    have hlast : some i = some (r.frames - 1) := congrArg some (by omega)
    rw [TestRun.count_received hword hbelow habove] at hends
    exact hfinished _ _ _ _ .complete _ rfl (hends.trans (continueTest_ends hall hlast hframes)) (by simp) rfl
  · rw [harrives _ hlen heven, TestRun.count_other hother, continueTest_runs]
    exact not_and_or.mpr hopen
  · obtain ⟨hlen, heven⟩ := hexact i
    rw [harrives _ hlen heven, TestRun.count_repeated hword hrepeat, continueTest_runs]
    exact not_and_or.mpr hopen
  · refine hfinished _ (testQuietEnds p) r r .complete s rfl ?_ rfl rfl
    unfold testQuietEnds
    rw [hrun]
    exact if_pos (Option.isSome_iff_ne_none.mpr hquiet)
  · refine hfinished _ (loseLock p) r r _ (s.modPort p fun q => { q with signal := false }) rfl ?_ (by simp) rfl
    unfold loseLock
    dsimp only
    rw [State.modPort_port_self]
    dsimp only
    rw [hlink, testLoses, State.modPort_port_self]
    dsimp only
    rw [hrun]
    rfl

end Sys2Proof.Machine
end

section
/-! Port down events and what a port event tells (R27 to R30, R40 to R42). -/

namespace Sys2Proof.Machine

open Sys2Proof

/-! ## Many frames lost (R17, R18) -/

theorem dropFrame_testDue {p : PortId} {s : State} (e : LaneEntry) (hdue : (s.port p).testDue = false)
    (hoffer : (s.port p).offer = .none) : ((dropFrame p e s).port p).testDue = false := by
  rw [dropFrame_eq, laneFrameGone_eq, State.modPort_port_self, State.withoutReply_port, lossTold_port]
  dsimp only
  rw [Bool.eq_false_iff, ne_eq, Port.dueAfter_iff]
  simp [hdue, hoffer]

theorem dropFrame_offer (p : PortId) (e : LaneEntry) (s : State) :
    ((dropFrame p e s).port p).offer = (s.port p).offer :=
  Port.field_of_linkSide Port.offer (fun _ => rfl) ((dropFrame_egress p e s).2 p)

theorem dropFrames_testDue {p : PortId} (es : List LaneEntry) {s : State} (hdue : (s.port p).testDue = false)
    (hoffer : (s.port p).offer = .none) : ((dropFrames p es s).port p).testDue = false := by
  induction es generalizing s with
  | nil => exact hdue
  | cons e rest ih => exact ih (dropFrame_testDue e hdue hoffer) ((dropFrame_offer p e s).trans hoffer)

theorem dropFrames_dropped {p : PortId} (es : List LaneEntry) {s : State} (h : (s.port p).dropped ≤ 65535) :
    ((dropFrames p es s).port p).dropped = min 65535 ((s.port p).dropped + es.length) := by
  induction es generalizing s with
  | nil => exact (Nat.min_eq_right h).symm
  | cons e rest ih =>
    have hone := dropFrame_dropped p e s
    unfold satInc at hone
    change ((dropFrames p rest (dropFrame p e s)).port p).dropped = _
    rw [ih (by omega), hone, List.length_cons]
    omega

/-! ## A port falls (R17, R22, R30, R32) -/

/-- The link test result of a port that falls: a pending offer has ended ABORTED (R32). -/
def Port.fallenResult (q : Port) : Option TestResult :=
  match q.offer with
  | .pending n _ => some (TestResult.unrun n .aborted)
  | _ => q.result

theorem Port.endOffer_eq (q : Port) :
    q.endOffer = { q with offer := .none, testDue := false, result := q.fallenResult } := by
  obtain ⟨_, _, _, _, _, _, _, _, _, _, _, _, offer, _⟩ := q
  cases offer <;> rfl

/-- What a port that falls keeps and loses, but for its frames (R17, R22, R30). -/
def Port.down (reason : DownReason) (holdoff : Bool) (q : Port) : Port :=
  { q with
    link := .down
    lastDown := reason
    dropInterval := some (if holdoff then 5000 else 200)
    contactHoldoff := if holdoff then some 5000 else q.contactHoldoff
    settle := Settle.cleared
    neighbour := none
    silence := none
    helloTimer := none
    glitchTimer := none
    run := none
    offer := .none
    testDue := false
    result := q.fallenResult }

theorem Port.fallen_eq (reason : DownReason) (holdoff : Bool) (q : Port) :
    Port.fallen holdoff { q with lastDown := reason } = q.down reason holdoff := by
  unfold Port.fallen
  rw [Port.endOffer_eq]
  rfl

theorem portFalls_eq (p : PortId) (reason : DownReason) (holdoff : Bool) (s : State) :
    portFalls p reason holdoff s = forwardNotices (loseEgress p (s.modPort p (Port.down reason holdoff))) := by
  unfold portFalls enterDown
  rw [State.modPort_modPort]
  simp only [Port.fallen_eq]

/-- What a port that has fallen holds: the link side of a port in DOWN, and nothing of its frames but their
count. -/
theorem portFalls_port (p : PortId) (reason : DownReason) (holdoff : Bool) {s : State}
    (hdropped : (s.port p).dropped ≤ 65535) :
    let q := (portFalls p reason holdoff s).port p
    q.linkSide = ((s.port p).down reason holdoff).linkSide
      ∧ q.urgent = [] ∧ q.normal = [] ∧ q.transmitter = none ∧ q.testDue = false
      ∧ q.dropped = min 65535 ((s.port p).dropped + (s.port p).urgent.length + (s.port p).normal.length
          + (s.port p).transmitter.toList.length) := by
  let fallen : State := s.modPort p (Port.down reason holdoff)
  obtain ⟨hnoUrgent, hnoNormal, hnoTransmitter, -, hside⟩ := loseEgress_port p fallen
  have hlink : ((loseEgress p fallen).port p).link = .down :=
    (Port.field_of_linkSide Port.link (fun _ => rfl) hside).trans (by simp [fallen, Port.down])
  have hport : (portFalls p reason holdoff s).port p = (loseEgress p fallen).port p := by
    rw [portFalls_eq, forwardNotices_port_deaf]
    simp [Port.carries, hlink, fallen]
  dsimp only
  rw [hport]
  refine ⟨hside.trans (by simp [fallen]), hnoUrgent, hnoNormal, hnoTransmitter, ?_, ?_⟩
  · unfold loseEgress
    exact dropFrames_testDue _ (by simp [fallen, Port.down]) (by simp [fallen, Port.down])
  · unfold loseEgress
    dsimp only
    rw [dropFrames_dropped _ (by simpa [fallen, Port.down] using hdropped)]
    simp [fallen, Port.down, Nat.add_assoc]

theorem portFalls_egress (p : PortId) (reason : DownReason) (holdoff : Bool) (s : State) :
    EgressOnly (s.modPort p (Port.down reason holdoff)) (portFalls p reason holdoff s) := by
  rw [portFalls_eq]
  exact (loseEgress_egress p _).trans (forwardNotices_egress _)

/-! ## The commands that take a port down -/

/-- Every HELLO command is the receipt of its frame, whatever its variant byte. -/
theorem exec_helloCommand (p : PortId) (h : Header) (payload : List Byte) (s : State) :
    exec (helloCommand p h payload) s =
      live (receive p { kind := Config.kindHello, header := h, payload := payload }) s := by
  unfold helloCommand
  split <;> rfl

theorem supervise_other {p : PortId} {who old : Neighbour} {v : HelloVariant} {s : State}
    (hold : (s.port p).neighbour = some old)
    (hdiffers : old.identity ≠ who.identity ∨ old.farEnd ≠ who.farEnd) :
    supervise p who v s = portDown p .neighbourChanged false s := by
  unfold supervise
  rw [hold]
  exact if_neg fun ⟨hidentity, hend⟩ => hdiffers.elim (fun h => h hidentity) (fun h => h hend)

/-- A port that has counted an errored frame (R19, R29). -/
def Port.countBad (q : Port) : Port :=
  { q with
    received := satInc q.received, errored := satInc q.errored
    windowFrames := q.windowFrames + 1, windowErrors := q.windowErrors + 1 }

theorem countErrored_eighth {p : PortId} {s : State} (h : (s.port p).windowErrors = 7) :
    countErrored p s = portDown p .contact true (s.modPort p Port.countBad) := by
  unfold countErrored
  dsimp only
  rw [State.modPort_port_self]
  exact if_pos (by dsimp only; omega)

/-! ## What a port event tells (R40 to R42; assumption 8) -/

theorem tellPortEvent_same {s : State} (h : claimStatusNow s = .valid ↔ s.consist.status = .valid) :
    tellPortEvent s = originateChange (evalClaims s) := by
  unfold tellPortEvent
  refine if_neg ?_
  simp [validityChanges, h]

theorem tellPortEvent_changes {s : State} (h : ¬(claimStatusNow s = .valid ↔ s.consist.status = .valid)) :
    tellPortEvent s = evalClaims (originateChange s.drawFree)
      ∨ tellPortEvent s = originateChange (evalClaims s.drawFree) := by
  unfold tellPortEvent
  rw [if_pos (by simp [validityChanges, h])]
  dsimp only
  split
  · exact .inl rfl
  · exact .inr rfl

/-- Settles O10. -/
theorem portDownEvents : Obligations.PortDownEvents := by
  refine ⟨fun p s hpower => ?_, fun s => ⟨tellPortEvent_same, tellPortEvent_changes⟩⟩
  dsimp only
  intro hdropped
  have hlive : ∀ f : State → State, live f s = .next (finish (f s)) := fun f => live_powered f s hpower
  have falls : ∀ (reason : DownReason) (holdoff : Bool) (u : State) (outcome : Host.Outcome State Fault Refusal),
      outcome = .next (finish (portDown p reason holdoff u)) → SameCore s u →
      (u.port p).contactHoldoff = (s.port p).contactHoldoff → (u.port p).dropped = (s.port p).dropped →
      (u.port p).urgent = (s.port p).urgent → (u.port p).normal = (s.port p).normal →
      (u.port p).transmitter = (s.port p).transmitter → (u.port p).offer = (s.port p).offer →
      (u.port p).result = (s.port p).result → u.port p.other = s.port p.other →
      ∃ t, outcome = .next (finish (raise .portDown (portNumber p) (downCode reason).toNat (tellPortEvent t)))
        ∧ (t.port p).link = .down ∧ (t.port p).lastDown = reason ∧ (t.port p).neighbour = none
        ∧ (t.port p).silence = none ∧ (t.port p).helloTimer = none
        ∧ (t.port p).dropInterval = some (if holdoff then 5000 else 200)
        ∧ (t.port p).contactHoldoff = (if holdoff then some 5000 else (s.port p).contactHoldoff)
        ∧ (t.port p).urgent = [] ∧ (t.port p).normal = [] ∧ (t.port p).transmitter = none
        ∧ (t.port p).dropped =
            min 65535
              ((s.port p).dropped + (s.port p).urgent.length + (s.port p).normal.length
                + (s.port p).transmitter.toList.length)
        ∧ (t.port p).offer = .none ∧ (t.port p).testDue = false
        ∧ (t.port p).result = (s.port p).fallenResult
        ∧ (t.port p.other).linkSide = (s.port p.other).linkSide ∧ t.consist = s.consist
        ∧ t.sweep = s.sweep ∧ t.door = s.door ∧ t.heat = s.heat ∧ t.store = s.store := by
    intro reason holdoff u outcome houtcome hcore hholdoff hcount hurgent hnormal htransmitter hoffer hresult hother
    obtain ⟨hside, hnoUrgent, hnoNormal, hnoTransmitter, hdue, htotal⟩ :=
      portFalls_port p reason holdoff (s := u) (by rw [hcount]; exact hdropped)
    have hegress := portFalls_egress p reason holdoff u
    obtain ⟨-, -, -, hconsist, hsweep, hdoor, hheat, hstore, -⟩ :=
      hcore.trans ((State.modPort_sameCore p (Port.down reason holdoff) u).trans hegress.1)
    have field : ∀ {α : Type} (g : Port → α), (∀ q : Port, g q.linkSide = g q) →
        g ((portFalls p reason holdoff u).port p) = g ((u.port p).down reason holdoff) :=
      fun g hg => Port.field_of_linkSide g hg hside
    refine ⟨portFalls p reason holdoff u, houtcome, field Port.link fun _ => rfl, field Port.lastDown fun _ => rfl,
      field Port.neighbour fun _ => rfl, field Port.silence fun _ => rfl, field Port.helloTimer fun _ => rfl,
      field Port.dropInterval fun _ => rfl, ?_, hnoUrgent, hnoNormal, hnoTransmitter, ?_,
      field Port.offer fun _ => rfl, hdue, ?_, ?_, hconsist, hsweep, hdoor, hheat, hstore⟩
    · rw [← hholdoff]
      exact field Port.contactHoldoff fun _ => rfl
    · rw [htotal, hcount, hurgent, hnormal, htransmitter]
    · refine (field Port.result fun _ => rfl).trans ?_
      change (u.port p).fallenResult = _
      unfold Port.fallenResult
      rw [hoffer, hresult]
    · rw [hegress.2 p.other, State.modPort_port_other, hother]
  refine ⟨fun hsilence hlink => ?_, fun hglitch => ?_, fun hup herrors => ?_,
    fun h old who v hup hdestination hflag hidentity hframes hold hdiffers => ?_⟩
  · refine falls .silent false s _ ((hlive (silenceEnds p)).trans ?_) (SameCore.refl s) rfl rfl rfl rfl rfl rfl rfl rfl
    have hcarries : (s.port p).carries = true := by rcases hlink with h | h <;> simp [Port.carries, h]
    rw [silenceEnds, hcarries, Option.isSome_iff_ne_none.mpr hsilence]
    rfl
  · refine falls .uncoupled false s _ ((hlive (glitchEnds p)).trans ?_) (SameCore.refl s) rfl rfl rfl rfl rfl rfl rfl rfl
    rw [glitchEnds, decide_eq_true hglitch]
    rfl
  · refine falls .contact true (s.modPort p Port.countBad) _ ((hlive (erroredFrame p)).trans ?_)
      (State.modPort_sameCore p _ s) ?_ ?_ ?_ ?_ ?_ ?_ ?_ ?_
    · rw [erroredFrame, hup]
      dsimp only
      rw [countErrored_eighth herrors]
    all_goals simp [Port.countBad]
  · rw [exec_helloCommand]
    refine falls .neighbourChanged false (s.modPort p Port.countGood) _ ((hlive _).trans ?_)
      (State.modPort_sameCore p _ s) ?_ ?_ ?_ ?_ ?_ ?_ ?_ ?_
    · rw [receive_hello_up hup hframes hdestination hflag hidentity,
        supervise_other (by simpa using hold) hdiffers]
    all_goals simp

end Sys2Proof.Machine
end

section
/-! A valid HELLO: supervision, link test offers, and the settle progress (R25 to R27, R33). -/

namespace Sys2Proof.Machine

open Sys2Proof

theorem State.modPort_sourcePosition (p : PortId) (f : Port → Port) (s : State) :
    (s.modPort p f).sourcePosition = s.sourcePosition := by cases p <;> rfl

/-- What a port takes of an entry depends on its link state and its urgent lane alone. -/
theorem JoinsLane.of_lane {p : PortId} {e : LaneEntry} {s s' t : State} (h : JoinsLane p e s' t)
    (hcarries : (s'.port p).carries = (s.port p).carries) (hurgent : (s'.port p).urgent = (s.port p).urgent) :
    JoinsLane p e s t := by
  unfold JoinsLane at h ⊢
  rwa [hcarries, hurgent] at h

/-- A HELLO handed to a port joins it (R12, R13, R24). -/
theorem sendHello_joins (p : PortId) (v : HelloVariant) (mark : Mark) (s : State) :
    JoinsLane p
      { frame :=
          { kind := 0x01#8, header := linkLocal s.consist.generation s.sourcePosition
            payload := helloPayload s.identity p.cabEnd s.consist.generation v }
        mark := mark } s (sendHello p v mark s) :=
  offer_joinsLane p _ s rfl

theorem sendHello_egress (p : PortId) (v : HelloVariant) (mark : Mark) (s : State) :
    EgressOnly s (sendHello p v mark s) := offer_egress p _ s

theorem takeOffer_accepts {p : PortId} {n : Nat} {s : State} (hallowed : testAllowed s = true)
    (hfree : (s.port p).offer = .none) :
    takeOffer p n s =
      sendHello p .testAccept .testAccept (s.modPort p fun q => { q with result := none, offer := .accepted n }) := by
  unfold takeOffer
  exact if_pos ⟨hallowed, hfree⟩

theorem takeOffer_refuses {p : PortId} {n : Nat} {s : State}
    (h : testAllowed s = false ∨ (s.port p).offer ≠ .none) :
    takeOffer p n s = sendHello p .testRefused .plain s := by
  unfold takeOffer
  refine if_neg fun ⟨hallowed, hfree⟩ => ?_
  rcases h with h | h
  · rw [h] at hallowed
    exact absurd hallowed (by decide)
  · exact h hfree

theorem testAllowed_iff (s : State) :
    testAllowed s = true ↔ s.consist.state ≠ .settled ∨ s.pins.workshop = true := by
  simp [testAllowed, State.isSettled]

/-! ## The settle progress (R25) -/

theorem Settle.hear_candidate {t : Settle} {who c : Neighbour} (hcandidate : t.candidate = some c)
    (hidentity : c.identity = who.identity) (hend : c.farEnd = who.farEnd) :
    t.hear who = if t.count < 3 then { t with candidate := some who, count := t.count + 1 } else t := by
  unfold Settle.hear
  rw [hcandidate]
  exact if_pos ⟨hidentity, hend⟩

theorem Settle.hear_other {t : Settle} {who : Neighbour}
    (h : ∀ c, t.candidate = some c → c.identity ≠ who.identity ∨ c.farEnd ≠ who.farEnd) :
    t.hear who = { t with candidate := some who, count := 1 } := by
  unfold Settle.hear
  cases hcandidate : t.candidate with
  | none => rfl
  | some c => exact if_neg fun ⟨hidentity, hend⟩ => (h c hcandidate).elim (fun h => h hidentity) (fun h => h hend)

/-- Settles O20. -/
theorem helloSupervisesAndSettles : Obligations.HelloSupervisesAndSettles := by
  intro p h who s hpower hdestination hflags hidentity
  dsimp only
  have hflag : h.flags.getLsbD 0 = true := by simp [hflags]
  have hlive : ∀ f : State → State, live f s = .next (finish (f s)) := fun f => live_powered f s hpower
  have hplain : ∀ n, HelloVariant.plain = .testOffer n → 16 ≤ n ∧ n ≤ 4096 := by simp
  let hello (v : HelloVariant) : Frame :=
    { kind := Config.kindHello, header := h
      payload := helloPayload who.identity who.farEnd who.generation v }
  let heard : State := s.modPort p fun q => { q.countGood with neighbour := some who, silence := some 3000 }
  have known : ∀ (old : Neighbour) (v : HelloVariant), (∀ n, v = .testOffer n → 16 ≤ n ∧ n ≤ 4096) →
      (s.port p).link = .up → (s.port p).neighbour = some old → old.identity = who.identity →
      old.farEnd = who.farEnd → live (receive p (hello v)) s = .next (finish (helloVariant p v heard)) := by
    intro old v hv hup hold hsame hsameEnd
    rw [hlive, receive_hello_up hup hv hdestination hflag hidentity,
      supervise_known (old := old) (by simpa using hold) hsame hsameEnd, State.modPort_modPort]
  have settling : (s.port p).link = .settling → exec (.hello p h
      (helloPayload who.identity who.farEnd who.generation .plain)) s = .next (finish (checkSettled p
        (s.modPort p fun q => { q with settle := q.settle.hear who }))) := by
    intro hsettling
    rw [show exec (.hello p h (helloPayload who.identity who.farEnd who.generation .plain)) s =
      live (receive p (hello .plain)) s from rfl, hlive,
      receive_hello_settling hsettling hplain hdestination hflag hidentity, settleHello]
  have hheardCore : SameCore s heard := State.modPort_sameCore p _ s
  refine ⟨fun old hup hold hsame hsameEnd => ⟨known old .plain hplain hup hold hsame hsameEnd,
    fun n hlow hhigh hallowed hfree => ?_, fun n hlow hhigh hrefused => ?_⟩,
    fun hsettling hearly => ⟨fun c hcandidate hsame hsameEnd hcount => ?_, fun hother => ?_⟩,
    fun hsettling c hcandidate hsame hsameEnd => ⟨fun htime hcount => ?_, fun htime hcount => ?_⟩⟩
  · have hrange : ∀ k, HelloVariant.testOffer n = .testOffer k → 16 ≤ k ∧ k ≤ 4096 := by
      rintro k hk
      obtain rfl := HelloVariant.testOffer.inj hk
      exact ⟨hlow, hhigh⟩
    let accepted : State := heard.modPort p fun q => { q with result := none, offer := .accepted n }
    have hport : accepted.port p = { (s.port p).countGood with
        neighbour := some who, silence := some 3000, result := none, offer := .accepted n } := by
      simp [accepted, heard]
    have hegress : EgressOnly accepted (sendHello p .testAccept .testAccept accepted) :=
      sendHello_egress p _ _ accepted
    have field : ∀ {α : Type} (g : Port → α), (∀ q : Port, g q.linkSide = g q) →
        g ((sendHello p .testAccept .testAccept accepted).port p) = g (accepted.port p) :=
      fun g hg => Port.field_of_linkSide g hg (hegress.2 p)
    refine ⟨sendHello p .testAccept .testAccept accepted, ?_,
      (field Port.link fun _ => rfl).trans (by simp [hport, hup]),
      (field Port.offer fun _ => rfl).trans (by simp [hport]),
      (field Port.result fun _ => rfl).trans (by simp [hport]),
      (field Port.silence fun _ => rfl).trans (by simp [hport]),
      (field Port.neighbour fun _ => rfl).trans (by simp [hport]),
      (hheardCore.trans (State.modPort_sameCore p _ heard)).trans hegress.1, ?_⟩
    · rw [← takeOffer_accepts (by rw [testAllowed_iff]; simpa [heard] using hallowed)
        (by simpa [heard] using hfree)]
      exact known old (.testOffer n) hrange hup hold hsame hsameEnd
    · have hjoins := sendHello_joins p .testAccept .testAccept accepted
      simp only [accepted, heard, State.modPort_consist, State.modPort_identity,
        State.modPort_sourcePosition] at hjoins
      exact hjoins.of_lane (by simp [Port.carries]) (by simp)
  · have hrange : ∀ k, HelloVariant.testOffer n = .testOffer k → 16 ≤ k ∧ k ≤ 4096 := by
      rintro k hk
      obtain rfl := HelloVariant.testOffer.inj hk
      exact ⟨hlow, hhigh⟩
    have hegress : EgressOnly heard (sendHello p .testRefused .plain heard) := sendHello_egress p _ _ heard
    have hport : heard.port p = { (s.port p).countGood with neighbour := some who, silence := some 3000 } := by
      simp [heard]
    have field : ∀ {α : Type} (g : Port → α), (∀ q : Port, g q.linkSide = g q) →
        g ((sendHello p .testRefused .plain heard).port p) = g (heard.port p) :=
      fun g hg => Port.field_of_linkSide g hg (hegress.2 p)
    refine ⟨sendHello p .testRefused .plain heard, ?_,
      (field Port.link fun _ => rfl).trans (by simp [hport, hup]),
      (field Port.offer fun _ => rfl).trans (by simp [hport]),
      (field Port.result fun _ => rfl).trans (by simp [hport]),
      (field Port.silence fun _ => rfl).trans (by simp [hport]),
      (field Port.neighbour fun _ => rfl).trans (by simp [hport]), hheardCore.trans hegress.1, ?_⟩
    · rw [← takeOffer_refuses (n := n)]
      · exact known old (.testOffer n) hrange hup hold hsame hsameEnd
      · refine hrefused.imp (fun ⟨hstate, hworkshop⟩ => ?_) (fun hheld => by simpa [heard] using hheld)
        rw [Bool.eq_false_iff, ne_eq, testAllowed_iff]
        simp [heard, hstate, hworkshop]
    · have hjoins := sendHello_joins p .testRefused .plain heard
      simp only [heard, State.modPort_consist, State.modPort_identity, State.modPort_sourcePosition] at hjoins
      exact hjoins.of_lane (by simp [Port.carries]) (by simp)
  · have hheard : (s.port p).settle.hear who =
        { (s.port p).settle with candidate := some who, count := (s.port p).settle.count + 1 } :=
      (Settle.hear_candidate hcandidate hsame hsameEnd).trans (if_pos hcount)
    rw [settling hsettling, checkSettled_waits]
    · congr 2
      exact State.modPort_congr (by rw [hheard])
    · rw [State.modPort_port_self, hheard]
      exact hearly.imp_right fun h => by dsimp only; omega
  · have hheard : (s.port p).settle.hear who = { (s.port p).settle with candidate := some who, count := 1 } :=
      Settle.hear_other hother
    rw [settling hsettling, checkSettled_waits]
    · congr 2
      exact State.modPort_congr (by rw [hheard])
    · rw [State.modPort_port_self, hheard]
      exact .inr (by simp)
  · have hheard : (s.port p).settle.hear who =
        { (s.port p).settle with candidate := some who, count := (s.port p).settle.count + 1 } :=
      (Settle.hear_candidate hcandidate hsame hsameEnd).trans (if_pos (by omega))
    rw [settling hsettling, checkSettled_up (who := who), portUp, State.modPort_modPort]
    · rfl
    · rw [State.modPort_port_self, hheard]
    · simpa using hsettling
    · rw [State.modPort_port_self, hheard]
      exact htime
    · rw [State.modPort_port_self, hheard]
      dsimp only
      omega
  · have hheard : (s.port p).settle.hear who = (s.port p).settle :=
      (Settle.hear_candidate hcandidate hsame hsameEnd).trans (if_neg (by omega))
    rw [settling hsettling, State.modPort_self (by rw [hheard]), checkSettled_waits (.inl htime)]

end Sys2Proof.Machine
end

section
/-! What the urgent lane of a port shows after frames of either lane have been handed over: what has joined it, and
at most one frame gone to a free transmitter (R13, R14). -/

namespace Sys2Proof.Machine

open Sys2Proof

/-- From one port to another the urgent entries `es` have joined the lane, and where the transmitter was free the
oldest of the lane may have gone to it; a frame in transmission stays there. -/
def LaneRun (es : List LaneEntry) (a b : Port) : Prop :=
  (∀ e, a.transmitter = some e → b.transmitter = some e)
    ∧ (b.urgent = a.urgent ++ es
      ∨ (a.transmitter = none ∧ ∃ first, b.transmitter = some first ∧ a.urgent ++ es = first :: b.urgent))

theorem LaneRun.of_same {a b : Port} (hsending : b.transmitter = a.transmitter) (hurgent : b.urgent = a.urgent) :
    LaneRun [] a b := ⟨fun _ h => hsending.trans h, .inl (by rw [hurgent, List.append_nil])⟩

theorem LaneRun.refl (a : Port) : LaneRun [] a a := .of_same rfl rfl

theorem LaneRun.trans {es es' : List LaneEntry} {a b c : Port} (h : LaneRun es a b) (k : LaneRun es' b c) :
    LaneRun (es ++ es') a c := by
  obtain ⟨hsending, hlane⟩ := h
  obtain ⟨ksending, klane⟩ := k
  refine ⟨fun e he => ksending e (hsending e he), ?_⟩
  rcases hlane with hjoined | ⟨hfree, first, htaken, hrun⟩
  · rcases klane with kjoined | ⟨kfree, first, ktaken, krun⟩
    · exact .inl (by rw [kjoined, hjoined, List.append_assoc])
    · refine .inr ⟨?_, first, ktaken, by rw [← List.append_assoc, ← hjoined, krun]⟩
      by_contra hbusy
      obtain ⟨e, he⟩ := Option.ne_none_iff_exists'.mp hbusy
      exact absurd (kfree.symm.trans (hsending e he)) (by simp)
  · rcases klane with kjoined | ⟨kfree, _, _, _⟩
    · exact .inr ⟨hfree, first, ksending first htaken, by rw [← List.append_assoc, hrun, kjoined, List.cons_append]⟩
    · exact absurd (kfree.symm.trans htaken) (by simp)

theorem LaneRun.length_le {a b : Port} (h : LaneRun [] a b) : b.urgent.length ≤ a.urgent.length := by
  obtain ⟨-, hjoined | ⟨-, first, -, hrun⟩⟩ := h
  · simp [hjoined]
  · have := congrArg List.length hrun
    simp only [List.append_nil, List.length_cons] at this
    omega

/-- An entry that has run into a lane has joined it. -/
theorem JoinsLane.of_run {p : PortId} {e : LaneEntry} {s t : State}
    (h : (s.port p).carries = true → (s.port p).urgent.length < 8 → LaneRun [e] (s.port p) (t.port p)) :
    JoinsLane p e s t := fun hcarries hroom =>
  (h hcarries hroom).2.imp id fun ⟨_, first, htaken, hrun⟩ => ⟨first, htaken, hrun⟩

/-! ## The lanes after one frame (R13, R14) -/

theorem pump_laneRun (p : PortId) (s : State) : LaneRun [] (s.port p) ((pump p s).port p) := by
  cases hsending : (s.port p).transmitter with
  | some e =>
    rw [pump_taken hsending]
    exact .refl _
  | none =>
    by_cases hgo : ((s.port p).link = .up ∨ (s.port p).link = .settling) ∧ (s.port p).testDue = false
    · rw [pump_free hsending hgo.1 hgo.2, State.modPort_port_self]
      refine ⟨fun e he => absurd (hsending.symm.trans he) (by simp), ?_⟩
      cases hurgent : (s.port p).urgent with
      | nil => exact .inl rfl
      | cons first rest => exact .inr ⟨hsending, first, rfl, List.append_nil _⟩
    · rw [pump_idle (by simpa [or_comm, imp_iff_not_or] using hgo)]
      exact .refl _

theorem joinNormal_laneRun (p : PortId) (e : LaneEntry) (s : State) :
    LaneRun [] (s.port p) ((joinNormal p e s).port p) := by
  unfold joinNormal
  split
  · rw [State.modPort_port_self]
    exact .of_same rfl rfl
  · obtain ⟨hurgent, -, hsending, -⟩ := dropFrame_lanes p e s
    exact .of_same hsending hurgent

theorem laneFrameGone_laneRun (p : PortId) (e : LaneEntry) (q : PortId) (s : State) :
    LaneRun [] (s.port q) ((laneFrameGone p e s).port q) := by
  rcases PortId.eq_or_eq_other p q with rfl | rfl
  · refine .of_same (laneFrameGone_transmitter q e s) ?_
    unfold laneFrameGone resetReplyGone
    split
    · rfl
    · rw [State.modPort_port_self]
      split <;> rfl
    · simp
  · rw [laneFrameGone_port_other]
    exact .refl _

/-- A frame of the normal lane, or one the port does not carry, leaves the urgent lanes to the transmitters. -/
theorem offer_laneRun_normal {e : LaneEntry} (p q : PortId) (s : State) (h : isNormalKind e.frame.kind = true) :
    LaneRun [] (s.port q) ((offer p e s).port q) := by
  rcases PortId.eq_or_eq_other p q with rfl | rfl
  · unfold offer noRoute
    dsimp only
    split
    · exact (joinNormal_laneRun q e s).trans (pump_laneRun q _)
    · have hgone := laneFrameGone_laneRun q e q (s.modRelay fun r => { r with noRoute := satInc r.noRoute })
      rwa [State.modRelay_port] at hgone
  · rw [offer_port_other]
    exact .refl _

/-- A frame of the urgent lane runs into it at a port that carries it and has room. -/
theorem offer_laneRun_urgent {p : PortId} {e : LaneEntry} {s : State} (h : isNormalKind e.frame.kind = false)
    (hcarries : (s.port p).carries = true) (hroom : (s.port p).urgent.length < 8) :
    LaneRun [e] (s.port p) ((offer p e s).port p) := by
  unfold offer
  dsimp only
  rw [if_pos (.inl hcarries), if_neg (by simp [h]), joinUrgent_room p e s hroom]
  refine LaneRun.trans (es := [e]) (es' := []) ?_ (pump_laneRun p _)
  rw [State.modPort_port_self]
  exact ⟨fun _ he => he, .inl rfl⟩

/-! ## The lanes after a notice (R191 to R193) -/

theorem route_laneRun_normal {e : LaneEntry} (q : PortId) (s : State) (h : isNormalKind e.frame.kind = true) :
    LaneRun [] (s.port q) ((route e s).port q) := by
  unfold route
  dsimp only
  split
  · exact offer_laneRun_normal _ q s h
  · split
    · exact offer_laneRun_normal _ q s h
    · have hgone := laneFrameGone_laneRun s.tailPort e q
        (s.modRelay fun r => { r with beyondTail := satInc r.beyondTail })
      rwa [State.modRelay_port] at hgone

theorem originateNotice_laneRun (n : Notice) (q : PortId) (s : State) :
    LaneRun [] (s.port q) ((originateNotice n s).port q) := by
  unfold originateNotice noRoute
  dsimp only
  split
  · have hgone := laneFrameGone_laneRun s.tailPort
      { frame := buildFrame s Config.kindNotice 1#8 0#8 (noticeBytes n), mark := .plain } q
      (s.modRelay fun r => { r with noRoute := satInc r.noRoute })
    rwa [State.modRelay_port] at hgone
  · split
    · rw [deliverNotice_port]
      exact .refl _
    · exact route_laneRun_normal q s rfl

theorem forwardNotices_laneRun (q : PortId) (s : State) : LaneRun [] (s.port q) ((forwardNotices s).port q) := by
  unfold forwardNotices
  split
  · split
    · exact .refl _
    · next n rest _ =>
      have hgone := originateNotice_laneRun n q
        (s.modReq fun r => { r with notices := rest, spacing := some Config.noticeSpacingMs })
      rwa [State.modReq_port] at hgone
  · exact .refl _

theorem raise_laneRun (kind : NoticeKind) (subject : Byte) (value : Nat) (q : PortId) (s : State) :
    LaneRun [] (s.port q) ((raise kind subject value s).port q) := by
  have h := forwardNotices_laneRun q (enqueueNotice (s.noticeOf kind subject value) s)
  rwa [enqueueNotice_port] at h

theorem finish_laneRun (q : PortId) (s : State) : LaneRun [] (s.port q) ((finish s).port q) := by
  have h := forwardNotices_laneRun q s
  rwa [← driveProven_port] at h

end Sys2Proof.Machine
end


section
/-! What the Door and the Heat Unit leave alone while they act on several leaves or groups (R124 to R131, R142,
R160, R167). -/

namespace Sys2Proof.Machine

open Sys2Proof

/-- Only the leaves `ks`, the vehicle proof, the leaf faults, the bus and the egress side have changed. -/
structure LeavesOnly (ks : List Nat) (s t : State) : Prop where
  powered : t.powered = s.powered
  identity : t.identity = s.identity
  pins : t.pins = s.pins
  consist : t.consist = s.consist
  sweep : t.sweep = s.sweep
  heat : t.heat = s.heat
  store : t.store = s.store
  count : t.door.leaves.length = s.door.leaves.length
  others : ∀ j, j ∉ ks → t.leaf j = s.leaf j
  headless : t.door.headless = s.door.headless
  trainProof : t.door.trainProof = s.door.trainProof
  releaseSerial : t.door.releaseSerial = s.door.releaseSerial
  closeSerial : t.door.closeSerial = s.door.closeSerial
  releasesApplied : t.door.releasesApplied = s.door.releasesApplied
  releasesVoid : t.door.releasesVoid = s.door.releasesVoid
  closes : t.door.closes = s.door.closes

theorem LeavesOnly.refl (ks : List Nat) (s : State) : LeavesOnly ks s s :=
  ⟨rfl, rfl, rfl, rfl, rfl, rfl, rfl, rfl, fun _ _ => rfl, rfl, rfl, rfl, rfl, rfl, rfl, rfl⟩

theorem LeavesOnly.trans {ks : List Nat} {s t u : State} (h : LeavesOnly ks s t) (k : LeavesOnly ks t u) :
    LeavesOnly ks s u :=
  ⟨k.powered.trans h.powered, k.identity.trans h.identity, k.pins.trans h.pins, k.consist.trans h.consist,
    k.sweep.trans h.sweep, k.heat.trans h.heat, k.store.trans h.store, k.count.trans h.count,
    fun j hj => (k.others j hj).trans (h.others j hj), k.headless.trans h.headless, k.trainProof.trans h.trainProof,
    k.releaseSerial.trans h.releaseSerial, k.closeSerial.trans h.closeSerial,
    k.releasesApplied.trans h.releasesApplied, k.releasesVoid.trans h.releasesVoid, k.closes.trans h.closes⟩

theorem LeafOnly.leaves {k : Nat} {ks : List Nat} {s t : State} (h : LeafOnly k s t) (hk : k ∈ ks) :
    LeavesOnly ks s t := by
  obtain ⟨h1, h2, h3, h4, h5, h6, h7, h8, h9, h10, h11, h12, h13, h14, h15, h16⟩ := h
  exact ⟨h1, h2, h3, h4, h5, h6, h7, h8, fun j hj => h9 j fun heq => hj (heq ▸ hk), h10, h11, h12, h13, h14, h15, h16⟩

theorem evalVehicleProof_leavesOnly (ks : List Nat) (s : State) : LeavesOnly ks s (evalVehicleProof s) :=
  ⟨rfl, rfl, rfl, rfl, rfl, rfl, rfl, rfl, fun _ _ => rfl, rfl, rfl, rfl, rfl, rfl, rfl, rfl⟩

/-- One act on each of several leaves leaves the others alone. -/
theorem foldl_leavesOnly {act : Nat → State → State} (hact : ∀ k s, LeafOnly k s (act k s)) (ks : List Nat)
    (s : State) : LeavesOnly ks s (ks.foldl (fun s k => act k s) s) := by
  suffices h : ∀ (l : List Nat) (s : State), (∀ k ∈ l, k ∈ ks) →
      LeavesOnly ks s (l.foldl (fun s k => act k s) s) from h ks s fun _ hk => hk
  intro l
  induction l with
  | nil => exact fun s _ => .refl ks s
  | cons k rest ih =>
    exact fun s hl => ((hact k s).leaves (hl k List.mem_cons_self)).trans
      (ih _ fun j hj => hl j (List.mem_cons_of_mem k hj))

theorem warnLeaf_leafOnly (k : Nat) (s : State) : LeafOnly k s (warnLeaf k s) := by
  unfold warnLeaf
  split
  · exact enterLeaf_leafOnly k _ s
  · exact .refl k s

theorem enterFreshWarning_leafOnly (k : Nat) (s : State) : LeafOnly k s (enterFreshWarning k s) :=
  (State.modLeaf_leafOnly k _ s).trans (enterLeaf_leafOnly k _ _)

theorem closeFailed_leafOnly (k : Nat) (s : State) : LeafOnly k s (closeFailed k s) := by
  unfold closeFailed
  split
  · exact .refl k s
  · split
    · exact enterFault_leafOnly k _ s
    · exact (State.modLeaf_leafOnly k _ s).trans (enterLeaf_leafOnly k _ _)

theorem firstStatus_leafOnly (k : Nat) (status : LeafStatus) (s : State) : LeafOnly k s (firstStatus k status s) := by
  unfold firstStatus
  cases status with
  | closedLocked | isolatedLocked | isolatedOpen => exact enterLeaf_leafOnly k _ s
  | opened | obstructed => exact enterFreshWarning_leafOnly k s

theorem actOnStatus_leafOnly (k : Nat) (fromRead : Bool) (l : Leaf) (status : LeafStatus) (s : State) :
    LeafOnly k s (actOnStatus k fromRead l status s) := by
  unfold actOnStatus
  cases l.state with
  | start => exact firstStatus_leafOnly k status s
  | closed =>
    cases status with
    | opened | obstructed => exact enterFault_leafOnly k _ s
    | _ => exact .refl k s
  | closing =>
    dsimp only
    split
    · cases status with
      | closedLocked => exact enterLeaf_leafOnly k _ s
      | obstructed => exact closeFailed_leafOnly k s
      | _ => exact .refl k s
    · exact .refl k s
  | fault =>
    dsimp only
    split
    · exact enterLeaf_leafOnly k _ s
    · exact .refl k s
  | _ => exact .refl k s

theorem leafStatusTold_leafOnly (k : Nat) (fromRead : Bool) (s : State) :
    LeafOnly k s (leafStatusTold k fromRead s) := by
  unfold leafStatusTold
  dsimp only
  refine (evalVehicleProof_leafOnly k s).trans ?_
  split
  · exact actOnStatus_leafOnly k fromRead _ _ _
  · exact .refl k _

theorem warnReleased_leavesOnly (s : State) : LeavesOnly s.leafNumbers s (warnReleased s) :=
  foldl_leavesOnly warnLeaf_leafOnly _ s

theorem doorRoundStart_leavesOnly (s : State) : LeavesOnly s.leafNumbers s (doorRoundStart s) :=
  (evalVehicleProof_leavesOnly _ s).trans
    (foldl_leavesOnly (act := fun k s => leafStatusTold k false s) (fun k => leafStatusTold_leafOnly k false) _ _)

/-- Only the Heat Unit, the bus and the egress side have changed. -/
structure HeatOnly (s t : State) : Prop where
  powered : t.powered = s.powered
  identity : t.identity = s.identity
  pins : t.pins = s.pins
  consist : t.consist = s.consist
  sweep : t.sweep = s.sweep
  door : t.door = s.door
  store : t.store = s.store

theorem HeatOnly.refl (s : State) : HeatOnly s s := ⟨rfl, rfl, rfl, rfl, rfl, rfl, rfl⟩

theorem HeatOnly.trans {s t u : State} (h : HeatOnly s t) (k : HeatOnly t u) : HeatOnly s u :=
  ⟨k.powered.trans h.powered, k.identity.trans h.identity, k.pins.trans h.pins, k.consist.trans h.consist,
    k.sweep.trans h.sweep, k.door.trans h.door, k.store.trans h.store⟩

theorem GroupsOnly.heatOnly {s t : State} (h : GroupsOnly s t) : HeatOnly s t := by
  rw [h.1]
  exact ⟨rfl, rfl, rfl, rfl, rfl, rfl, rfl⟩

theorem EgressOnly.heatOnly {s t : State} (h : EgressOnly s t) : HeatOnly s t :=
  ⟨h.powered, h.identity, h.pins, h.consist, h.sweep, h.door, h.store⟩

theorem modHeat_heatOnly (f : Heat → Heat) (s : State) : HeatOnly s (s.modHeat f) :=
  ⟨rfl, rfl, rfl, rfl, rfl, rfl, rfl⟩

theorem discardIncrease_heatOnly (s : State) : HeatOnly s (discardIncrease s) := by
  rw [discardIncrease_eq]
  exact ⟨rfl, rfl, rfl, rfl, rfl, rfl, rfl⟩

theorem faultGroup_heatOnly (g : Nat) (cause : GroupFault) (s : State) : HeatOnly s (faultGroup g cause s) := by
  unfold faultGroup
  exact ((((State.modGroup_groupsOnly g _ s).heatOnly.trans (offerGroup_groupsOnly g 0 _).heatOnly).trans
    (discardIncrease_heatOnly _)).trans (modHeat_heatOnly _ _)).trans (raise_egress _ _ _ _).heatOnly

theorem groupRoundStart_heatOnly (g : Nat) (s : State) : HeatOnly s (groupRoundStart g s) := by
  unfold groupRoundStart
  split
  · exact .refl s
  · split
    · exact (offerGroup_groupsOnly g 0 s).heatOnly
    · dsimp only
      split
      · exact (State.modGroup_groupsOnly g _ s).heatOnly.trans (faultGroup_heatOnly g _ _)
      · exact (State.modGroup_groupsOnly g _ s).heatOnly

theorem heatRoundStart_heatOnly (s : State) : HeatOnly s (heatRoundStart s) := by
  unfold heatRoundStart
  generalize s.groupNumbers = l
  induction l generalizing s with
  | nil => exact .refl s
  | cons g rest ih => exact (groupRoundStart_heatOnly g s).trans (ih _)

/-! ## A round start and the lead (R89, R91, R95) -/

/-- A VALID claim status still stands. -/
def LeadKept (s t : State) : Prop := s.consist.status = .valid → t.consist.status = .valid

theorem changeEffect_status (s : State) : (changeEffect s).consist.status = s.consist.status := by
  rw [changeEffect_consist]
  split <;> rfl

theorem leaveCensus_status (s : State) : (leaveCensus s).consist.status = s.consist.status := by
  rw [leaveCensus_consist]
  dsimp only
  split <;> rfl

theorem loseValidity_status (s : State) : (loseValidity s).consist.status = s.consist.status := by
  unfold loseValidity
  extract_lets counting s1 s2 s3 s4
  have h3 : s3.consist.status = s.consist.status := by
    unfold s3
    split <;> rfl
  have h4 : s4.consist.status = s.consist.status := by
    rw [changeEffect_status, announceChange, (broadcast_egress _ _).consist, enterOwnChange]
    split <;> exact h3
  split
  · rw [leaveCensus_status, h4]
  · exact h4

theorem overrunRound_consist (s : State) : (overrunRound s).consist = s.consist := by
  unfold overrunRound
  dsimp only
  split
  · split
    · rw [(raise_egress _ _ _ _).consist]
      rfl
    · rfl
  · rfl

theorem placeCabEntry_consist (s : State) : (placeCabEntry s).consist = (endCabEntry s).consist := by
  unfold placeCabEntry
  dsimp only
  split <;> rfl

theorem finishRound_consist (s : State) : (finishRound s).consist = s.consist := by
  unfold finishRound
  split <;> rfl

/-- A round start moves of the Consist Unit what the end of the last cab service does. -/
theorem roundStart_consist (duration : Nat) (s : State) :
    (roundStart duration s).consist =
      (placeCabEntry ((overrunRound (s.modBus fun b => { b with roundTimer := some duration })).modBus fun b =>
        { b.age with pointer := some 0, round := .inProgress })).consist := by
  unfold roundStart
  dsimp only
  rw [(heatRoundStart_heatOnly _).consist, (doorRoundStart_leavesOnly _).consist, (arbitrate_busOnly _).consist,
    finishRound_consist]

theorem outwardStart_consist (f : SweepOut) (s : State) :
    (outwardStart f s).consist =
      (roundStart (2 * clampPeriod f.period) (s.modSweep (Sweep.latchOut f))).consist := by
  unfold outwardStart
  dsimp only
  split
  · rfl
  · exact (warnReleased_leavesOnly _).consist

theorem startStagger_heatOnly (s : State) : HeatOnly s (startStagger s) := by
  unfold startStagger
  split
  · dsimp only
    split
    · obtain ⟨t, ht, heq⟩ := applyIncrease_eq (s.modHeat _)
      rw [heq]
      exact ((modHeat_heatOnly _ s).trans ht.heatOnly).trans ⟨rfl, rfl, rfl, rfl, rfl, rfl, rfl⟩
    · exact modHeat_heatOnly _ s
  · exact .refl s

theorem heatOutward_heatOnly (f : SweepOut) (s : State) : HeatOnly s (heatOutward f s).2 :=
  (modHeat_heatOnly _ s).trans (startStagger_heatOnly _)

theorem processOutward_consist (f : SweepOut) (s : State) :
    (processOutward f s).2.consist = (outwardStart f s).consist := (heatOutward_heatOnly _ _).consist

end Sys2Proof.Machine
end

section
/-! What the units of a node do not touch of one another: the power, the identity, the pins, the record store, the
queue of commands, the link sides of the ports and the frames they are sending. -/

namespace Sys2Proof.Machine

open Sys2Proof

/-- The parts of a node that no unit but the Line Ports, the Record Store and the supplies moves; and, where
`quiet` holds, no frame has been handed to an urgent lane. -/
structure NodeKept (quiet : Prop) (s t : State) : Prop where
  powered : t.powered = s.powered
  identity : t.identity = s.identity
  pins : t.pins = s.pins
  store : t.store = s.store
  pending : t.pending = s.pending
  link : ∀ p, (t.port p).linkSide = (s.port p).linkSide
  sending : SendingKept s t
  lanes : quiet → ∀ p, LaneRun [] (s.port p) (t.port p)

namespace NodeKept

variable {quiet : Prop}

theorem refl (s : State) : NodeKept quiet s s := ⟨rfl, rfl, rfl, rfl, rfl, fun _ => rfl, SendingKept.refl s,
    fun _ _ => LaneRun.refl _⟩

theorem trans {s t u : State} (h : NodeKept quiet s t) (k : NodeKept quiet t u) : NodeKept quiet s u :=
  ⟨k.powered.trans h.powered, k.identity.trans h.identity, k.pins.trans h.pins, k.store.trans h.store,
    k.pending.trans h.pending, fun p => (k.link p).trans (h.link p), h.sending.trans k.sending,
    fun hq p => (h.lanes hq p).trans (k.lanes hq p)⟩

/-- A change of the egress side that hands nothing to an urgent lane. -/
theorem of_egress {s t : State} (h : EgressOnly s t) (k : ∀ p, LaneRun [] (s.port p) (t.port p)) :
    NodeKept quiet s t :=
  ⟨h.powered, h.identity, h.pins, h.store, h.pending, h.2, fun p e he => (k p).1 e he, fun _ => k⟩

/-- A change of the egress side that may hand frames to the urgent lanes. -/
theorem of_sending {s t : State} (h : EgressOnly s t) (k : SendingKept s t) : NodeKept False s t :=
  ⟨h.powered, h.identity, h.pins, h.store, h.pending, h.2, k, fun h => h.elim⟩

theorem loud {s t : State} (h : NodeKept quiet s t) : NodeKept False s t := { h with lanes := fun h => h.elim }

/-- What is kept beside the lanes is all there is to show where no quiet is claimed. -/
theorem of_loud {s t : State} (h : NodeKept False s t) (hnot : ¬quiet) : NodeKept quiet s t :=
  { h with lanes := fun hq => absurd hq hnot }

/-- A state that shows the same supplies, store, queue and ports. -/
theorem of_ports {s t : State} (hpowered : t.powered = s.powered) (hidentity : t.identity = s.identity)
    (hpins : t.pins = s.pins) (hstore : t.store = s.store) (hpending : t.pending = s.pending)
    (hlp1 : t.lp1 = s.lp1) (hlp2 : t.lp2 = s.lp2) : NodeKept quiet s t := by
  have hport : ∀ p, t.port p = s.port p := fun p => by cases p; exacts [hlp1, hlp2]
  exact ⟨hpowered, hidentity, hpins, hstore, hpending, fun p => congrArg _ (hport p),
    .of_port fun p => congrArg _ (hport p), fun _ p => by rw [hport]; exact .refl _⟩

theorem of_busOnly {s t : State} (h : BusOnly s t) : NodeKept quiet s t := by
  rw [h]
  exact of_ports rfl rfl rfl rfl rfl rfl rfl

theorem of_groupsOnly {s t : State} (h : GroupsOnly s t) : NodeKept quiet s t := by
  rw [h.1]
  exact of_ports rfl rfl rfl rfl rfl rfl rfl

theorem foldl {α : Type} {f : State → α → State} (hf : ∀ s a, NodeKept quiet s (f s a)) (l : List α) (s : State) :
    NodeKept quiet s (l.foldl f s) := by
  induction l generalizing s with
  | nil => exact refl s
  | cons a rest ih => exact (hf s a).trans (ih _)

theorem foldl_of {α : Type} {f : State → α → State} (hf : ∀ s a, NodeKept quiet s (f s a)) (l : List α) {s₀ s : State}
    (h : NodeKept quiet s₀ s) : NodeKept quiet s₀ (l.foldl f s) := h.trans (foldl hf l s)

theorem ite {c : Prop} [Decidable c] {s t u : State} (ht : NodeKept quiet s t) (hu : NodeKept quiet s u) :
    NodeKept quiet s (if c then t else u) := by
  split
  · exact ht
  · exact hu

end NodeKept

section
variable {quiet : Prop} {s₀ s : State} (h : NodeKept quiet s₀ s)
include h

theorem modRelay_kept (f : Relay → Relay) : NodeKept quiet s₀ (s.modRelay f) := h.trans (.of_ports rfl rfl rfl rfl rfl rfl rfl)
theorem modConsist_kept (f : Consist → Consist) : NodeKept quiet s₀ (s.modConsist f) :=
  h.trans (.of_ports rfl rfl rfl rfl rfl rfl rfl)
theorem modSweep_kept (f : Sweep → Sweep) : NodeKept quiet s₀ (s.modSweep f) := h.trans (.of_ports rfl rfl rfl rfl rfl rfl rfl)
theorem modBus_kept (f : Bus → Bus) : NodeKept quiet s₀ (s.modBus f) := h.trans (.of_ports rfl rfl rfl rfl rfl rfl rfl)
theorem modReq_kept (f : Req → Req) : NodeKept quiet s₀ (s.modReq f) := h.trans (.of_ports rfl rfl rfl rfl rfl rfl rfl)
theorem modDoor_kept (f : Door → Door) : NodeKept quiet s₀ (s.modDoor f) := h.trans (.of_ports rfl rfl rfl rfl rfl rfl rfl)
theorem modHeat_kept (f : Heat → Heat) : NodeKept quiet s₀ (s.modHeat f) := h.trans (.of_ports rfl rfl rfl rfl rfl rfl rfl)

/-! ## Sending -/

theorem offerFrame_kept (p : PortId) (f : Frame) : NodeKept False s₀ (offerFrame p f s) :=
  h.loud.trans (.of_sending (offer_egress p _ s) (offer_sendingKept p _ s))

theorem broadcast_kept (f : Frame) : NodeKept False s₀ (broadcast f s) :=
  h.loud.trans (.of_sending (broadcast_egress f s) (broadcast_sendingKept f s))

theorem offerCab_kept (f : CabFrame) : NodeKept quiet s₀ (offerCab f s) :=
  h.trans (.of_egress (offerCab_egress f s) fun p => by rw [offerCab_port]; exact .refl _)

theorem enqueueNotice_kept (n : Notice) : NodeKept quiet s₀ (enqueueNotice n s) :=
  h.trans (.of_egress (enqueueNotice_egress n s) fun p => by rw [enqueueNotice_port]; exact .refl _)

theorem raise_kept (kind : NoticeKind) (subject : Byte) (value : Nat) : NodeKept quiet s₀ (raise kind subject value s) :=
  h.trans (.of_egress (raise_egress kind subject value s) fun p => raise_laneRun kind subject value p s)

theorem sendCensus_kept (p : PortId) (generation kind : Byte) (payload : List Byte) :
    NodeKept False s₀ (sendCensus p generation kind payload s) := offerFrame_kept h p _

theorem report_kept (sequence : Byte) (result : ReportResult) (body : Option (Tally × Nat)) :
    NodeKept quiet s₀ (report sequence result body s) := offerCab_kept h _

theorem arbitrate_kept : NodeKept quiet s₀ (arbitrate s) := h.trans (.of_busOnly (arbitrate_busOnly s))

/-! ## The Door Unit -/

theorem modLeaf_kept (k : Nat) (f : Leaf → Leaf) : NodeKept quiet s₀ (s.modLeaf k f) := .ite h (modDoor_kept h _)

theorem evalVehicleProof_kept : NodeKept quiet s₀ (evalVehicleProof s) := by
  unfold evalVehicleProof
  exact modDoor_kept h _

theorem supersedeLeaf_kept (k : Nat) : NodeKept quiet s₀ (supersedeLeaf k s) := modBus_kept h _

theorem enterFault_kept (k value : Nat) : NodeKept quiet s₀ (enterFault k value s) := by
  unfold enterFault
  exact raise_kept (evalVehicleProof_kept (modDoor_kept (supersedeLeaf_kept (modLeaf_kept h k _) k) _)) _ _ _

theorem enterLeaf_kept (k : Nat) (st : LeafState) : NodeKept quiet s₀ (enterLeaf k st s) := by
  unfold enterLeaf
  dsimp only
  have hentered : NodeKept quiet s₀ (evalVehicleProof (supersedeLeaf k
      (s.modLeaf k (Leaf.entered s.store.content (enteredState s.store.content st))))) :=
    evalVehicleProof_kept (supersedeLeaf_kept (modLeaf_kept h k _) k)
  split
  · split
    · exact enterFault_kept (hentered.trans (.of_busOnly (offerDoorWrite_spec _ _ _ _ _).1)) k _
    · exact hentered.trans (.of_busOnly (offerDoorWrite_spec _ _ _ _ _).1)
  · exact hentered

theorem warnLeaf_kept (k : Nat) : NodeKept quiet s₀ (warnLeaf k s) := by
  unfold warnLeaf
  split
  · exact enterLeaf_kept h k _
  · exact h

theorem enterFreshWarning_kept (k : Nat) : NodeKept quiet s₀ (enterFreshWarning k s) := by
  unfold enterFreshWarning
  exact enterLeaf_kept (modLeaf_kept h k _) k _

theorem closeFailed_kept (k : Nat) : NodeKept quiet s₀ (closeFailed k s) := by
  unfold closeFailed
  split
  · exact h
  · exact .ite (enterFault_kept h k _) (enterLeaf_kept (modLeaf_kept h k _) k _)

theorem firstStatus_kept (k : Nat) (status : LeafStatus) : NodeKept quiet s₀ (firstStatus k status s) := by
  unfold firstStatus
  cases status with
  | closedLocked | isolatedLocked | isolatedOpen => exact enterLeaf_kept h k _
  | opened | obstructed => exact enterFreshWarning_kept h k

theorem actOnStatus_kept (k : Nat) (fromRead : Bool) (l : Leaf) (status : LeafStatus) :
    NodeKept quiet s₀ (actOnStatus k fromRead l status s) := by
  unfold actOnStatus
  cases l.state with
  | start => exact firstStatus_kept h k status
  | closed =>
    cases status with
    | opened | obstructed => exact enterFault_kept h k _
    | _ => exact h
  | closing =>
    refine .ite ?_ h
    cases status with
    | closedLocked => exact enterLeaf_kept h k _
    | obstructed => exact closeFailed_kept h k
    | _ => exact h
  | fault => exact .ite (enterLeaf_kept h k _) h
  | _ => exact h

theorem leafStatusTold_kept (k : Nat) (fromRead : Bool) : NodeKept quiet s₀ (leafStatusTold k fromRead s) := by
  unfold leafStatusTold
  dsimp only
  split
  · exact actOnStatus_kept (evalVehicleProof_kept h) k fromRead _ _
  · exact evalVehicleProof_kept h

theorem warnReleased_kept : NodeKept quiet s₀ (warnReleased s) :=
  h.foldl_of (fun s k => warnLeaf_kept (.refl s) k) _

theorem doorRoundStart_kept : NodeKept quiet s₀ (doorRoundStart s) :=
  (evalVehicleProof_kept h).foldl_of (fun s k => leafStatusTold_kept (.refl s) k false) _

/-! ## The Heat Unit -/

theorem modGroup_kept (g : Nat) (f : Group → Group) : NodeKept quiet s₀ (s.modGroup g f) :=
  h.trans (.of_groupsOnly (State.modGroup_groupsOnly g f s))

theorem offerGroup_kept (g count : Nat) : NodeKept quiet s₀ (offerGroup g count s) :=
  h.trans (.of_groupsOnly (offerGroup_groupsOnly g count s))

theorem lowerGroup_kept (g count : Nat) : NodeKept quiet s₀ (lowerGroup g count s) :=
  h.trans (.of_groupsOnly (lowerGroup_groupsOnly g count s))

theorem lowerGroups_kept (fitted : List Nat) : NodeKept quiet s₀ (lowerGroups fitted s) :=
  h.trans (.of_groupsOnly (lowerGroups_groupsOnly fitted s))

theorem discardIncrease_kept : NodeKept quiet s₀ (discardIncrease s) := by
  rw [discardIncrease_eq]
  exact h.trans (.of_ports rfl rfl rfl rfl rfl rfl rfl)

theorem applyIncrease_kept : NodeKept quiet s₀ (applyIncrease s) := by
  obtain ⟨t, ht, heq⟩ := applyIncrease_eq s
  rw [heq]
  exact (h.trans (.of_groupsOnly ht)).trans (.of_ports rfl rfl rfl rfl rfl rfl rfl)

theorem startStagger_kept : NodeKept quiet s₀ (startStagger s) := by
  unfold startStagger
  dsimp only
  split
  · exact .ite (applyIncrease_kept (modHeat_kept h _)) (modHeat_kept h _)
  · exact h

theorem formIncrease_kept (fitted : List Nat) : NodeKept quiet s₀ (formIncrease fitted s) := by
  unfold formIncrease
  exact .ite (modHeat_kept h _) h

theorem updateIncrease_kept (fitted : List Nat) : NodeKept quiet s₀ (updateIncrease fitted s) := by
  unfold updateIncrease
  split
  · exact formIncrease_kept h fitted
  · exact .ite (formIncrease_kept (discardIncrease_kept h) fitted) (modHeat_kept h _)

theorem heatOutward_kept (f : SweepOut) : NodeKept quiet s₀ (heatOutward f s).2 := by
  unfold heatOutward
  exact startStagger_kept (modHeat_kept h _)

theorem allottedReturn_kept (l : HeatLatch) (r : Nat) : NodeKept quiet s₀ (allottedReturn l r s).2 := by
  unfold allottedReturn
  dsimp only
  exact modHeat_kept (updateIncrease_kept (lowerGroups_kept (modHeat_kept h _) _) _) _

theorem unlatchedReturn_kept : NodeKept quiet s₀ (unlatchedReturn s) := by
  unfold unlatchedReturn
  exact modHeat_kept (discardIncrease_kept
    ((modHeat_kept h _).foldl_of (fun s g => lowerGroup_kept (.refl s) g 0) _)) _

theorem heatReturn_kept (sequence : Byte) (r : Nat) (matching : Bool) :
    NodeKept quiet s₀ (heatReturn sequence r matching s).2 := by
  unfold heatReturn
  split
  · split
    · split
      · exact allottedReturn_kept h _ r
      · dsimp only
        exact modHeat_kept (unlatchedReturn_kept h) _
    · exact unlatchedReturn_kept h
  · exact unlatchedReturn_kept h

theorem faultGroup_kept (g : Nat) (cause : GroupFault) : NodeKept quiet s₀ (faultGroup g cause s) := by
  unfold faultGroup
  exact raise_kept (modHeat_kept (discardIncrease_kept (offerGroup_kept (modGroup_kept h g _) g 0)) _) _ _ _

theorem groupRoundStart_kept (g : Nat) : NodeKept quiet s₀ (groupRoundStart g s) := by
  unfold groupRoundStart
  split
  · exact h
  · exact .ite (offerGroup_kept h g 0) (.ite (faultGroup_kept (modGroup_kept h g _) g _) (modGroup_kept h g _))

theorem heatRoundStart_kept : NodeKept quiet s₀ (heatRoundStart s) :=
  h.foldl_of (fun s g => groupRoundStart_kept (.refl s) g) _

/-! ## The Consist Unit without the census -/

theorem stopSweeping_kept : NodeKept quiet s₀ (stopSweeping s) := by
  unfold stopSweeping
  exact modDoor_kept (modSweep_kept h _) _

theorem setConsistState_kept (st : ConsistState) : NodeKept quiet s₀ (setConsistState st s) := by
  unfold setConsistState
  exact .ite (stopSweeping_kept (modConsist_kept h _)) (modConsist_kept h _)

theorem setGeneration_kept (g : Byte) : NodeKept quiet s₀ (setGeneration g s) := by
  unfold setGeneration heatGenerationChanged
  exact .ite h (discardIncrease_kept (modHeat_kept (modSweep_kept (modRelay_kept (modConsist_kept h _) _) _) _))

theorem startHeadless_kept : NodeKept quiet s₀ (startHeadless s) := by
  unfold startHeadless
  exact modDoor_kept h _

theorem enterUnknown_kept : NodeKept quiet s₀ (enterUnknown s) := by
  unfold enterUnknown
  exact .ite (startHeadless_kept (setGeneration_kept (modConsist_kept (setConsistState_kept h _) _) _))
    (setGeneration_kept (modConsist_kept (setConsistState_kept h _) _) _)

theorem commit_kept (g : Byte) (m : List ConsistEntry) : NodeKept quiet s₀ (commit g m s) := by
  unfold commit stopHeadless
  exact modDoor_kept (setGeneration_kept (modConsist_kept (setConsistState_kept h _) _) _) _

theorem enterOwnChange_kept (id : ChangeId) : NodeKept quiet s₀ (enterOwnChange id s) := by
  unfold enterOwnChange
  exact .ite h (modRelay_kept h _)

theorem announceChange_kept : NodeKept False s₀ (announceChange s) := by
  unfold announceChange
  exact broadcast_kept (enterOwnChange_kept (modConsist_kept h _) _) _

theorem changeEffect_kept : NodeKept quiet s₀ (changeEffect s) := by
  unfold changeEffect
  dsimp only
  split
  · exact modConsist_kept (setConsistState_kept h _) _
  · exact modConsist_kept h _
  · exact modConsist_kept h _
  · exact h

theorem leaveCensus_kept : NodeKept quiet s₀ (leaveCensus s) := by
  unfold leaveCensus
  dsimp only
  split
  · exact setConsistState_kept (modConsist_kept h _) _
  · exact modConsist_kept (setConsistState_kept (modConsist_kept h _) _) _
  · exact enterUnknown_kept (modConsist_kept h _)
  · exact modConsist_kept h _

theorem clearRequestBits_kept : NodeKept quiet s₀ (clearRequestBits s) := by
  unfold clearRequestBits
  exact modSweep_kept h _

theorem loseValidity_kept : NodeKept False s₀ (loseValidity s) := by
  unfold loseValidity
  extract_lets counting s1 s2 s3 s4
  have h2 : NodeKept quiet s₀ s2 := modConsist_kept (clearRequestBits_kept (stopSweeping_kept h)) _
  have h3 : NodeKept quiet s₀ s3 := .ite (modConsist_kept h2 _) h2
  have h4 : NodeKept False s₀ s4 := changeEffect_kept (announceChange_kept h3)
  exact .ite (leaveCensus_kept h4) h4

theorem setClaims_kept (c1 c2 : Bool) : NodeKept quiet s₀ (setClaims c1 c2 s) := by
  unfold setClaims
  exact .ite h (modConsist_kept h _)

/-- A node that drops a VALID claim sends a CHANGE; any other sends nothing. -/
theorem dropClaims_kept (hlead : quiet → LeadKept s (dropClaims s)) : NodeKept quiet s₀ (dropClaims s) := by
  unfold dropClaims at hlead ⊢
  dsimp only at hlead ⊢
  split
  · next hvalid =>
    rw [if_pos hvalid] at hlead
    refine .of_loud (loseValidity_kept (modConsist_kept (setClaims_kept h _ _) _)) fun hq => ?_
    have hstatus := hlead hq (by simpa [State.actsAsHead] using hvalid)
    rw [loseValidity_status] at hstatus
    exact absurd hstatus (show ClaimStatus.none ≠ .valid by decide)
  · exact modConsist_kept (setClaims_kept h _ _) _

theorem cabLost_kept (hlead : quiet → LeadKept s (cabLost s)) : NodeKept quiet s₀ (cabLost s) := by
  unfold cabLost at hlead ⊢
  dsimp only at hlead ⊢
  refine raise_kept (clearRequestBits_kept (dropClaims_kept (modBus_kept h _) fun hq hvalid => ?_)) _ _ _
  have hstatus := hlead hq hvalid
  rwa [(raise_egress _ _ _ _).consist] at hstatus

/-! ## Rounds and sweeps -/

theorem takeCabOutcome_kept (t : CabTally) (hlead : quiet → LeadKept s (takeCabOutcome t s)) :
    NodeKept quiet s₀ (takeCabOutcome t s) := by
  unfold takeCabOutcome at hlead ⊢
  dsimp only at hlead ⊢
  by_cases hserved : (!s.cabServed) = true
  · rw [if_pos hserved]
    exact h
  · rw [if_neg hserved] at hlead ⊢
    by_cases hanswered : t.answered = true
    · rw [if_pos hanswered]
      exact modBus_kept h _
    · rw [if_neg hanswered] at hlead ⊢
      by_cases hended : t.ended = true
      · rw [if_pos hended] at hlead ⊢
        split
        · next hlost =>
          rw [if_pos hlost] at hlead
          exact cabLost_kept (modBus_kept h _) hlead
        · exact modBus_kept h _
      · rw [if_neg hended]
        exact h

theorem finishRound_kept : NodeKept quiet s₀ (finishRound s) := by
  unfold finishRound
  exact .ite (modBus_kept h _) h

theorem overrunRound_kept : NodeKept quiet s₀ (overrunRound s) := by
  unfold overrunRound
  exact .ite (.ite (raise_kept (modBus_kept (modBus_kept h _) _) _ _ _) (modBus_kept h _)) h

theorem endCabEntry_kept (hlead : quiet → LeadKept s (endCabEntry s)) : NodeKept quiet s₀ (endCabEntry s) := by
  unfold endCabEntry at hlead ⊢
  cases hcab : s.bus.cab with
  | none => exact h
  | some c =>
    rw [hcab] at hlead
    dsimp only at hlead ⊢
    split
    · exact modBus_kept (modBus_kept h _) _
    · next hflight =>
      refine takeCabOutcome_kept (modBus_kept h _) _ fun hq => ?_
      have hkept := hlead hq
      split at hkept
      · next hcabflight => exact absurd hcabflight (hflight _)
      · exact hkept

theorem placeCabEntry_kept (hlead : quiet → LeadKept s (placeCabEntry s)) : NodeKept quiet s₀ (placeCabEntry s) := by
  have hend : NodeKept quiet s₀ (endCabEntry s) := endCabEntry_kept h fun hq hvalid => by
    have hstatus := hlead hq hvalid
    rwa [placeCabEntry_consist] at hstatus
  unfold placeCabEntry
  exact .ite (modBus_kept hend _) hend

/-- A round start sends nothing but notices, where it does not cost the node its lead. -/
theorem roundStart_kept (duration : Nat) (hlead : quiet → LeadKept s (roundStart duration s)) :
    NodeKept quiet s₀ (roundStart duration s) := by
  have hplace := roundStart_consist duration s
  unfold roundStart
  refine heatRoundStart_kept (doorRoundStart_kept (arbitrate_kept (finishRound_kept (placeCabEntry_kept
    (modBus_kept (overrunRound_kept (modBus_kept h _)) _) fun hq hvalid => ?_))))
  rw [State.modBus_consist, overrunRound_consist, State.modBus_consist] at hvalid
  rw [← hplace]
  exact hlead hq hvalid

theorem outwardStart_kept (f : SweepOut) (hlead : quiet → LeadKept s (outwardStart f s)) :
    NodeKept quiet s₀ (outwardStart f s) := by
  have hround := roundStart_kept (modSweep_kept h (Sweep.latchOut f)) (2 * clampPeriod f.period) fun hq hvalid => by
    have hstatus := hlead hq hvalid
    rwa [outwardStart_consist] at hstatus
  unfold outwardStart
  exact .ite hround (warnReleased_kept hround)

theorem processOutward_kept (f : SweepOut) (hlead : quiet → LeadKept s (processOutward f s).2) :
    NodeKept quiet s₀ (processOutward f s).2 := by
  unfold processOutward
  exact heatOutward_kept (outwardStart_kept h f fun hq hvalid => by
    have hstatus := hlead hq hvalid
    rwa [processOutward_consist] at hstatus) _

theorem evalTrainProof_kept (t : Tally) : NodeKept quiet s₀ (evalTrainProof t s) := by
  unfold evalTrainProof
  exact modDoor_kept h _

theorem completeReturn_kept (f : SweepBack) : NodeKept quiet s₀ (completeReturn f s) := by
  unfold completeReturn
  dsimp only
  exact report_kept (evalTrainProof_kept (heatReturn_kept h _ _ _) _) _ _ _

theorem launchFrames_kept : NodeKept False s₀ (launchFrames s) := by
  unfold launchFrames useSequence
  dsimp only
  have hout := processOutward_kept (modSweep_kept h.loud
    (fun w => { w with nextSequence := w.nextSequence + 1#8 })) (builtSweep s) False.elim
  exact .ite (modSweep_kept (offerFrame_kept hout _ _) _) hout

theorem localSweep_kept : NodeKept False s₀ (localSweep s) := by
  unfold localSweep useSequence
  dsimp only
  have hout := processOutward_kept (modSweep_kept h.loud
    (fun w => { w with nextSequence := w.nextSequence + 1#8 })) (builtSweep s) False.elim
  exact .ite (modSweep_kept (completeReturn_kept hout _) _) hout

theorem launch_kept : NodeKept False s₀ (launch s) := .ite (localSweep_kept h) (launchFrames_kept h)

theorem startSweeping_kept : NodeKept False s₀ (startSweeping s) := by
  unfold startSweeping
  exact launch_kept (modDoor_kept (modSweep_kept h _) _)

/-! ## The census and the lead -/

theorem commitAsHead_kept (g : Byte) (m : List ConsistEntry) : NodeKept False s₀ (commitAsHead g m s) := by
  unfold commitAsHead
  exact startSweeping_kept (raise_kept (modConsist_kept (commit_kept h g m) _) _ _ _)

theorem startCensus_kept : NodeKept False s₀ (startCensus s) := by
  unfold startCensus
  extract_lets claimed tail s1 g s2 own s3 s4
  have h2 : NodeKept False s₀ s2 := modConsist_kept (modConsist_kept h.loud _) _
  have h4 : NodeKept False s₀ s4 := modConsist_kept (sendCensus_kept h2 _ _ _ _) _
  exact .ite (.ite h4 (setConsistState_kept h4 _)) (commitAsHead_kept h2 _ _)

theorem applyChange_kept : NodeKept False s₀ (applyChange s) := by
  unfold applyChange
  exact .ite (startCensus_kept (modConsist_kept (changeEffect_kept h) _)) (changeEffect_kept h.loud)

theorem originateChange_kept : NodeKept False s₀ (originateChange s) := applyChange_kept (announceChange_kept h)

theorem flushNotices_kept : NodeKept quiet s₀ (flushNotices s) := by
  unfold flushNotices offerCabNotice
  exact (modReq_kept h _).foldl_of (fun s _ => offerCab_kept (.refl s) _) _

theorem claimNotice_kept (status : ClaimStatus) : NodeKept quiet s₀ (claimNotice status s) := by
  unfold claimNotice
  cases status with
  | conflict | blocked => exact enqueueNotice_kept h _
  | none | valid => exact h

theorem evalClaims_kept : NodeKept False s₀ (evalClaims s) := by
  unfold evalClaims
  extract_lets old status s1 s2
  have h1 : NodeKept False s₀ s1 := modConsist_kept h.loud _
  have h2 : NodeKept False s₀ s2 := claimNotice_kept h1 _
  exact .ite h.loud (.ite (originateChange_kept (flushNotices_kept h1)) (.ite (loseValidity_kept h2) h2))

theorem finish_kept : NodeKept quiet s₀ (finish s) := h.trans (.of_egress (finish_egress s) fun p => finish_laneRun p s)

end

end Sys2Proof.Machine
end

section
/-! Lock taken in DOWN (R22 to R25). -/

namespace Sys2Proof.Machine

open Sys2Proof

theorem tryLock_takes {p : PortId} {s : State} (hdown : (s.port p).link = .down) (hsignal : (s.port p).signal = true)
    (hinterval : (s.port p).dropInterval = none) (hholdoff : (s.port p).contactHoldoff = none) :
    tryLock p s = enterSettling p s := by
  unfold tryLock
  exact if_pos ⟨hdown, hsignal, hinterval, hholdoff⟩

theorem tryLock_waits {p : PortId} {s : State}
    (h : (s.port p).dropInterval ≠ none ∨ (s.port p).contactHoldoff ≠ none) : tryLock p s = s := by
  unfold tryLock
  exact if_neg fun ⟨_, _, hinterval, hholdoff⟩ => h.elim (fun h => h hinterval) (fun h => h hholdoff)

/-- The link side of a port that enters SETTLING. -/
def Port.settling (q : Port) : Port :=
  { q with
    link := .settling, settle := { candidate := none, count := 0, time := some 1500 }, helloTimer := some 100 }

theorem enterSettling_eq (p : PortId) (s : State) :
    enterSettling p s = evalClaims (sendHello p .plain .plain (s.modPort p Port.settling)) := rfl

theorem sendHello_kept (p : PortId) (v : HelloVariant) (mark : Mark) (s : State) :
    NodeKept False s (sendHello p v mark s) :=
  .of_sending (offer_egress p _ s) (offer_sendingKept p _ s)

/-- A port that enters SETTLING holds the settle progress and timers of R25, and sends its first HELLO (R24). -/
theorem enterSettling_port (p : PortId) (s : State) :
    ((finish (enterSettling p s)).port p).linkSide = (s.port p).settling.linkSide
      ∧ ((s.port p).urgent = [] → (s.port p).transmitter = none → (s.port p).testDue = false →
          ∃ e, ((finish (enterSettling p s)).port p).transmitter = some e ∧ e.frame.kind = 0x01#8
            ∧ e.frame.payload = helloPayload s.identity p.cabEnd s.consist.generation .plain) := by
  let settling : State := s.modPort p Port.settling
  have hport : settling.port p = (s.port p).settling := by simp [settling]
  have hkept : NodeKept False (sendHello p .plain .plain settling) (finish (enterSettling p s)) := by
    rw [enterSettling_eq]
    exact finish_kept (evalClaims_kept (NodeKept.refl (quiet := False) _))
  refine ⟨?_, fun hurgent hfree hdue => ?_⟩
  · rw [((sendHello_kept p .plain .plain settling).trans hkept).link p, hport]
  · let e : LaneEntry :=
      { frame := buildFrame settling Config.kindHello 0#8 0#8
          (helloPayload settling.identity p.cabEnd settling.consist.generation .plain)
        mark := .plain }
    have hsent : sendHello p .plain .plain settling = settling.modPort p fun q => { q with transmitter := some e } :=
      offer_idle rfl (.inr (by rw [hport]; rfl)) (by rw [hport]; exact hdue) (by rw [hport]; exact hurgent)
        (by rw [hport]; exact hfree)
    refine ⟨e, hkept.sending p e (by rw [hsent]; simp), rfl, ?_⟩
    simp [e, buildFrame, buildFrameIn, settling]

/-- Settles O8. -/
theorem lockTakesAPortFromDownToSettling : Obligations.LockTakesAPortFromDownToSettling := by
  intro p s hpower hdown
  dsimp only
  have hlive : ∀ f : State → State, live f s = .next (finish (f s)) := fun f => live_powered f s hpower
  have settles : ∀ (u : State) (c : Instr), exec c s = .next (finish (tryLock p u)) → (u.port p).link = .down →
      (u.port p).signal = true → (u.port p).dropInterval = none → (u.port p).contactHoldoff = none →
      (u.port p).lastDown = (s.port p).lastDown → (u.port p).urgent = (s.port p).urgent →
      (u.port p).transmitter = (s.port p).transmitter → (u.port p).testDue = (s.port p).testDue →
      u.identity = s.identity → u.consist = s.consist →
      ∃ t, exec c s = .next t ∧ (t.port p).link = .settling ∧ (t.port p).signal = true
        ∧ (t.port p).settle = { candidate := none, count := 0, time := some 1500 }
        ∧ (t.port p).helloTimer = some 100 ∧ (t.port p).dropInterval = none
        ∧ (t.port p).contactHoldoff = none ∧ (t.port p).lastDown = (s.port p).lastDown
        ∧ ((s.port p).urgent = [] → (s.port p).transmitter = none → (s.port p).testDue = false →
            ∃ e, (t.port p).transmitter = some e ∧ e.frame.kind = 0x01#8
              ∧ e.frame.payload = helloPayload s.identity p.cabEnd s.consist.generation .plain) := by
    intro u c hexec hlink hsignal hinterval hholdoff hlast hurgent htransmitter hdue hidentity hconsist
    obtain ⟨hside, hsends⟩ := enterSettling_port p u
    rw [hurgent, htransmitter, hdue, hidentity, hconsist] at hsends
    have field : ∀ {α : Type} (g : Port → α), (∀ q : Port, g q.linkSide = g q) →
        g ((finish (enterSettling p u)).port p) = g (u.port p).settling :=
      fun g hg => Port.field_of_linkSide g hg hside
    rw [tryLock_takes hlink hsignal hinterval hholdoff] at hexec
    exact ⟨_, hexec, field Port.link fun _ => rfl, (field Port.signal fun _ => rfl).trans hsignal,
      field Port.settle fun _ => rfl, field Port.helloTimer fun _ => rfl,
      (field Port.dropInterval fun _ => rfl).trans hinterval,
      (field Port.contactHoldoff fun _ => rfl).trans hholdoff, (field Port.lastDown fun _ => rfl).trans hlast, hsends⟩
  have hgained : exec (.lockGained p) s =
      .next (finish (tryLock p (s.modPort p fun q => { q with signal := true }))) := by
    rw [show exec (.lockGained p) s = live (gainLock p) s from rfl, hlive]
    unfold gainLock
    dsimp only
    rw [State.modPort_port_self]
    dsimp only
    rw [hdown]
  refine ⟨fun hinterval hholdoff => ?_, fun hinterval hholdoff hsignal => ?_, fun hholdoff hsignal => ?_,
    fun hruns => ?_⟩
  · exact settles _ _ hgained (by simp [hdown]) (by simp) (by simp [hinterval]) (by simp [hholdoff]) (by simp)
      (by simp) (by simp) (by simp) (by simp) (by simp)
  · refine settles (s.modPort p fun q => { q with dropInterval := none }) _ ?_ (by simp [hdown]) (by simp [hsignal])
      (by simp) (by simp [hholdoff]) (by simp) (by simp) (by simp) (by simp) (by simp) (by simp)
    rw [show exec (.dropIntervalEnd p) s = live (dropIntervalEnds p) s from rfl, hlive, dropIntervalEnds,
      Option.isSome_iff_ne_none.mpr hinterval, hholdoff]
    rfl
  · refine settles (s.modPort p fun q => { q with dropInterval := none, contactHoldoff := none }) _ ?_
      (by simp [hdown]) (by simp [hsignal]) (by simp) (by simp) (by simp) (by simp) (by simp) (by simp) (by simp)
      (by simp)
    rw [show exec (.contactHoldoffEnd p) s = live (contactHoldoffEnds p) s from rfl, hlive, contactHoldoffEnds,
      Option.isSome_iff_ne_none.mpr hholdoff]
    rfl
  · rw [hgained, tryLock_waits (by simpa using hruns)]

end Sys2Proof.Machine
end

section
/-! CHANGE: what one makes of the node before the census it starts at a head (R9, R10, R42, R43, R46). -/

namespace Sys2Proof.Machine

open Sys2Proof

/-! ## The effect of a CHANGE -/

/-- The node after a CHANGE has acted on it, before the census it starts at a head (R43, R46). -/
def changeActed (s : State) : State :=
  (changeEffect s).modConsist fun c =>
    { c with conflictHold := if s.consist.status = .valid then false else c.conflictHold }

/-- A CHANGE acts on the node, and at a head it starts a census. -/
theorem applyChange_eq (s : State) :
    applyChange s = if s.consist.status = .valid then startCensus (changeActed s) else changeActed s := by
  unfold applyChange changeActed State.actsAsHead
  simp only [changeEffect_status, decide_eq_true_eq]
  split <;> rfl

theorem changeActed_consist (s : State) : (changeActed s).consist = s.consist.afterChange := by
  have hchange := changeEffect_consist s
  unfold changeActed Consist.afterChange State.modConsist
  cases hstate : s.consist.state <;> simp only [hstate] at hchange <;> simp only [hchange, hstate]

/-- A CHANGE touches the Consist Unit and, where it takes the node out of SETTLED, the sweeping of the head. -/
theorem changeEffect_eq (s : State) :
    changeEffect s =
      { s with
        consist := (changeEffect s).consist
        sweep := if s.consist.state = .settled then { s.sweep with periodTimer := none, outstanding := none }
          else s.sweep
        door := if s.consist.state = .settled then { s.door with trainProof := false } else s.door } := by
  unfold changeEffect
  split <;> rename_i hstate <;> simp [hstate, setConsistState_eq, State.modConsist]

theorem changeActed_eq (s : State) :
    changeActed s =
      { s with
        consist := s.consist.afterChange
        sweep := if s.consist.state = .settled then { s.sweep with periodTimer := none, outstanding := none }
          else s.sweep
        door := if s.consist.state = .settled then { s.door with trainProof := false } else s.door } := by
  rw [← changeActed_consist]
  unfold changeActed State.modConsist
  rw [changeEffect_eq]

/-- Sweeping stops where the CHANGE takes the node out of SETTLED, and goes on where it does not. -/
theorem changeActed_sweeping (s : State) :
    (s.consist.state = .settled → SweepingStopped s (changeActed s))
      ∧ (s.consist.state ≠ .settled → (changeActed s).sweep = s.sweep ∧ (changeActed s).door = s.door) := by
  rw [changeActed_eq]
  exact ⟨fun h => ⟨if_pos h, if_pos h⟩, fun h => ⟨if_neg h, if_neg h⟩⟩

@[simp] theorem changeActed_port (p : PortId) (s : State) : (changeActed s).port p = s.port p := by
  rw [changeActed_eq]
  rfl

@[simp] theorem changeActed_relay (s : State) : (changeActed s).relay = s.relay := by rw [changeActed_eq]

@[simp] theorem changeActed_leaves (s : State) : (changeActed s).door.leaves = s.door.leaves := by
  rw [changeActed_eq]
  dsimp only
  split <;> rfl

/-! ## The list of change ids (R10) -/

theorem Relay.knows_iff (id : ChangeId) (r : Relay) : r.knows id = true ↔ ∃ x ∈ r.changeIds, x.id = id := by
  simp [Relay.knows]

theorem Relay.knows_eq_false (id : ChangeId) (r : Relay) :
    r.knows id = false ↔ ∀ x ∈ r.changeIds, x.id ≠ id := by
  simp [Relay.knows]

theorem Relay.enterChange_eq (id : ChangeId) (r : Relay) :
    Relay.enterChange id r =
      { r with
        changeIds := (if 8 ≤ r.changeIds.length then r.changeIds.tail else r.changeIds)
          ++ [{ id := id, left := 10000 }] } := by
  simp [Relay.enterChange, Config.changeIdListSize, Config.changeIdMs]

theorem readChange_of_length {payload : List Byte} (h : payload.length ≠ 7) : readChange payload = none := by
  unfold readChange
  split
  · exact absurd rfl h
  · rfl

/-! ## A received CHANGE -/

/-- A frame that is accepted is counted at its port and goes to its consumer. -/
theorem live_accepted {p : PortId} {kind : Byte} {h : Header} {payload : List Byte} {s : State}
    (ha : Accepted p kind h payload s) (h1 : kind ≠ Config.kindHello) (h2 : kind ≠ Config.kindTest) :
    live (receive p { kind := kind, header := h, payload := payload }) s =
      .next (finish (relayAccepted p { kind := kind, header := h, payload := payload }
        (s.modPort p Port.countGood))) := by
  rw [live_powered _ s ha.1, receive_accepted p kind h payload s ha h1 h2]

theorem exec_change {p : PortId} {h : Header} {payload : List Byte} {s : State}
    (ha : Accepted p 0x03#8 h payload s) :
    exec (.change p h payload) s =
      .next (finish (relayChange p { kind := 0x03#8, header := h, payload := payload }
        (s.modPort p Port.countGood))) :=
  live_accepted ha (by decide) (by decide)

/-- A CHANGE counted at its port and handed on through the other port. -/
def changePassed (p : PortId) (f : Frame) (s : State) : State := forward p f (s.modPort p Port.countGood)

theorem changePassed_egress (p : PortId) (f : Frame) (s : State) :
    EgressOnly (s.modPort p Port.countGood) (changePassed p f s) := offerIfCarrying_egress _ f _

@[simp] theorem changePassed_relay (p : PortId) (f : Frame) (s : State) : (changePassed p f s).relay = s.relay := by
  simp [changePassed, forward]

theorem changePassed_port (p : PortId) (f : Frame) (s : State) :
    (changePassed p f s).port p = (s.port p).countGood := by
  have h := offerIfCarrying_port_other p.other f (s.modPort p Port.countGood)
  rw [PortId.other_other] at h
  exact h.trans (by simp)

theorem changePassed_joins (p : PortId) {f : Frame} (s : State) (h : isNormalKind f.kind = false) :
    JoinsUrgent p.other f s (changePassed p f s)
      ∧ ((s.port p.other).carries = false → (changePassed p f s).port p.other = s.port p.other) := by
  obtain ⟨hjoin, hstay⟩ := offerIfCarrying_joins p.other (s.modPort p Port.countGood) h
  have hother : (s.modPort p Port.countGood).port p.other = s.port p.other := by simp
  exact ⟨hjoin.congr hother.symm rfl, fun hc => (hstay (hother ▸ hc)).trans hother⟩

/-! ## A CHANGE of the node's own -/

/-- The node with the next counter value taken, its copies to follow, and its id entered (R10, R42). -/
def ownChangeEntered (s : State) : State :=
  { s with
    consist := { s.consist with
      changeCounter := s.consist.changeCounter + 1#8
      copies := s.consist.copies ++ [{ counter := s.consist.changeCounter + 1#8, copies := 2, timer := 100 }] }
    relay := if s.relay.knows (s.identity, s.consist.changeCounter + 1#8) then s.relay
      else s.relay.enterChange (s.identity, s.consist.changeCounter + 1#8) }

theorem announceChange_eq (s : State) :
    announceChange s =
      broadcast
        { kind := 0x03#8, header := broadcastHeader s.consist.generation s.sourcePosition
          payload := changePayload (s.identity, s.consist.changeCounter + 1#8) }
        (ownChangeEntered s) := by
  have henter : enterOwnChange (s.identity, s.consist.changeCounter + 1#8) (s.modConsist fun c => { c with
        changeCounter := s.consist.changeCounter + 1#8
        copies := c.copies ++ [{ counter := s.consist.changeCounter + 1#8, copies := 2, timer := 100 }] }) =
      ownChangeEntered s := by
    unfold enterOwnChange ownChangeEntered State.modRelay State.modConsist
    dsimp only
    split <;> rfl
  unfold announceChange
  dsimp only [Config.changeRepeatMs]
  rw [State.modConsist_identity, henter]
  rfl

theorem announceChange_egress (s : State) : EgressOnly (ownChangeEntered s) (announceChange s) := by
  rw [announceChange_eq]
  exact broadcast_egress _ _

theorem announceChange_relay (s : State) : (announceChange s).relay = (ownChangeEntered s).relay := by
  rw [announceChange_eq]
  exact broadcast_relay _ _

theorem announceChange_copySent (s : State) : CopySent (s.consist.changeCounter + 1#8) s (announceChange s) := by
  rw [announceChange_eq]
  intro p
  obtain ⟨hjoin, hstay⟩ := broadcast_joins (ownChangeEntered s) (f :=
    { kind := 0x03#8, header := broadcastHeader s.consist.generation s.sourcePosition
      payload := changePayload (s.identity, s.consist.changeCounter + 1#8) }) rfl p
  have hport : (ownChangeEntered s).port p = s.port p := by cases p <;> rfl
  exact ⟨hjoin.congr hport.symm rfl, fun hc => (hstay (hport ▸ hc)).trans hport⟩

theorem CopySent.congr {counter : Byte} {s t t' : State} (h : CopySent counter s t)
    (hport : ∀ p, t'.port p = t.port p) : CopySent counter s t' := fun p =>
  ⟨(h p).1.congr rfl (hport p), fun hc => (hport p).trans ((h p).2 hc)⟩

/-- Settles O21: a CHANGE goes on, and acts on the node once; one of the node's own is announced and acts in the
same way. -/
theorem changeActsOnce : Obligations.ChangeActsOnce := by
  unfold Obligations.ChangeActsOnce
  refine ⟨fun p h id s ha => ?_, fun p h payload s ha hlen => ?_, fun s => ?_⟩
  · dsimp only
    generalize hf : ({ kind := 0x03#8, header := h, payload := changePayload id } : Frame) = f
    have hkind : isNormalKind f.kind = false := by rw [← hf]; rfl
    have hread : readChange f.payload = some id := by rw [← hf]; exact readChange_changePayload id
    have hrow := exec_change ha
    rw [hf, relayChange, hread] at hrow
    dsimp only at hrow
    rw [show forward p f (s.modPort p Port.countGood) = changePassed p f s from rfl, changePassed_relay] at hrow
    have hcore := changePassed_egress p f s
    have hconsist : (changePassed p f s).consist = s.consist := hcore.consist.trans (by simp)
    have hsweep : (changePassed p f s).sweep = s.sweep := hcore.sweep.trans (by simp)
    have hdoor : (changePassed p f s).door = s.door := hcore.door.trans (by simp)
    have hheat : (changePassed p f s).heat = s.heat := hcore.heat.trans (by simp)
    have hstore : (changePassed p f s).store = s.store := hcore.store.trans (by simp)
    have hpins : (changePassed p f s).pins = s.pins := hcore.pins.trans (by simp)
    obtain ⟨hjoin, hstay⟩ := changePassed_joins p s hkind
    have hport := changePassed_port p f s
    have hrelay := changePassed_relay p f s
    generalize changePassed p f s = u at *
    constructor
    · intro hnew
      rw [(Relay.knows_eq_false id s.relay).mpr hnew, if_neg Bool.false_ne_true, applyChange_eq] at hrow
      have hsweeping := changeActed_sweeping (u.modRelay (Relay.enterChange id))
      refine ⟨changeActed (u.modRelay (Relay.enterChange id)), ?_, ⟨hjoin.congr rfl ?_, fun hc => ?_, ?_, ?_, ?_, ?_, ?_⟩, ?_, ?_, ?_, ?_⟩
      · rw [hrow, State.modRelay_consist, hconsist]
      · simp
      · simpa using hstay hc
      · simpa using hport
      · simp [hdoor]
      · simp [changeActed_eq, hheat]
      · simp [changeActed_eq, hstore]
      · simp [changeActed_eq, hpins]
      · simp [State.modRelay, Relay.enterChange_eq, hrelay]
      · rw [changeActed_consist, State.modRelay_consist, hconsist]
      · intro hstate
        obtain ⟨hstop, hproof⟩ := hsweeping.1 (by simpa [hconsist] using hstate)
        exact ⟨by simpa [hsweep] using hstop, by simpa [hdoor] using hproof⟩
      · intro hstate
        obtain ⟨hstop, hproof⟩ := hsweeping.2 (by simpa [hconsist] using hstate)
        exact ⟨by simpa [hsweep] using hstop, by simpa [hdoor] using hproof⟩
    · intro hknown
      rw [(Relay.knows_iff id s.relay).mpr hknown, if_pos rfl] at hrow
      refine ⟨countRepeat u, hrow, ⟨hjoin.congr rfl ?_, fun hc => ?_, ?_, ?_, ?_, ?_, ?_⟩, ?_, ?_, ?_, ?_⟩
      · simp [countRepeat]
      · simpa [countRepeat] using hstay hc
      · simpa [countRepeat] using hport
      · simp [countRepeat, hdoor]
      · simp [countRepeat, hheat]
      · simp [countRepeat, hstore]
      · simp [countRepeat, hpins]
      · simp [countRepeat, State.modRelay, hrelay]
      · simp [countRepeat, hconsist]
      · simp [countRepeat, hsweep]
      · simp [countRepeat, hdoor]
  · rw [exec_change ha, relayChange, readChange_of_length hlen]
    rfl
  · extract_lets counter id
    have hcore := announceChange_egress s
    have hsweeping := changeActed_sweeping (announceChange s)
    have hstatus : (announceChange s).consist.status = s.consist.status :=
      (congrArg Consist.status hcore.consist).trans rfl
    have hstate : (announceChange s).consist.state = s.consist.state :=
      (congrArg Consist.state hcore.consist).trans rfl
    have hsweep : (announceChange s).sweep = s.sweep := hcore.sweep
    have hdoor : (announceChange s).door = s.door := hcore.door
    refine ⟨changeActed (announceChange s), ?_, ?_, fun hnew => ?_, fun hknown => ?_, ?_, fun h => ?_, fun h => ?_,
      ?_, ?_, ?_, ?_⟩
    · rw [originateChange, applyChange_eq, hstatus]
    · exact (announceChange_copySent s).congr fun p => changeActed_port p _
    · rw [changeActed_relay, announceChange_relay, ownChangeEntered, (Relay.knows_eq_false id s.relay).mpr hnew]
      exact Relay.enterChange_eq id s.relay
    · rw [changeActed_relay, announceChange_relay, ownChangeEntered, (Relay.knows_iff id s.relay).mpr hknown]
      rfl
    · rw [changeActed_consist, hcore.consist]
      rfl
    · obtain ⟨hstop, hproof⟩ := hsweeping.1 (hstate.trans h)
      exact ⟨by rw [hstop, hsweep], by rw [hproof, hdoor]⟩
    · obtain ⟨hstop, hproof⟩ := hsweeping.2 fun hs => h (hstate.symm.trans hs)
      exact ⟨hstop.trans hsweep, hproof.trans hdoor⟩
    · rw [changeActed_eq]
      exact hcore.heat
    · rw [changeActed_eq]
      exact hcore.store
    · rw [changeActed_eq]
      exact hcore.pins
    · rw [changeActed_eq]
      exact hcore.identity

end Sys2Proof.Machine
end

section
/-! The census timers, starting a census, and what a commit and UNKNOWN leave alone (R44 to R47, R54, R55, R59). -/

namespace Sys2Proof.Machine

open Sys2Proof

/-! ## The next generation (R47 step 2) -/

theorem nextGeneration_byteOf {m : Nat} (h : m ≤ 255) :
    nextGeneration (byteOf m) = BitVec.ofNat 8 (if m = 255 then 1 else m + 1) := by
  unfold nextGeneration byteOf
  by_cases hm : m = 255
  · subst hm
    rfl
  · rw [if_neg fun heq => hm (by simpa [Nat.mod_eq_of_lt (show m < 256 by omega)] using congrArg BitVec.toNat heq),
      if_neg hm]
    exact BitVec.eq_of_toNat_eq (by simp)

theorem nextGeneration_toNat {m : Nat} (h : m ≤ 255) :
    (nextGeneration (byteOf m)).toNat = if m = 255 then 1 else m + 1 := by
  rw [nextGeneration_byteOf h, BitVec.toNat_ofNat]
  exact Nat.mod_eq_of_lt (by split <;> omega)

/-- The generation a census counts from, where its tail-side port carries (R47 step 2). -/
theorem neighbourGeneration_carries {q : Port} (h : q.carries = true) :
    (neighbourGeneration q).toNat =
      match q.neighbour with
      | some n => n.generation.toNat
      | none => 0 := by
  rw [neighbourGeneration, if_pos h]
  cases q.neighbour <;> rfl

theorem Port.carries_iff (q : Port) : q.carries = true ↔ q.link = .up ∨ q.link = .glitch := by
  simp [Port.carries]

/-! ## A commit (R57, R126) -/

@[simp] theorem setGeneration_take (g : Byte) (s : State) : (setGeneration g s).heat.take = s.heat.take := by
  by_cases h : g = s.consist.generation
  · subst h
    simp
  · rw [setGeneration_eq g s h]

theorem commit_eq (g : Byte) (m : List ConsistEntry) (s : State) :
    commit g m s =
      stopHeadless (setGeneration g (s.modConsist fun c =>
        { c with state := .settled, activeMap := m, phase := .none, wait := .stopped })) := by
  unfold commit
  simp [setConsistState_eq, State.modConsist]

@[simp] theorem commit_port (g : Byte) (m : List ConsistEntry) (p : PortId) (s : State) :
    (commit g m s).port p = s.port p := by simp [commit_eq, stopHeadless]

@[simp] theorem commit_store (g : Byte) (m : List ConsistEntry) (s : State) : (commit g m s).store = s.store := by
  simp [commit_eq, stopHeadless]

@[simp] theorem commit_groups (g : Byte) (m : List ConsistEntry) (s : State) :
    (commit g m s).heat.groups = s.heat.groups := by simp [commit_eq, stopHeadless]

/-! ## UNKNOWN (R44, R45, R126, R147) -/

theorem enterUnknown_door (s : State) :
    (enterUnknown s).door =
      { s.door with
        trainProof := if s.consist.state = .settled then false else s.door.trainProof
        headless := if s.consist.state = .unknown then s.door.headless
          else .running (s.store.content.headlessDelay * 1000) } := by
  unfold enterUnknown
  cases h : s.consist.state <;> simp [h, setConsistState_eq, startHeadless, State.modDoor, State.modConsist]

@[simp] theorem enterUnknown_port (p : PortId) (s : State) : (enterUnknown s).port p = s.port p := by
  unfold enterUnknown
  dsimp only
  split <;> simp [startHeadless]

@[simp] theorem enterUnknown_groups (s : State) : (enterUnknown s).heat.groups = s.heat.groups := by
  unfold enterUnknown
  dsimp only
  split <;> simp [startHeadless]

/-! ## A failed attempt (R54) -/

theorem failCensus_consist (why : RollStatus) (s : State) :
    (failCensus why s).consist =
      let c := (leaveCensus (s.modConsist fun c => { c with phase := .none })).consist
      { c with
        attempts := satInc8 c.attempts
        conflictHold := c.conflictHold || decide (why = .leadConflict)
        retryTimer := some 2000 } := by
  unfold failCensus
  dsimp only
  rw [State.modConsist_consist, (raise_egress _ _ _ _).consist]
  rfl

/-! ## Starting a census (R47) -/

theorem sendCensus_egress (p : PortId) (generation kind : Byte) (payload : List Byte) (s : State) :
    EgressOnly s (sendCensus p generation kind payload s) := offer_egress p _ s

/-- The Consist Unit as a census begins: an attempt in COUNTING is abandoned, the generation is taken. -/
def censusBegun (s : State) : State :=
  s.modConsist fun c =>
    { c with
      retryTimer := none
      rollTimer := if c.phase = .counting then none else c.rollTimer
      phase := if c.phase = .counting then .none else c.phase
      lastGeneration := censusGenerationFor s s.censusTail
      censusGeneration := censusGenerationFor s s.censusTail }

/-- The COUNT of a census that has begun has gone out (R47 step 4). -/
def countSent (s : State) : State :=
  (sendCensus s.censusTail (censusGenerationFor s s.censusTail) Config.kindCount
    (entriesBytes [buildEntry s (headOrientation s.claimedEnd) (some s.claimedEnd)]) (censusBegun s)).modConsist
    fun c => { c with phase := .counting, rollTimer := some 1500 }

theorem countSent_consist (s : State) :
    (countSent s).consist = { (censusBegun s).consist with phase := .counting, rollTimer := some 1500 } := by
  unfold countSent
  rw [State.modConsist_consist, (sendCensus_egress _ _ _ _ _).consist]

theorem countSent_units (s : State) :
    (countSent s).door = s.door ∧ (countSent s).heat = s.heat ∧ (countSent s).store = s.store := by
  have hcore := sendCensus_egress s.censusTail (censusGenerationFor s s.censusTail) Config.kindCount
    (entriesBytes [buildEntry s (headOrientation s.claimedEnd) (some s.claimedEnd)]) (censusBegun s)
  exact ⟨hcore.door, hcore.heat, hcore.store⟩

theorem countSent_joins (s : State) :
    JoinsUrgent s.censusTail
      { kind := 0x04#8, header := linkLocal (censusGenerationFor s s.censusTail) s.sourcePosition
        payload := entriesBytes [buildEntry s (headOrientation s.claimedEnd) (some s.claimedEnd)] } s (countSent s) :=
  JoinsLane.congr (sendCensus_joinsUrgent s.censusTail (censusGenerationFor s s.censusTail) Config.kindCount
    (entriesBytes [buildEntry s (headOrientation s.claimedEnd) (some s.claimedEnd)]) (censusBegun s) rfl)
    (by simp [censusBegun]) (by simp [countSent])

/-- A census goes out as a COUNT, or commits the head alone. -/
theorem startCensus_eq (s : State) :
    startCensus s =
      if (s.port s.censusTail).carries then
        if s.consist.state = .unknown then countSent s else setConsistState .pending (countSent s)
      else
        commitAsHead (censusGenerationFor s s.censusTail)
          [buildEntry s (headOrientation s.claimedEnd) (some s.claimedEnd)] (censusBegun s) := by
  have hstate : (countSent s).consist.state = s.consist.state := by rw [countSent_consist]; rfl
  rw [← hstate]
  rfl

/-- Settles O22: a census goes out as a COUNT through a tail-side port that carries, else the head commits alone. -/
theorem censusStartsAtAHead : Obligations.CensusStartsAtAHead := by
  unfold Obligations.CensusStartsAtAHead
  intro s hpower
  refine ⟨?_, fun hretry => ?_⟩
  · extract_lets tail heard m t next own
    have hheard : heard ≤ 255 := by
      unfold heard
      split
      · next n _ => exact Nat.le_of_lt_succ n.generation.isLt
      · exact Nat.zero_le _
    have hm : m ≤ 255 := max_le (Nat.le_of_lt_succ s.consist.lastGeneration.isLt) hheard
    have hown : buildEntry s (headOrientation s.claimedEnd) (some s.claimedEnd) = own := by
      rfl
    constructor
    · intro hlink
      have hcarries : (s.port tail).carries = true := (Port.carries_iff _).mpr hlink
      have hg : censusGenerationFor s s.censusTail = nextGeneration (byteOf m) := by
        exact congrArg (fun x => nextGeneration (byteOf (max s.consist.lastGeneration.toNat x)))
          (neighbourGeneration_carries hcarries)
      have ht : t = if s.consist.state = .unknown then countSent s else setConsistState .pending (countSent s) := by
        rw [show t = startCensus s from rfl, startCensus_eq, if_pos hcarries]
      have hjoin := countSent_joins s
      rw [hg, nextGeneration_byteOf hm] at hjoin
      obtain ⟨hdoor, hheat, hstore⟩ := countSent_units s
      have hconsist := countSent_consist s
      have hgen : (censusGenerationFor s s.censusTail).toNat = if m = 255 then 1 else m + 1 := by
        rw [hg, nextGeneration_toNat hm]
      by_cases hstate : s.consist.state = .unknown
      · rw [ht, if_pos hstate, hconsist]
        simp only [hdoor, hheat, hstore, hstate, if_true]
        exact ⟨hgen, rfl, trivial, trivial, rfl, hstate, rfl, rfl, rfl, rfl, trivial, trivial, trivial, hjoin⟩
      · rw [ht, if_neg hstate, if_neg hstate, setConsistState_consist, hconsist, setConsistState_heat,
          setConsistState_store, setConsistState_eq]
        refine ⟨hgen, rfl, rfl, rfl, rfl, rfl, rfl, rfl, rfl, rfl, ?_, hheat, hstore, hjoin.congr rfl ?_⟩
        · split <;> simp [hdoor]
        · split <;> rfl
    · intro hup hglitch
      have hcarries : ¬(s.port s.censusTail).carries = true := fun h =>
        ((Port.carries_iff _).mp h).elim hup hglitch
      have hg : censusGenerationFor s s.censusTail = next s.consist.lastGeneration.toNat := by
        unfold censusGenerationFor neighbourGeneration
        dsimp only
        rw [if_neg hcarries, show (0#8).toNat = 0 from rfl, Nat.max_zero,
          nextGeneration_byteOf (Nat.le_of_lt_succ s.consist.lastGeneration.isLt)]
      refine ⟨(commit (next s.consist.lastGeneration.toNat) [own] (censusBegun s)).modConsist fun c =>
        { c with attempts := 0, rollTimer := none }, ?_, ?_, ?_, ?_, ?_, ?_, ?_, ?_⟩
      · rw [show t = startCensus s from rfl, startCensus_eq, if_neg hcarries, hown, hg]
        rfl
      · rw [State.modConsist_consist, commit_consist]
        unfold censusBegun
        rw [hg]
        rfl
      · exact congrArg Door.headless (commit_door _ [own] (censusBegun s))
      · rw [State.modConsist_door, commit_door]
        rfl
      · exact commit_port _ [own] .lp1 (censusBegun s)
      · exact commit_port _ [own] .lp2 (censusBegun s)
      · exact commit_store _ [own] (censusBegun s)
      · exact commit_groups _ [own] (censusBegun s)
  · intro stopped
    have hrow : exec .retryTimeout s = .next (finish
        (if stopped.actsAsHead && !stopped.consist.conflictHold then startCensus stopped else stopped)) := by
      rw [show exec .retryTimeout s = live retryTimerEnds s from rfl, live_powered _ s hpower, retryTimerEnds,
        Option.isSome_iff_ne_none.mpr hretry, onlyIf_true]
      rfl
    rw [hrow]
    refine ⟨fun hvalid hhold => ?_, fun hno => ?_⟩
    · rw [if_pos (by simp [State.actsAsHead, stopped, hvalid, hhold])]
    · rw [if_neg (by simpa [State.actsAsHead, stopped, imp_iff_not_or] using hno)]

/-- Settles O23: each census timer, by the consist state it finds. -/
theorem censusTimersBoundTrust : Obligations.CensusTimersBoundTrust := by
  unfold Obligations.CensusTimersBoundTrust
  refine ⟨fun s hpower => ⟨fun left hwait => ⟨fun hstate => ?_, fun hstate => ?_⟩, fun hhold hphase => ?_⟩,
    fun s hpower hroll hphase => ?_⟩
  · refine ⟨finish (enterUnknown s), ?_, ?_⟩
    · rw [show exec .censusWaitExpiry s = live waitEnds s from rfl, live_powered _ s hpower, waitEnds, hwait, hstate]
    · simp [finish_consist, finish_door, finish_heat, enterUnknown_consist, enterUnknown_door, hstate]
  · rw [show exec .censusWaitExpiry s = live waitEnds s from rfl, live_powered _ s hpower, waitEnds, hwait, hstate]
    rfl
  · refine ⟨finish (leaveCensus (s.modConsist fun c => { c with holdTimer := none, phase := .none })), ?_, ?_⟩
    · rw [show exec .censusHoldTimeout s = live holdEnds s from rfl, live_powered _ s hpower, holdEnds,
        Option.isSome_iff_ne_none.mpr hhold, onlyIf_true]
      exact congrArg (fun t => Host.Outcome.next (finish t)) (if_pos hphase)
    · rw [finish_consist, leaveCensus_consist]
      refine ⟨?_, ?_, ?_, fun left hstate hwait => ?_, fun hstate hwait => ?_⟩
      · dsimp only
        split <;> rfl
      · dsimp only
        split <;> rfl
      · dsimp only
        split <;> rfl
      · simp [State.modConsist, hstate, hwait]
      · simp [State.modConsist, hstate, hwait]
  · refine ⟨finish (failCensus .ok (s.modConsist fun c => { c with rollTimer := none })), ?_, ?_⟩
    · rw [show exec .rollTimeout s = live rollEnds s from rfl, live_powered _ s hpower, rollEnds,
        Option.isSome_iff_ne_none.mpr hroll, onlyIf_true]
      exact congrArg (fun t => Host.Outcome.next (finish t)) (if_pos hphase)
    · rw [finish_consist, failCensus_consist, leaveCensus_consist]
      cases hstate : s.consist.state <;> cases hwait : s.consist.wait <;>
        simp [State.modConsist, hstate, hwait, satInc8]

end Sys2Proof.Machine
end

section
/-! COUNT: the bytes R198 takes as entries, the lists of R49, and drawing the node into a census (R49 to R51). -/

namespace Sys2Proof.Machine

open Sys2Proof

/-! ## Bytes that read as entries (R198) -/

theorem extract_above_byte {v : Nat} (x : BitVec v) (y : Byte) (k : Nat) :
    (x ++ y).extractLsb' (k + 8) 8 = x.extractLsb' k 8 := by
  rw [BitVec.extractLsb'_append_eq_of_le (by omega), Nat.add_sub_cancel]

theorem extract_last_byte {v : Nat} (x : BitVec v) (y : Byte) : (x ++ y).extractLsb' 0 8 = y :=
  (BitVec.extractLsb'_append_eq_of_add_le (by omega)).trans BitVec.extractLsb'_eq_self

theorem idBytes_idOf (a b c d e f : Byte) : idBytes (idOf a b c d e f) = [a, b, c, d, e, f] := by
  have hf := extract_last_byte (a ++ b ++ c ++ d ++ e) f
  have above := fun k => extract_above_byte (a ++ b ++ c ++ d ++ e) f k
  have he := (above 0).trans (extract_last_byte (a ++ b ++ c ++ d) e)
  have above' := fun k => (above (k + 8)).trans (extract_above_byte (a ++ b ++ c ++ d) e k)
  have hd := (above' 0).trans (extract_last_byte (a ++ b ++ c) d)
  have above'' := fun k => (above' (k + 8)).trans (extract_above_byte (a ++ b ++ c) d k)
  have hc := (above'' 0).trans (extract_last_byte (a ++ b) c)
  have hb := ((above'' 8).trans (extract_above_byte (a ++ b) c 0)).trans (extract_last_byte a b)
  have ha := (((above'' 16).trans (extract_above_byte (a ++ b) c 8)).trans (extract_above_byte a b 0)).trans
    BitVec.extractLsb'_eq_self
  exact congr (congrArg List.cons ha) (congr (congrArg List.cons hb) (congr (congrArg List.cons hc)
    (congr (congrArg List.cons hd) (congr (congrArg List.cons he) (congrArg (fun x => [x]) hf)))))

/-- Bytes that read as a consist entry have its fields in range. -/
theorem readEntry_inRange {bs : List Byte} {entry : ConsistEntry} {rest : List Byte}
    (h : readEntry bs = some (entry, rest)) :
    ∃ (identity : Identity) (flags weight leavesA leavesB : Byte) (number : List Byte),
      bs = idBytes identity ++ [flags, weight, leavesA, leavesB, byteOf number.length] ++ number ++ rest
        ∧ (flags.getLsbD 4 && flags.getLsbD 5) = false
        ∧ weight.toNat ≤ 15 ∧ leavesA.toNat ≤ 8 ∧ leavesB.toNat ≤ 8 ∧ number.length ≤ 9
        ∧ ∀ c ∈ number, 0x20 ≤ c.toNat ∧ c.toNat ≤ 0x7E := by
  unfold readEntry at h
  split at h
  case h_2 => cases h
  case h_1 a b c d e f flags weight leavesA leavesB len tail =>
    dsimp only at h
    split at h
    · cases h
    · next claimed hclaim =>
      split at h
      · next hcond =>
        obtain ⟨hweight, hleavesA, hleavesB, hlen, hcount, hprintable⟩ := hcond
        obtain ⟨-, rfl⟩ := Prod.mk.inj (Option.some.inj h)
        refine ⟨idOf a b c d e f, flags, weight, leavesA, leavesB, tail.take len.toNat, ?_, ?_, hweight, hleavesA,
          hleavesB, by omega, fun x hx => ?_⟩
        · rw [idBytes_idOf, hcount]
          simp [byteOf]
        · unfold claimOfFlags at hclaim
          cases h4 : flags.getLsbD 4 <;> cases h5 : flags.getLsbD 5 <;> simp_all
        · simpa [printable] using List.all_eq_true.mp hprintable x hx
      · cases h

theorem readEntries_inRange {n : Nat} {bs : List Byte} {es : List ConsistEntry} (h : readEntries n bs = some es) :
    EntriesInRange n bs := by
  induction n generalizing bs es with
  | zero =>
    unfold readEntries at h
    split at h
    · assumption
    · cases h
  | succ n ih =>
    unfold readEntries at h
    split at h
    · cases h
    · next e rest he =>
      obtain ⟨es', hes', -⟩ := Option.map_eq_some_iff.mp h
      obtain ⟨identity, flags, weight, leavesA, leavesB, number, hbytes, hclaim, hrange⟩ := readEntry_inRange he
      exact ⟨identity, flags, weight, leavesA, leavesB, number, rest, hbytes, hclaim, hrange.1, hrange.2.1,
        hrange.2.2.1, hrange.2.2.2.1, hrange.2.2.2.2, ih hes'⟩

theorem readCount_eq_none {payload : List Byte}
    (h : ¬∃ n rest, payload = n :: rest ∧ EntriesInRange n.toNat rest) : readCount payload = none := by
  refine Option.eq_none_iff_forall_ne_some.mpr fun es hes => h ?_
  unfold readCount at hes
  split at hes
  · next n rest => exact ⟨n, rest, rfl, readEntries_inRange hes⟩
  · cases hes

/-! ## Lists a census could have produced (R49) -/

theorem countListOk_iff (s : State) (es : List ConsistEntry) :
    countListOk s es = true ↔
      es.length ≤ 32 ∧ (∃ e rest, es = e :: rest ∧ e.isHead = true) ∧ (es.map ConsistEntry.identity).Nodup
        ∧ ∀ e ∈ es, e.identity ≠ s.identity := by
  unfold countListOk identitiesDistinct
  cases es with
  | nil => simp
  | cons first rest => simp [Config.consistSize, and_assoc]

/-! ## Drawing the node in (R51) -/

/-- The node in the census of a COUNT that came by port `p`, at a position of its list (R51). -/
def censusJoined (p : PortId) (generation : Byte) (position : Nat) (s : State) : State :=
  let s := s.modConsist fun c =>
    { c with
      pendingMap := none, holdTimer := none, censusGeneration := generation, arrival := some p
      censusPosition := position }
  if s.consist.state = .unknown then s else setConsistState .pending s

theorem censusJoined_consist (p : PortId) (g : Byte) (k : Nat) (s : State) :
    (censusJoined p g k s).consist =
      { s.consist with
        pendingMap := none, holdTimer := none, censusGeneration := g, arrival := some p, censusPosition := k
        state := if s.consist.state = .unknown then .unknown else .pending } := by
  unfold censusJoined
  dsimp only [State.modConsist]
  split
  · next h => rw [h]
  · simp

@[simp] theorem censusJoined_port (p : PortId) (g : Byte) (k : Nat) (q : PortId) (s : State) :
    (censusJoined p g k s).port q = s.port q := by
  unfold censusJoined
  dsimp only
  split <;> simp

/-- A node in a census of another is not SETTLED, so its census frames carry the source position 0 (R1). -/
theorem State.sourcePosition_unsettled {s : State} (h : s.consist.state ≠ .settled) : s.sourcePosition = 0#8 := by
  simp [State.sourcePosition, State.isSettled, h]

/-- What the node does with a COUNT that draws it in, by whether its other port carries. -/
theorem joinCensus_eq (p : PortId) (g : Byte) (es : List ConsistEntry) (s : State) :
    joinCensus p g es s =
      let list := es ++ [buildEntry s (arrivalOrientation p) none]
      let joined := censusJoined p g list.length s
      if (s.port p.other).carries then
        sendCensus p.other g Config.kindCount (entriesBytes list)
          (joined.modConsist fun c => { c with phase := .awaitingRoll, holdTimer := some 1500 })
      else
        sendCensus p g Config.kindRoll (rollPayload .ok list)
          (joined.modConsist fun c => { c with
            phase := .holding, pendingMap := some list, holdTimer := some 1500 }) := by
  have h := congrArg Port.carries
    (censusJoined_port p g (es ++ [buildEntry s (arrivalOrientation p) none]).length p.other s)
  dsimp only
  rw [← h]
  rfl

/-- A census frame joins the urgent lane it is handed to, of the state before what the port does not show. -/
theorem sendCensus_joins {q : PortId} {kind : Byte} {s s' : State} (g : Byte) (payload : List Byte)
    (hkind : isNormalKind kind = false) (hflags : laneFlags kind = 1#8)
    (hcarries : (s'.port q).carries = (s.port q).carries)
    (hurgent : (s'.port q).urgent = (s.port q).urgent) :
    JoinsUrgent q { kind := kind, header := linkLocal g s'.sourcePosition, payload := payload } s
      (sendCensus q g kind payload s') := by
  have h := sendCensus_joinsUrgent q g kind payload s' hkind
  rw [buildFrameIn, hflags] at h
  exact JoinsLane.of_lane h hcarries hurgent

theorem exec_count {p : PortId} {h : Header} {payload : List Byte} {s : State}
    (ha : Accepted p 0x04#8 h payload s) :
    exec (.count p h payload) s =
      .next (finish (takeCount p { kind := 0x04#8, header := h, payload := payload }
        (s.modPort p Port.countGood))) :=
  live_accepted ha (by decide) (by decide)

/-- Settles O24: a COUNT is refused by its bytes or its list, answered by a ROLL, or draws the node in. -/
theorem countDrawsANodeIn : Obligations.CountDrawsANodeIn := by
  unfold Obligations.CountDrawsANodeIn
  refine ⟨fun p h payload s ha hbytes => ?_, fun p h es s ha hrange hlen => ?_⟩
  · rw [exec_count ha, takeCount, readCount_eq_none hbytes]
    rfl
  · extract_lets Plausible joined
    have hok : countListOk (s.modPort p Port.countGood) es = true ↔ Plausible := by
      rw [countListOk_iff, State.modPort_identity]
    have hrow := exec_count ha
    rw [takeCount, readCount_entriesBytes hlen hrange] at hrow
    dsimp only at hrow
    rw [State.modPort_consist] at hrow
    generalize hs' : s.modPort p Port.countGood = s' at *
    have hconsist : s'.consist = s.consist := by rw [← hs', State.modPort_consist]
    have hsource : s'.sourcePosition = s.sourcePosition := by rw [← hs', State.modPort_sourcePosition]
    have hother : s'.port p.other = s.port p.other := by simp [← hs']
    have hlanes : (s'.port p).carries = (s.port p).carries ∧ (s'.port p).urgent = (s.port p).urgent := by
      simp [← hs', Port.carries]
    refine ⟨fun hno => ?_, fun hyes hwhy => ?_, fun hyes hvalid hconflict hroom => ?_⟩
    · rw [hrow, Bool.eq_false_iff.mpr (fun h => hno (hok.mp h))]
      rfl
    · have hanswer : exec (.count p h (entriesBytes es)) s = .next (finish
          (sendCensus p h.generation Config.kindRoll (rollPayload
            (if s.consist.status = .valid ∨ s.consist.status = .conflict then .leadConflict else .tooLong) []) s')) := by
        rw [hrow, hok.mpr hyes, Bool.not_true, if_neg Bool.false_ne_true]
        by_cases hc : s.consist.status = .valid ∨ s.consist.status = .conflict
        · rw [if_pos hc, if_pos hc]
        · have hfull : es.length = Config.consistSize := hwhy.elim (fun h => absurd (.inl h) hc)
            fun hw => hw.elim (fun h => absurd (.inr h) hc) id
          rw [if_neg hc, if_neg hc, if_pos hfull]
      have hcore := sendCensus_egress p h.generation Config.kindRoll (rollPayload
        (if s.consist.status = .valid ∨ s.consist.status = .conflict then .leadConflict else .tooLong) []) s'
      refine ⟨_, hanswer, hcore.consist.trans hconsist, ?_, ?_, ?_, ?_⟩
      · exact hcore.door.trans (by simp [← hs'])
      · exact hcore.heat.trans (by simp [← hs'])
      · exact hcore.sweep.trans (by simp [← hs'])
      · rw [← hsource]
        exact sendCensus_joins _ _ rfl rfl hlanes.1 hlanes.2
    · have hnot : ¬(s.consist.status = .valid ∨ s.consist.status = .conflict) := not_or.mpr ⟨hvalid, hconflict⟩
      rw [hok.mpr hyes, Bool.not_true, if_neg Bool.false_ne_true, if_neg hnot,
        if_neg (show ¬es.length = Config.consistSize from Nat.ne_of_lt hroom), joinCensus_eq, hother] at hrow
      have hjoined : es ++ [buildEntry s' (arrivalOrientation p) none] = joined := by
        rw [← hs']
        unfold buildEntry
        simp only [State.modPort_identity, State.modPort_store]
        rfl
      dsimp only at hrow
      rw [hjoined] at hrow
      have hlength : joined.length = es.length + 1 := by simp [joined]
      have hheld := censusJoined_consist p h.generation joined.length s'
      rw [hlength, hconsist] at hheld
      by_cases hcarries : (s.port p.other).carries = true
      · rw [if_pos hcarries, hlength] at hrow
        have hsent := sendCensus_joins (s := s) (q := p.other) (kind := Config.kindCount)
          (s' := (censusJoined p h.generation (es.length + 1) s').modConsist fun c =>
            { c with phase := .awaitingRoll, holdTimer := some 1500 })
          h.generation (entriesBytes joined) rfl rfl (by simp [hother]) (by simp [hother])
        rw [State.sourcePosition_unsettled (by rw [State.modConsist_consist, hheld]; dsimp only; split <;> decide)]
          at hsent
        refine ⟨_, hrow, ?_⟩
        rw [(sendCensus_egress _ _ _ _ _).consist, State.modConsist_consist, hheld]
        exact ⟨rfl, rfl, rfl, rfl, rfl, rfl, rfl, rfl, fun _ => ⟨rfl, rfl, hsent⟩,
          fun hno => absurd (hno.symm.trans hcarries) Bool.false_ne_true⟩
      · rw [if_neg hcarries, hlength] at hrow
        have hsent := sendCensus_joins (s := s) (q := p) (kind := Config.kindRoll)
          (s' := (censusJoined p h.generation (es.length + 1) s').modConsist fun c =>
            { c with phase := .holding, pendingMap := some joined, holdTimer := some 1500 })
          h.generation (rollPayload .ok joined) rfl rfl (by simp [hlanes.1]) (by simp [hlanes.2])
        rw [State.sourcePosition_unsettled (by rw [State.modConsist_consist, hheld]; dsimp only; split <;> decide)]
          at hsent
        refine ⟨_, hrow, ?_⟩
        rw [(sendCensus_egress _ _ _ _ _).consist, State.modConsist_consist, hheld]
        exact ⟨rfl, rfl, rfl, rfl, rfl, rfl, rfl, rfl, fun hyes => absurd hyes hcarries,
          fun _ => ⟨rfl, rfl, hsent⟩⟩

end Sys2Proof.Machine
end

section
/-! ROLL and CONFIRM (R52 to R54, R57, R58, R198). -/

namespace Sys2Proof.Machine

open Sys2Proof

/-! ## The bytes of a ROLL and of a CONFIRM (R198) -/

theorem readRoll_eq_none {payload : List Byte}
    (h : ¬∃ st n rest, payload = st :: n :: rest ∧ (st = 0#8 ∨ st = 2#8 ∨ st = 3#8)
      ∧ EntriesInRange n.toNat rest) : readRoll payload = none := by
  refine Option.eq_none_iff_forall_ne_some.mpr fun r hr => h ?_
  unfold readRoll at hr
  split at hr
  · next st n rest =>
    split at hr
    · cases hr
    · next es hes =>
      refine ⟨st, n, rest, rfl, ?_, readEntries_inRange hes⟩
      by_contra hst
      simp only [not_or] at hst
      obtain ⟨h0, h2, h3⟩ := hst
      rw [if_neg h0, if_neg h2, if_neg h3] at hr
      cases hr
  · cases hr

theorem readConfirm_eq_none {payload : List Byte} (h : ¬∃ n, payload = [n] ∧ 1 ≤ n.toNat ∧ n.toNat ≤ 32) :
    readConfirm payload = none := by
  unfold readConfirm
  split
  · next n => exact if_neg fun hn => h ⟨n, rfl, hn⟩
  · rfl

/-! ## The list of a ROLL (R52, R53) -/

/-- The list of a ROLL of status OK is taken only with 1 to 32 entries, each identity once, and this node at its
own place. -/
theorem rollListOk_iff (s : State) (es : List ConsistEntry) (k : Nat) :
    (decide (1 ≤ es.length ∧ es.length ≤ Config.consistSize) && identitiesDistinct es
        && decide (positionIn s es = k)) = true ↔
      ¬(es = [] ∨ 32 < es.length ∨ ¬(es.map ConsistEntry.identity).Nodup ∨ positionIn s es ≠ k) := by
  rw [Bool.and_eq_true, Bool.and_eq_true, decide_eq_true_iff, decide_eq_true_iff, identitiesDistinct,
    decide_eq_true_iff, not_or, not_or, not_or, not_not, ne_eq, not_not, Nat.not_lt, ← List.length_eq_zero_iff]
  constructor
  · rintro ⟨⟨⟨hlow, hhigh⟩, hnodup⟩, hplace⟩
    exact ⟨by omega, hhigh, hnodup, hplace⟩
  · rintro ⟨hlow, hhigh, hnodup, hplace⟩
    exact ⟨⟨⟨by omega, hhigh⟩, hnodup⟩, hplace⟩

/-! ## A ROLL at the head (R53, R54) -/

section
variable {p : PortId} {g : Byte} {st : RollStatus} {es : List ConsistEntry} {s : State}

theorem headRoll_foreign
    (h : s.consist.phase ≠ .counting ∨ g ≠ s.consist.censusGeneration ∨ p ≠ s.censusTail) :
    headRoll p g st es s = censusDrop s := by
  unfold headRoll
  rw [if_neg (by rwa [Decidable.not_and_iff_or_not, Decidable.not_and_iff_or_not])]

theorem headRoll_refused
    (h : es = [] ∨ 32 < es.length ∨ ¬(es.map ConsistEntry.identity).Nodup ∨ positionIn s es ≠ 1) :
    headRoll p g .ok es s = censusDrop s := by
  unfold headRoll
  split
  · exact if_neg fun hok => (rollListOk_iff s es 1).mp hok h
  · rfl

theorem headRoll_commits (hown : s.consist.phase = .counting ∧ g = s.consist.censusGeneration ∧ p = s.censusTail)
    (h : ¬(es = [] ∨ 32 < es.length ∨ ¬(es.map ConsistEntry.identity).Nodup ∨ positionIn s es ≠ 1)) :
    headRoll p g .ok es s = commitAsHead g es (sendCensus p g Config.kindConfirm [byteOf es.length] s) := by
  unfold headRoll
  rw [if_pos hown]
  exact if_pos ((rollListOk_iff s es 1).mpr h)

theorem headRoll_fails (hown : s.consist.phase = .counting ∧ g = s.consist.censusGeneration ∧ p = s.censusTail)
    (hst : st ≠ .ok) : headRoll p g st es s = failCensus st s := by
  unfold headRoll
  rw [if_pos hown]
  cases st with
  | ok => exact absurd rfl hst
  | leadConflict => rfl
  | tooLong => rfl

/-! ## A ROLL at a node that does not act as head (R52) -/

theorem passRoll_foreign
    (h : s.consist.phase ≠ .awaitingRoll ∨ g ≠ s.consist.censusGeneration ∨ s.consist.arrival ≠ some p.other) :
    passRoll p g st es s = censusDrop s := by
  unfold passRoll
  split
  · rfl
  · next arrival harrival =>
    refine if_neg fun hown => ?_
    obtain ⟨hphase, hg, rfl⟩ := hown
    rw [PortId.other_other] at h
    exact h.elim (absurd hphase) fun h => h.elim (absurd hg) (absurd harrival)

theorem passRoll_own (hphase : s.consist.phase = .awaitingRoll) (hg : g = s.consist.censusGeneration)
    (harrival : s.consist.arrival = some p.other) :
    passRoll p g st es s =
      match st with
      | .ok =>
        if decide (1 ≤ es.length ∧ es.length ≤ Config.consistSize) && identitiesDistinct es
            && decide (positionIn s es = s.consist.censusPosition) then
          sendCensus p.other g Config.kindRoll (rollPayload .ok es)
            (s.modConsist fun c => { c with pendingMap := some es, phase := .holding, holdTimer := some 1500 })
        else censusDrop s
      | why =>
        leaveCensus ((sendCensus p.other g Config.kindRoll (rollPayload why []) s).modConsist fun c =>
          { c with phase := .none }) := by
  unfold passRoll
  rw [harrival]
  dsimp only
  rw [if_pos ⟨hphase, hg, (PortId.other_other p).symm⟩]
  cases st <;> rfl

theorem passRoll_refused
    (h : es = [] ∨ 32 < es.length ∨ ¬(es.map ConsistEntry.identity).Nodup
      ∨ positionIn s es ≠ s.consist.censusPosition) :
    passRoll p g .ok es s = censusDrop s := by
  by_cases hown : s.consist.phase = .awaitingRoll ∧ g = s.consist.censusGeneration
      ∧ s.consist.arrival = some p.other
  · obtain ⟨hphase, hg, harrival⟩ := hown
    rw [passRoll_own hphase hg harrival]
    exact if_neg fun hok => (rollListOk_iff s es _).mp hok h
  · rw [Decidable.not_and_iff_or_not, Decidable.not_and_iff_or_not] at hown
    exact passRoll_foreign hown

end

@[simp] theorem leaveCensus_port (p : PortId) (s : State) : (leaveCensus s).port p = s.port p := by
  unfold leaveCensus
  dsimp only
  split <;> simp

theorem exec_roll {p : PortId} {h : Header} {payload : List Byte} {s : State}
    (ha : Accepted p 0x05#8 h payload s) :
    exec (.roll p h payload) s =
      .next (finish (takeRoll p { kind := 0x05#8, header := h, payload := payload }
        (s.modPort p Port.countGood))) :=
  live_accepted ha (by decide) (by decide)

/-- A ROLL that reads goes to the head's census or to the part the node holds in another's. -/
theorem exec_roll_read {p : PortId} {h : Header} {st : RollStatus} {es : List ConsistEntry} {s : State}
    (ha : Accepted p 0x05#8 h (rollPayload st es) s) (hlen : es.length < 256) (hrange : ∀ e ∈ es, EntryInRange e) :
    (s.consist.status = .valid → exec (.roll p h (rollPayload st es)) s =
        .next (finish (headRoll p h.generation st es (s.modPort p Port.countGood))))
      ∧ (s.consist.status ≠ .valid → exec (.roll p h (rollPayload st es)) s =
        .next (finish (passRoll p h.generation st es (s.modPort p Port.countGood)))) := by
  rw [exec_roll ha, takeRoll, readRoll_rollPayload st hlen hrange]
  have hhead : (s.modPort p Port.countGood).actsAsHead = decide (s.consist.status = .valid) := by
    rw [State.actsAsHead, State.modPort_consist]
  dsimp only
  rw [hhead]
  exact ⟨fun h => by rw [if_pos (decide_eq_true h)], fun h => by rw [if_neg (by simpa using h)]⟩

/-- Settles O25: a ROLL is dropped, held and sent on, commits, or fails the attempt. -/
theorem rollIsHeldOrEndsThePart : Obligations.RollIsHeldOrEndsThePart := by
  unfold Obligations.RollIsHeldOrEndsThePart
  refine ⟨fun p h payload s ha => ?_, fun p h es s hrange hlow hhigh hg => ?_⟩
  · intro Dropped
    refine ⟨fun hbytes => ?_, fun st es hpayload hrange hlen => ?_⟩
    · unfold Dropped
      rw [exec_roll ha, takeRoll, readRoll_eq_none hbytes]
      rfl
    · subst hpayload
      obtain ⟨hhead, hpass⟩ := exec_roll_read ha hlen hrange
      have hconsist : (s.modPort p Port.countGood).consist = s.consist := State.modPort_consist ..
      have htail : (s.modPort p Port.countGood).censusTail = s.censusTail := by
        simp [State.censusTail, State.claimedEnd]
      have hpos : positionIn (s.modPort p Port.countGood) es = positionIn s es := by simp [positionIn]
      have hdrop : Host.Outcome.next (finish (censusDrop (s.modPort p Port.countGood))) =
          (Host.Outcome.next (finish ((s.modPort p Port.countGood).modConsist fun c =>
            { c with censusDrop := satInc c.censusDrop })) : Host.Outcome State Fault Refusal) := rfl
      refine ⟨fun hstatus hforeign => ?_, fun hstatus hforeign => ?_, fun hst hbad => ?_⟩
      · refine (hpass hstatus).trans ?_
        rw [passRoll_foreign (by rwa [hconsist])]
        exact hdrop
      · refine (hhead hstatus).trans ?_
        rw [headRoll_foreign (by rwa [hconsist, htail])]
        exact hdrop
      · subst hst
        by_cases hstatus : s.consist.status = .valid
        · rw [if_pos hstatus, ← hpos] at hbad
          refine (hhead hstatus).trans ?_
          rw [headRoll_refused hbad]
          exact hdrop
        · rw [if_neg hstatus, ← hpos, ← hconsist] at hbad
          refine (hpass hstatus).trans ?_
          rw [passRoll_refused hbad]
          exact hdrop
  · have hconsist : (s.modPort p Port.countGood).consist = s.consist := State.modPort_consist ..
    have hsource : (s.modPort p Port.countGood).sourcePosition = s.sourcePosition := State.modPort_sourcePosition ..
    have hpos : positionIn (s.modPort p Port.countGood) es = positionIn s es := by
      simp [positionIn]
    have hother : (s.modPort p Port.countGood).port p.other = s.port p.other := by simp
    have hlanes : ((s.modPort p Port.countGood).port p).carries = (s.port p).carries
        ∧ ((s.modPort p Port.countGood).port p).urgent = (s.port p).urgent := by simp [Port.carries]
    have hdoor : (s.modPort p Port.countGood).door = s.door := State.modPort_door ..
    have hheat : (s.modPort p Port.countGood).heat = s.heat := State.modPort_heat ..
    have htail : (s.modPort p Port.countGood).censusTail = s.censusTail := by
      simp [State.censusTail, State.claimedEnd]
    have hne : ¬(es = [] ∨ 32 < es.length) := by
      rintro (rfl | h)
      · exact absurd hlow (by decide)
      · omega
    have hlist : ∀ beside : List ConsistEntry, beside = [] ∨ beside = es →
        beside.length < 256 ∧ ∀ e ∈ beside, EntryInRange e := by
      rintro beside (rfl | rfl)
      · exact ⟨show 0 < 256 by decide, List.forall_mem_nil _⟩
      · exact ⟨by omega, hrange⟩
    refine ⟨fun ha hstatus hphase harrival hnodup hplace => ?_, fun why beside hwhy hbeside ha =>
        ⟨fun hstatus hphase harrival => ?_, fun hstatus hphase htailport => ?_⟩,
      fun ha hstatus hphase htailport hnodup hplace => ?_⟩
    · obtain ⟨-, hpass⟩ := exec_roll_read ha (by omega) hrange
      have hrow := hpass hstatus
      generalize s.modPort p Port.countGood = s' at *
      rw [passRoll_own (by rw [hconsist, hphase]) (by rw [hconsist, hg]) (by rw [hconsist, harrival])] at hrow
      dsimp only at hrow
      rw [if_pos ((rollListOk_iff s' es _).mpr (by
        rw [hpos, hconsist, ← or_assoc, not_or]
        exact ⟨hne, fun hbad => hbad.elim (absurd hnodup) (absurd hplace)⟩))] at hrow
      have hsent := sendCensus_joins (s := s) (q := p.other) (kind := Config.kindRoll)
        (s' := s'.modConsist fun c => { c with pendingMap := some es, phase := .holding, holdTimer := some 1500 })
        h.generation (rollPayload .ok es) rfl rfl (by simp [hother]) (by simp [hother])
      have hcore := sendCensus_egress p.other h.generation Config.kindRoll (rollPayload .ok es)
        (s'.modConsist fun c => { c with pendingMap := some es, phase := .holding, holdTimer := some 1500 })
      refine ⟨_, hrow, ?_, hcore.door.trans hdoor, hcore.heat.trans hheat, ?_⟩
      · rw [hcore.consist, State.modConsist_consist, hconsist]
      · rw [← hsource]
        exact hsent
    · obtain ⟨-, hpass⟩ := exec_roll_read ha (hlist beside hbeside).1 (hlist beside hbeside).2
      have hrow := hpass hstatus
      generalize s.modPort p Port.countGood = s' at *
      rw [passRoll_own (by rw [hconsist, hphase]) (by rw [hconsist, hg]) (by rw [hconsist, harrival])] at hrow
      have hsent := sendCensus_joins (s := s) (s' := s') (q := p.other) (kind := Config.kindRoll)
        h.generation (rollPayload why []) rfl rfl (by rw [hother]) (by rw [hother])
      refine ⟨leaveCensus ((sendCensus p.other h.generation Config.kindRoll (rollPayload why []) s').modConsist
        fun c => { c with phase := .none }), ?_, ?_, ?_, ?_, ?_⟩
      · rw [hrow]
        cases why with
        | ok => exact absurd rfl hwhy
        | leadConflict => rfl
        | tooLong => rfl
      · rw [leaveCensus_consist]
        dsimp only
        split <;> rfl
      · rw [leaveCensus_consist]
        dsimp only
        split <;> rfl
      · rw [leaveCensus_consist]
        dsimp only
        split <;> rfl
      · rw [← hsource]
        exact hsent.congr rfl (by simp)
    · obtain ⟨hhead, -⟩ := exec_roll_read ha (hlist beside hbeside).1 (hlist beside hbeside).2
      have hrow := hhead hstatus
      generalize s.modPort p Port.countGood = s' at *
      rw [headRoll_fails ⟨by rw [hconsist, hphase], by rw [hconsist, hg], by rw [htail, htailport]⟩ hwhy] at hrow
      refine ⟨_, hrow, ?_⟩
      rw [finish_consist, failCensus_consist, leaveCensus_consist, State.modConsist_consist, hconsist]
      dsimp only
      split <;> exact ⟨rfl, rfl, rfl, rfl⟩
    · obtain ⟨hhead, -⟩ := exec_roll_read ha (by omega) hrange
      have hrow := hhead hstatus
      generalize s.modPort p Port.countGood = s' at *
      rw [headRoll_commits ⟨by rw [hconsist, hphase], by rw [hconsist, hg], by rw [htail, htailport]⟩ (by
        rw [hpos, ← or_assoc, not_or]
        exact ⟨hne, fun hbad => hbad.elim (absurd hnodup) (absurd hplace)⟩)] at hrow
      have hsent := sendCensus_joins (s := s) (s' := s') (q := p) (kind := Config.kindConfirm)
        h.generation [byteOf es.length] rfl rfl hlanes.1 hlanes.2
      have hcore := sendCensus_egress p h.generation Config.kindConfirm [byteOf es.length] s'
      rw [hsource] at hsent
      generalize sendCensus p h.generation Config.kindConfirm [byteOf es.length] s' = u at *
      refine ⟨(commit h.generation es u).modConsist fun c => { c with attempts := 0, rollTimer := none }, hrow,
        ?_, ?_, ?_, ?_⟩
      · rw [State.modConsist_consist, commit_consist, hcore.consist, hconsist]
      · rw [State.modConsist_door, commit_door]
      · rw [State.modConsist_door, commit_door, hcore.door, hdoor]
      · exact hsent.congr rfl (by simp)

/-! ## CONFIRM (R57, R58) -/

theorem exec_confirm {p : PortId} {h : Header} {payload : List Byte} {s : State}
    (ha : Accepted p 0x06#8 h payload s) :
    exec (.confirm p h payload) s =
      .next (finish (takeConfirm { kind := 0x06#8, header := h, payload := payload }
        (s.modPort p Port.countGood))) :=
  live_accepted ha (by decide) (by decide)

theorem readConfirm_of_range {n : Byte} (hlow : 1 ≤ n.toNat) (hhigh : n.toNat ≤ 32) :
    readConfirm [n] = some n.toNat := if_pos ⟨hlow, hhigh⟩

/-- The pending map a CONFIRM finds: that of the node's own census, of N entries (R57). -/
theorem confirmedMap_eq_some {s : State} {g : Byte} {n : Nat} {m : List ConsistEntry}
    (hstatus : s.consist.status ≠ .valid) (hphase : s.consist.phase = .holding)
    (hg : g = s.consist.censusGeneration) (hmap : s.consist.pendingMap = some m) (hlen : m.length = n) :
    confirmedMap s g n = some m := by
  unfold confirmedMap
  rw [if_pos ⟨by simpa [State.actsAsHead] using hstatus, hphase, hg⟩, hmap]
  simp [hlen]

theorem confirmedMap_eq_none {s : State} {g : Byte} {n : Nat}
    (h : s.consist.status = .valid ∨ s.consist.phase ≠ .holding ∨ g ≠ s.consist.censusGeneration
      ∨ ∀ m, s.consist.pendingMap = some m → m.length ≠ n) : confirmedMap s g n = none := by
  unfold confirmedMap
  split
  · next hown =>
    obtain ⟨hhead, hphase, hg⟩ := hown
    refine Option.filter_eq_none_iff.mpr fun m hm hlen => ?_
    rcases h with h | h | h | h
    · simp [State.actsAsHead, h] at hhead
    · exact h hphase
    · exact h hg
    · exact h m hm (of_decide_eq_true hlen)
  · rfl

@[simp] theorem commit_take (g : Byte) (m : List ConsistEntry) (s : State) :
    (commit g m s).heat.take = s.heat.take := by simp [commit_eq, stopHeadless]

/-- A commit in another generation discards what belonged to the last one (R11, R74, R171). -/
theorem commit_discards {g : Byte} (m : List ConsistEntry) {s : State} (h : g ≠ s.consist.generation) :
    (commit g m s).relay.lastSerial = none ∧ (commit g m s).sweep.latch = none
      ∧ (commit g m s).sweep.freshness = none ∧ (commit g m s).heat.latch = none
      ∧ (commit g m s).heat.increase = none := by
  rw [commit_eq, setGeneration_eq g _ (by exact h)]
  exact ⟨rfl, rfl, rfl, rfl, rfl⟩

/-- A frame handed to a port at most counts a no-route at the Relay Unit. -/
theorem offer_lastSerial (p : PortId) (e : LaneEntry) (s : State) :
    (offer p e s).relay.lastSerial = s.relay.lastSerial := by
  unfold offer
  dsimp only
  split
  · rw [pump_relay]
    split <;> simp
  · rw [noRoute, laneFrameGone_relay]
    rfl

theorem modPort_countGood_lanes (p q : PortId) (s : State) :
    ((s.modPort p Port.countGood).port q).carries = (s.port q).carries
      ∧ ((s.modPort p Port.countGood).port q).urgent = (s.port q).urgent := by
  rcases PortId.eq_or_eq_other p q with rfl | rfl
  · simp [Port.carries]
  · simp

/-- Settles O26: a CONFIRM commits the census the node holds; any other is counted, and at a node that is neither
head nor in its consist it ends in UNKNOWN and a CHANGE. -/
theorem confirmCommits : Obligations.ConfirmCommits := by
  unfold Obligations.ConfirmCommits
  refine ⟨fun p h payload s ha hno => ?_, fun p h n s ha hlow hhigh hstatus => ?_⟩
  · have hrow := exec_confirm ha
    by_cases hread : ∃ n, payload = [n] ∧ 1 ≤ n.toNat ∧ n.toNat ≤ 32
    · obtain ⟨n, rfl, hlow, hhigh⟩ := hread
      have hvalid : s.consist.status = .valid := hno.resolve_left fun h => h ⟨n, rfl, hlow, hhigh⟩
      have hhead : (s.modPort p Port.countGood).actsAsHead = true := by simp [State.actsAsHead, hvalid]
      rw [takeConfirm, readConfirm_of_range hlow hhigh] at hrow
      dsimp only at hrow
      rw [confirmedMap_eq_none (.inl (by rw [State.modPort_consist, hvalid])), if_pos (.inl hhead)] at hrow
      exact hrow
    · rw [takeConfirm, readConfirm_eq_none hread] at hrow
      exact hrow
  · extract_lets Foreign
    have hrow := exec_confirm ha
    rw [takeConfirm, readConfirm_of_range hlow hhigh] at hrow
    dsimp only at hrow
    have hconsist : (s.modPort p Port.countGood).consist = s.consist := State.modPort_consist ..
    have hdoor : (s.modPort p Port.countGood).door = s.door := State.modPort_door ..
    have hheat : (s.modPort p Port.countGood).heat = s.heat := State.modPort_heat ..
    have hlanes := modPort_countGood_lanes p (s := s)
    have hsettled : (s.modPort p Port.countGood).settledIn h.generation = s.settledIn h.generation :=
      State.modPort_settledIn ..
    generalize s.modPort p Port.countGood = s' at *
    have hhead : ¬s'.actsAsHead = true := by simpa [State.actsAsHead, hconsist] using hstatus
    have hforeign : Foreign → confirmedMap s' h.generation n.toNat = none := fun h =>
      confirmedMap_eq_none (.inr (by rwa [hconsist]))
    refine ⟨fun m hphase hg hmap hlen => ?_, fun hno hown => ?_, fun hno hother => ?_⟩
    · rw [confirmedMap_eq_some (by rwa [hconsist]) (by rwa [hconsist]) (by rwa [hconsist]) (by rwa [hconsist]) hlen]
        at hrow
      have hcommit := commit_consist h.generation m s'
      have hdiscard : h.generation ≠ s.consist.generation → _ := fun hg =>
        commit_discards m (s := s') (by rwa [hconsist])
      have hleaves : (commit h.generation m s').door = { s.door with headless := .stopped } := by
        rw [commit_door, hdoor]
      have hgroups : (commit h.generation m s').heat.groups = s.heat.groups := by rw [commit_groups, hheat]
      have htake : (commit h.generation m s').heat.take = s.heat.take := by rw [commit_take, hheat]
      have hport := fun q => commit_port h.generation m q s'
      unfold commitConfirmed at hrow
      dsimp only at hrow
      generalize commit h.generation m s' = c at *
      generalize hdone : (c.modConsist fun c => { c with pendingMap := none, lastGeneration := h.generation, holdTimer := none }) = d at hrow
      have hd : d.consist = { s'.consist with
          state := .settled, activeMap := m, phase := .none, wait := .stopped, generation := h.generation
          pendingMap := none, lastGeneration := h.generation, holdTimer := none } := by
        rw [← hdone, State.modConsist_consist, hcommit]
      have hrest : d.relay = c.relay ∧ d.sweep = c.sweep ∧ d.door = c.door ∧ d.heat = c.heat
          ∧ ∀ q, d.port q = s'.port q := by
        rw [← hdone]
        exact ⟨rfl, rfl, rfl, rfl, fun q => (State.modConsist_port ..).trans (hport q)⟩
      obtain ⟨hdrelay, hdsweep, hddoor, hdheat, hdport⟩ := hrest
      have hbyte : byteOf n.toNat = n := by simp [byteOf]
      have hsent := sendCensus_joins (s := s) (s' := d) (q := d.tailPort) (kind := Config.kindConfirm) h.generation
        [n] rfl rfl (by rw [hdport, (hlanes _).1]) (by rw [hdport, (hlanes _).2])
      rw [State.sourcePosition, State.isSettled, hd, if_pos (decide_eq_true rfl)] at hsent
      have hcore := sendCensus_egress d.tailPort h.generation Config.kindConfirm [n] d
      have hserial : (sendCensus d.tailPort h.generation Config.kindConfirm [n] d).relay.lastSerial =
          d.relay.lastSerial := offer_lastSerial ..
      rw [hbyte] at hrow
      obtain ⟨t, ht, htconsist, htid, htserial, htsweep, htdoor, htheat, hon, hend⟩ :
          ∃ t, exec (.confirm p h [n]) s = .next (finish t) ∧ t.consist = d.consist ∧ t.identity = d.identity
            ∧ t.relay.lastSerial = d.relay.lastSerial ∧ t.sweep = d.sweep ∧ t.door = d.door ∧ t.heat = d.heat
            ∧ (d.position < n.toNat → t = sendCensus d.tailPort h.generation Config.kindConfirm [n] d)
            ∧ (n.toNat ≤ d.position → t = d) := by
        by_cases hpos : d.position < n.toNat
        · rw [if_pos hpos] at hrow
          exact ⟨_, hrow, hcore.consist, hcore.identity, hserial, hcore.sweep, hcore.door, hcore.heat,
            fun _ => rfl, fun hge => absurd hpos (Nat.not_lt.mpr hge)⟩
        · rw [if_neg hpos] at hrow
          exact ⟨_, hrow, rfl, rfl, rfl, rfl, rfl, rfl, fun hlt => absurd hlt hpos, fun _ => rfl⟩
      have hposition : t.position = d.position := by
        simp only [State.position, positionIn, htconsist, htid]
      have htail : t.tailPort = d.tailPort := by
        simp only [State.tailPort, State.headPort, State.orientation, ownEntry, htconsist, htid]
      refine ⟨t, ht, ?_⟩
      rw [htconsist, htserial, htsweep, htdoor, htheat, hposition, htail, hd, hdrelay, hdsweep, hddoor, hdheat,
        hleaves, hgroups, htake]
      refine ⟨rfl, rfl, rfl, rfl, rfl, rfl, rfl, rfl, rfl, rfl, rfl, rfl, hdiscard, fun hlt => ?_, fun hge => ?_⟩
      · rw [hon hlt]
        exact hsent
      · rw [hend hge]
        exact ⟨(congrArg Port.urgent (hdport .lp1)).trans (hlanes .lp1).2,
          (congrArg Port.urgent (hdport .lp2)).trans (hlanes .lp2).2⟩
    · rw [hforeign hno] at hrow
      refine hrow.trans ?_
      dsimp only
      rw [if_pos (.inr (hsettled.trans ((State.settledIn_iff s _).mpr hown)))]
      rfl
    · rw [hforeign hno] at hrow
      dsimp only at hrow
      rw [if_neg (by
        rw [hsettled, State.settledIn_iff, not_or]
        exact ⟨hhead, fun hown => hother.elim (absurd hown.1) (absurd hown.2)⟩)] at hrow
      obtain ⟨u, hu, huconsist, hudoor, huport⟩ : ∃ u, unmatchedConfirm s' = originateChange u
          ∧ u.consist = { s.consist with
              state := .unknown, activeMap := [], generation := 0#8, wait := .stopped
              pendingMap := none, phase := .none, holdTimer := none, censusDrop := satInc s.consist.censusDrop }
          ∧ u.door = (enterUnknown (censusDrop s')).door ∧ ∀ q, u.port q = s'.port q := by
        refine ⟨_, rfl, ?_, rfl, fun q => ?_⟩
        · rw [State.modConsist_consist, enterUnknown_consist, censusDrop, State.modConsist_consist, hconsist]
        · simp [censusDrop]
      have hafter : (originateChange u).consist = { u.consist with
          changeCounter := u.consist.changeCounter + 1#8
          copies := u.consist.copies ++ [{ counter := u.consist.changeCounter + 1#8, copies := 2, timer := 100 }]
          : Consist }.afterChange := by
        have hannounced := (announceChange_egress u).consist
        rw [originateChange, applyChange_eq, hannounced,
          if_neg (show ¬(ownChangeEntered u).consist.status = .valid by rw [ownChangeEntered, huconsist]; exact hstatus),
          changeActed_consist, hannounced]
        rfl
      have hunknown : u.consist.state = .unknown := by rw [huconsist]
      have hold : (originateChange u).consist = { u.consist with
          changeCounter := u.consist.changeCounter + 1#8
          copies := u.consist.copies ++ [{ counter := u.consist.changeCounter + 1#8, copies := 2, timer := 100 }]
          conflictHold := if u.consist.status = .valid then false else u.consist.conflictHold } := by
        rw [hafter, Consist.afterChange]
        dsimp only
        rw [hunknown]
      refine ⟨_, hrow, ?_⟩
      rw [hu, hold, huconsist]
      refine ⟨rfl, rfl, rfl, rfl, rfl, rfl, rfl, rfl, u, rfl, huconsist, ?_, ?_, ?_, huport .lp1, huport .lp2⟩
      · rw [hudoor, enterUnknown_door]
        show (censusDrop s').door.leaves = s.door.leaves
        rw [censusDrop, State.modConsist_door, hdoor]
      · rw [hudoor, enterUnknown_door]
        show (censusDrop s').door.vehicleProof = s.door.vehicleProof
        rw [censusDrop, State.modConsist_door, hdoor]
      · rw [hudoor, enterUnknown_door]
        show (if (censusDrop s').consist.state = .settled then false else (censusDrop s').door.trainProof) = _
        simp only [censusDrop, State.modConsist_door, State.modConsist_consist, hdoor, hconsist]

end Sys2Proof.Machine
end

section
/-! Acting on several leaves one after another: what one of them shows at the end, and class 1 meanwhile (R118,
R120, R123 to R127, R133). -/

namespace Sys2Proof.Machine

open Sys2Proof

/-! ## Class 1 while one leaf is acted on (R86, R118) -/

theorem modLeaf_bus (k : Nat) (f : Leaf → Leaf) (s : State) : (s.modLeaf k f).bus = s.bus := by
  unfold State.modLeaf
  split <;> rfl

theorem offerDoorWrite_queue_le (k : Nat) (station item command : Byte) (s : State) :
    (offerDoorWrite k station item command s).1.bus.doorQueue.length ≤ s.bus.doorQueue.length + 1 := by
  unfold offerDoorWrite
  dsimp only
  split
  · rw [(arbitrate_bus _).1]
    simp
  · split
    · next rest hrest =>
      rw [(arbitrate_bus _).1]
      have := withoutOldest_length _ _ _ hrest
      simp
      omega
    · exact Nat.le_succ _

theorem raise_doorQueue (kind : NoticeKind) (subject : Byte) (value : Nat) (s : State) :
    (raise kind subject value s).bus.doorQueue = s.bus.doorQueue := by
  rw [(raise_egress kind subject value s).bus]

theorem enterFault_queue (k value : Nat) (s : State) :
    (enterFault k value s).bus.doorQueue.length = s.bus.doorQueue.length := by
  unfold enterFault
  rw [raise_doorQueue, evalVehicleProof_bus]
  show (supersedeLeaf k _).bus.doorQueue.length = _
  rw [supersedeLeaf_length, modLeaf_bus]

/-- The entry to a state adds at most one door write to class 1. -/
theorem enterLeaf_queue_le (k : Nat) (st : LeafState) (s : State) :
    (enterLeaf k st s).bus.doorQueue.length ≤ s.bus.doorQueue.length + 1 := by
  unfold enterLeaf
  dsimp only
  have hentered : (evalVehicleProof (supersedeLeaf k (s.modLeaf k
      (Leaf.entered s.store.content (enteredState s.store.content st))))).bus.doorQueue.length =
        s.bus.doorQueue.length := by
    rw [evalVehicleProof_bus, supersedeLeaf_length, modLeaf_bus]
  split
  · have hoffer := offerDoorWrite_queue_le k
    split
    · rw [enterFault_queue]
      exact (hoffer _ _ _ _).trans (by rw [hentered])
    · exact (hoffer _ _ _ _).trans (by rw [hentered])
  · rw [hentered]
    exact Nat.le_succ _

theorem warnLeaf_queue_le (k : Nat) (s : State) :
    (warnLeaf k s).bus.doorQueue.length ≤ s.bus.doorQueue.length + 1 := by
  unfold warnLeaf
  split
  · exact enterLeaf_queue_le k _ s
  · exact Nat.le_succ _

theorem closeLeaf_queue_le (k : Nat) (s : State) :
    (closeLeaf k s).bus.doorQueue.length ≤ s.bus.doorQueue.length + 1 := by
  unfold closeLeaf
  split
  · exact enterLeaf_queue_le k _ s
  · exact enterLeaf_queue_le k _ s
  · exact Nat.le_succ _

theorem closeLeaf_leafOnly (k : Nat) (s : State) : LeafOnly k s (closeLeaf k s) := by
  unfold closeLeaf
  split
  · exact enterLeaf_leafOnly k _ s
  · exact enterLeaf_leafOnly k _ s
  · exact .refl k s

/-! ## Several leaves in turn -/

/-- A leaf acted on among others shows what its own act made of it, in a state that shows the leaf as it was and
class 1 longer by at most one entry for each leaf before it. -/
theorem foldl_leaf {act : Nat → State → State} (hact : ∀ k s, LeafOnly k s (act k s))
    (hqueue : ∀ k s, (act k s).bus.doorQueue.length ≤ s.bus.doorQueue.length + 1) {ks : List Nat}
    (hnodup : ks.Nodup) (s : State) {k : Nat} (hk : k ∈ ks) :
    ∃ m, LeavesOnly ks s m ∧ m.leaf k = s.leaf k
      ∧ m.bus.doorQueue.length < s.bus.doorQueue.length + ks.length
      ∧ (ks.foldl (fun s k => act k s) s).leaf k = (act k m).leaf k := by
  induction ks generalizing s with
  | nil => simp at hk
  | cons j rest ih =>
    obtain ⟨hj, hrest⟩ := List.nodup_cons.mp hnodup
    by_cases hjk : k = j
    · subst hjk
      exact ⟨s, .refl _ s, rfl, by simp, (foldl_leavesOnly hact rest _).others k hj⟩
    · obtain ⟨m, honly, hleaf, hlength, hend⟩ := ih hrest (act j s) (List.mem_of_ne_of_mem hjk hk)
      have hfirst : LeavesOnly (j :: rest) s (act j s) := (hact j s).leaves List.mem_cons_self
      have hlater : LeavesOnly (j :: rest) (act j s) m :=
        { honly with others := fun i hi => honly.others i fun h => hi (List.mem_cons_of_mem j h) }
      refine ⟨m, hfirst.trans hlater, ?_, ?_, hend⟩
      · obtain ⟨_, _, _, _, _, _, _, _, hother, _⟩ := hact j s
        exact hleaf.trans (hother k hjk)
      · have := hqueue j s
        simp only [List.length_cons]
        omega

theorem State.leafNumbers_nodup (s : State) : s.leafNumbers.Nodup :=
  List.nodup_range.map Nat.succ_injective

theorem State.leafNumbers_length (s : State) : s.leafNumbers.length = s.door.leaves.length := by
  simp [State.leafNumbers]

theorem State.leafState_eq_some {s : State} {k : Nat} {l : Leaf} (h : s.leaf k = some l) :
    s.leafState k = some l.state := by rw [State.leafState, h]; rfl

/-! ## Warning the RELEASED leaves (R124 to R126) -/

theorem enteredState_warning (c : Content) :
    enteredState c .warning = if c.warning = 0 then .closing else .warning := by
  unfold enteredState
  by_cases h : c.warning = 0 <;> simp [h]

/-- A leaf that enters WARNING is there, or in CLOSING where the warning time is 0, or in FAULT where class 1 was
full. -/
theorem enterLeaf_warning_leaf {k : Nat} {l : Leaf} {s : State} (h : s.leaf k = some l) :
    ∃ l', (enterLeaf k .warning s).leaf k = some l'
      ∧ (l'.state = (if s.store.content.warning = 0 then .closing else .warning)
        ∨ (l'.state = .fault ∧ 16 ≤ s.bus.doorQueue.length)) := by
  rcases enterLeaf_leaf k .warning s with hentered | ⟨hfull, hfault⟩
  · rw [h] at hentered
    exact ⟨_, hentered, .inl (enteredState_warning _)⟩
  · rw [h] at hfault
    obtain ⟨l', hl', hstate⟩ := Option.map_eq_some_iff.mp hfault
    exact ⟨l', hl', .inr ⟨hstate, hfull⟩⟩

/-- A leaf that is not RELEASED is left as it is; one that is enters WARNING. -/
theorem warnReleased_leaf {k : Nat} {l : Leaf} {s : State} (h : s.leaf k = some l) :
    (l.state ≠ .released → (warnReleased s).leaf k = some l)
      ∧ (l.state = .released → ∃ l', (warnReleased s).leaf k = some l'
          ∧ (l'.state = (if s.store.content.warning = 0 then .closing else .warning)
            ∨ (l'.state = .fault ∧ 16 < s.bus.doorQueue.length + s.door.leaves.length))) := by
  obtain ⟨m, honly, hleaf, hlength, hend⟩ := foldl_leaf warnLeaf_leafOnly warnLeaf_queue_le s.leafNumbers_nodup s
    (State.mem_leafNumbers_of_leaf h)
  rw [show s.leafNumbers.foldl (fun s k => warnLeaf k s) s = warnReleased s from rfl] at hend
  have hm : m.leafState k = some l.state := State.leafState_eq_some (hleaf.trans h)
  rw [s.leafNumbers_length] at hlength
  unfold warnLeaf at hend
  rw [hm] at hend
  refine ⟨fun hnot => ?_, fun hreleased => ?_⟩
  · refine hend.trans (Eq.trans ?_ (hleaf.trans h))
    cases hstate : l.state with
    | released => exact absurd hstate hnot
    | _ => rfl
  · rw [hreleased] at hend
    obtain ⟨l', hl', hcase⟩ := enterLeaf_warning_leaf (hleaf.trans h)
    rw [honly.store] at hcase
    exact ⟨l', hend.trans hl', hcase.imp id fun ⟨hfault, hfull⟩ => ⟨hfault, by omega⟩⟩

/-- Settles O7: the fall of STANDSTILL and the headless close delay warn the RELEASED leaves and no others. -/
theorem fallsAndDelaysCloseReleasedLeaves : Obligations.FallsAndDelaysCloseReleasedLeaves := by
  unfold Obligations.FallsAndDelaysCloseReleasedLeaves
  refine ⟨fun s hpower hpin => ?_, fun left s hpower hheadless hroom => ?_⟩
  · let u : State := { s with pins := { s.pins with standstill := false } }
    have honly := warnReleased_leavesOnly u
    refine ⟨finish (warnReleased u), ?_, ?_⟩
    · rw [show exec .standstillFall s = live standstillFalls s from rfl, live_powered _ s hpower, standstillFalls,
        hpin, onlyIf_true]
    · rw [finish_pins, finish_door, finish_consist, finish_sweep, finish_heat, finish_store]
      refine ⟨honly.pins, honly.count, fun k l hl hnot => ?_, fun k l hl hreleased => ?_, honly.consist, honly.sweep,
        honly.heat, honly.store⟩
      · rw [State.leaf_eq_of_door (finish_door _)]
        exact (warnReleased_leaf (s := u) hl).1 hnot
      · rw [State.leaf_eq_of_door (finish_door _)]
        exact (warnReleased_leaf (s := u) hl).2 hreleased
  · let u : State := s.modDoor fun d => { d with headless := .expired }
    have honly := warnReleased_leavesOnly u
    refine ⟨finish (warnReleased u), ?_, ?_⟩
    · rw [show exec .headlessCloseDelayExpiry s = live headlessEnds s from rfl, live_powered _ s hpower, headlessEnds,
        hheadless]
    · rw [finish_door, finish_consist, finish_heat, finish_sweep]
      refine ⟨honly.headless, fun k l hl hnot => ?_, fun k l hl hreleased => ?_, honly.consist, honly.heat, honly.sweep⟩
      · rw [State.leaf_eq_of_door (finish_door _)]
        exact (warnReleased_leaf (s := u) hl).1 hnot
      · rw [State.leaf_eq_of_door (finish_door _)]
        obtain ⟨l', hl', hcase⟩ := (warnReleased_leaf (s := u) hl).2 hreleased
        rw [hl']
        exact congrArg some (hcase.resolve_right fun ⟨_, hfull⟩ => absurd hfull (Nat.not_lt.mpr hroom))

end Sys2Proof.Machine
end

section
/-! DOOR-RELEASE and DOOR-CLOSE frames (R6, R9, R11, R117, R120, R123, R198). -/

namespace Sys2Proof.Machine

open Sys2Proof

/-! ## The node's place, by its map and its identity (R60) -/

theorem State.position_congr {s t : State} (hconsist : t.consist = s.consist) (hidentity : t.identity = s.identity) :
    t.position = s.position := by simp only [State.position, positionIn, hconsist, hidentity]

theorem State.orientation_congr {s t : State} (hconsist : t.consist = s.consist)
    (hidentity : t.identity = s.identity) : t.orientation = s.orientation := by
  simp only [State.orientation, ownEntry, hconsist, hidentity]

/-! ## Frames that have gone on before the node acts (R9) -/

/-- A broadcast counted at its port and handed on has joined the other port's lane, whatever the node then does
without handing over another urgent frame. -/
theorem changePassed_quiet {p : PortId} {f : Frame} {s t : State} (hkind : isNormalKind f.kind = false)
    (h : NodeKept True (changePassed p f s) t) : JoinsUrgent p.other f s t := by
  refine JoinsLane.of_run fun hcarries hroom => ?_
  have hother : (s.modPort p Port.countGood).port p.other = s.port p.other := by simp
  have hlater := h.lanes trivial p.other
  unfold changePassed forward offerIfCarrying offerFrame at hlater
  rw [hother, if_pos hcarries] at hlater
  have hjoined := offer_laneRun_urgent (p := p.other) (e := { frame := f, mark := .plain })
    (s := s.modPort p Port.countGood) hkind (by rwa [hother]) (by rwa [hother])
  rw [hother] at hjoined
  exact hjoined.trans hlater

/-! ## The last applied release serial (R11) -/

theorem forwardNotices_lastSerial (s : State) : (forwardNotices s).relay.lastSerial = s.relay.lastSerial := by
  unfold forwardNotices
  split
  · split
    · rfl
    · unfold originateNotice noRoute
      dsimp only
      split
      · rw [laneFrameGone_relay]
        rfl
      · split
        · unfold deliverNotice offerCabNotice
          split
          · rw [offerCab_relay]
            rfl
          · rfl
        · unfold route
          dsimp only
          split
          · rw [offer_lastSerial]
            rfl
          · split
            · rw [offer_lastSerial]
              rfl
            · rw [laneFrameGone_relay]
              rfl
  · rfl

theorem raise_lastSerial (kind : NoticeKind) (subject : Byte) (value : Nat) (s : State) :
    (raise kind subject value s).relay.lastSerial = s.relay.lastSerial := by
  unfold raise
  rw [forwardNotices_lastSerial, enqueueNotice_relay]

theorem enterFault_lastSerial (k value : Nat) (s : State) :
    (enterFault k value s).relay.lastSerial = s.relay.lastSerial := by
  unfold enterFault
  rw [raise_lastSerial]
  unfold State.modLeaf
  split <;> rfl

theorem enterLeaf_lastSerial (k : Nat) (st : LeafState) (s : State) :
    (enterLeaf k st s).relay.lastSerial = s.relay.lastSerial := by
  unfold enterLeaf
  dsimp only
  have hentered : (evalVehicleProof (supersedeLeaf k (s.modLeaf k
      (Leaf.entered s.store.content (enteredState s.store.content st))))).relay = s.relay := by
    unfold State.modLeaf
    split <;> rfl
  split
  · split
    · rw [enterFault_lastSerial, (offerDoorWrite_spec _ _ _ _ _).1.relay, hentered]
    · rw [(offerDoorWrite_spec _ _ _ _ _).1.relay, hentered]
  · rw [hentered]

theorem enterLeaves_lastSerial (st : LeafState) (ks : List Nat) (s : State) :
    (ks.foldl (fun s k => enterLeaf k st s) s).relay.lastSerial = s.relay.lastSerial := by
  induction ks generalizing s with
  | nil => rfl
  | cons k rest ih => exact (ih _).trans (enterLeaf_lastSerial k st s)

/-! ## The payload of a DOOR-RELEASE (R198) -/

theorem releasePayload_of_read {payload : List Byte} {r : Release} (h : readRelease payload = some r) :
    payload = releasePayload r ∧ 1 ≤ r.first ∧ r.first ≤ r.last ∧ r.last ≤ 32 := by
  unfold readRelease at h
  split at h
  · next serial side first last outside =>
    split at h
    · cases h
    · next sd hside =>
      split at h
      · next hrange =>
        obtain ⟨hfirst, hle, hlast, houtside⟩ := hrange
        obtain rfl := Option.some.inj h
        refine ⟨?_, Nat.one_le_iff_ne_zero.mpr hfirst, hle, hlast⟩
        have hcode : side = trainSideCode sd := by
          unfold trainSideOf at hside
          split at hside
          · next h1 => rw [h1, ← Option.some.inj hside]; rfl
          · split at hside
            · next h2 => rw [h2, ← Option.some.inj hside]; rfl
            · cases hside
        have hflag : outside = if decide (outside = 1#8) then 1#8 else 0#8 := by
          rcases houtside with rfl | rfl <;> rfl
        simp only [releasePayload, byteOf, BitVec.ofNat_toNat, BitVec.setWidth_eq]
        rw [← hcode, ← hflag]
      · cases h
  · cases h

/-! ## The leaves a release acts on (R120) -/

/-- The conditions of R120 on leaf `k` of a SETTLED node, in the terms of the rule. -/
def Qualifies (r : Release) (s : State) (k : Nat) (l : Leaf) : Prop :=
  s.sweep.freshness ≠ none ∧ s.sweep.bits.standstill = true ∧ s.pins.standstill = true
    ∧ enableBit s.sweep.bits r.side = true
    ∧ (if r.outside then s.position < r.first ∨ r.last < s.position
        else r.first ≤ s.position ∧ s.position ≤ r.last)
    ∧ (∃ c o, s.store.content.leaves[k - 1]? = some c ∧ s.orientation = some o ∧ c.side = vehicleSide o r.side)
    ∧ (l.state = .closed ∨ l.state = .warning ∨ l.state = .closing ∨ l.state = .reopening)

theorem Release.covers_iff (r : Release) (k : Nat) :
    r.covers k = true ↔ if r.outside then k < r.first ∨ r.last < k else r.first ≤ k ∧ k ≤ r.last := by
  unfold Release.covers
  split <;> simp

theorem LeafState.releasable_iff (st : LeafState) :
    st.releasable = true ↔ st = .closed ∨ st = .warning ∨ st = .closing ∨ st = .reopening := by
  cases st <;> simp [LeafState.releasable]

theorem releasesLeaf_iff {r : Release} {g : Byte} {s : State} {k : Nat} {l : Leaf} (hsettled : s.settledIn g = true)
    (hl : s.leaf k = some l) : releasesLeaf r g s k = true ↔ Qualifies r s k l := by
  unfold releasesLeaf releaseHolds Qualifies State.leafSide
  rw [hsettled, State.leafState_eq_some hl]
  cases hc : s.store.content.leaves[k - 1]? <;> cases ho : s.orientation <;>
    simp [Release.covers_iff, LeafState.releasable_iff, Sweep.fresh, Option.isSome_iff_ne_none, and_assoc]

/-- Whether a leaf meets the conditions depends on the units a forwarded frame leaves alone. -/
theorem releasesLeaf_congr {r : Release} {g : Byte} {s t : State} (hconsist : t.consist = s.consist)
    (hidentity : t.identity = s.identity) (hsweep : t.sweep = s.sweep) (hpins : t.pins = s.pins)
    (hdoor : t.door = s.door) (hstore : t.store = s.store) : releasesLeaf r g t = releasesLeaf r g s := by
  funext k
  simp only [releasesLeaf, releaseHolds, State.settledIn, State.isSettled, State.leafSide, State.leafState, State.leaf,
    State.position_congr hconsist hidentity, State.orientation_congr hconsist hidentity, hconsist, hsweep, hpins, hdoor,
    hstore]

theorem State.leaf_of_mem_leafNumbers {s : State} {k : Nat} (h : k ∈ s.leafNumbers) : ∃ l, s.leaf k = some l := by
  obtain ⟨i, hi, rfl⟩ := List.mem_map.mp h
  exact ⟨s.door.leaves[i]'(List.mem_range.mp hi), by simp [State.leaf, List.mem_range.mp hi]⟩

/-- A release applied in the state a forwarded frame leaves: the leaves it meets, one after another (R120). -/
theorem applyRelease_eq (r : Release) (g : Byte) (s : State) :
    applyRelease r g s =
      ((s.leafNumbers.filter (releasesLeaf r g s)).foldl (fun s k => enterLeaf k .released s) s).modDoor fun d =>
        if s.leafNumbers.filter (releasesLeaf r g s) = [] then { d with releasesVoid := satInc d.releasesVoid }
        else { d with releasesApplied := satInc d.releasesApplied } := rfl

/-- A leaf that enters RELEASED takes every attempt and no timer, or is in FAULT where class 1 was full. -/
theorem enterLeaf_released_leaf {k : Nat} {l : Leaf} {s : State} (h : s.leaf k = some l) :
    (enterLeaf k .released s).leaf k = some { state := .released, timer := none
                                              attempts := s.store.content.reopenAttempts, closeMark := l.closeMark }
      ∨ (((enterLeaf k .released s).leaf k).map Leaf.state = some .fault ∧ 16 ≤ s.bus.doorQueue.length) := by
  have hstate : enteredState s.store.content .released = .released := by simp [enteredState]
  rcases enterLeaf_leaf k .released s with hentered | ⟨hfull, hfault⟩
  · rw [h, hstate] at hentered
    exact .inl hentered
  · rw [h] at hfault
    exact .inr ⟨hfault, hfull⟩

theorem exec_doorRelease {p : PortId} {h : Header} {payload : List Byte} {s : State}
    (ha : Accepted p 0x09#8 h payload s) :
    exec (.doorReleaseFrame p h payload) s =
      .next (finish (relayRelease p { kind := 0x09#8, header := h, payload := payload }
        (s.modPort p Port.countGood))) :=
  live_accepted ha (by decide) (by decide)

/-- Settles O31: a release is applied once, to exactly the leaves that meet every condition, and goes on. -/
theorem releaseActsOnQualifyingLeaves : Obligations.ReleaseActsOnQualifyingLeaves := by
  unfold Obligations.ReleaseActsOnQualifyingLeaves
  refine ⟨fun p h payload s ha hbad => ?_, fun p h r s hfirst hle hlast ha => ?_⟩
  · have hnone : readRelease payload = none := Option.eq_none_iff_forall_ne_some.mpr fun r hr => by
      obtain ⟨hpayload, h1, h2, h3⟩ := releasePayload_of_read hr
      exact hbad r h1 h2 h3 hpayload
    rw [exec_doorRelease ha, relayRelease, hnone]
    rfl
  · intro Qual
    have hqual : ∀ k l, Qual k l ↔ Qualifies r s k l := by
      intro k l
      unfold Qual Qualifies enableBit
      rfl
    have hsettled : s.settledIn h.generation = true := by
      obtain ⟨-, -, -, -, hgen⟩ := ha
      exact hgen rfl
    have hrow := exec_doorRelease ha
    rw [relayRelease, readRelease_releasePayload hfirst hle hlast] at hrow
    dsimp only at hrow
    rw [State.modPort_headPort] at hrow
    have hcore := changePassed_egress p { kind := 0x09#8, header := h, payload := releasePayload r } s
    have hquiet {t : State} := changePassed_quiet (p := p) (s := s) (t := t)
      (f := { kind := 0x09#8, header := h, payload := releasePayload r }) rfl
    have hrelay := changePassed_relay p { kind := 0x09#8, header := h, payload := releasePayload r } s
    unfold changePassed at hcore hquiet hrelay
    generalize forward p { kind := 0x09#8, header := h, payload := releasePayload r } (s.modPort p Port.countGood) = u
      at *
    have hconsist : u.consist = s.consist := hcore.consist.trans (by simp)
    have hidentity : u.identity = s.identity := hcore.identity.trans (by simp)
    have hsweep : u.sweep = s.sweep := hcore.sweep.trans (by simp)
    have hdoor : u.door = s.door := hcore.door.trans (by simp)
    have hheat : u.heat = s.heat := hcore.heat.trans (by simp)
    have hstore : u.store = s.store := hcore.store.trans (by simp)
    have hpins : u.pins = s.pins := hcore.pins.trans (by simp)
    have hqueue : u.bus.doorQueue = s.bus.doorQueue := by rw [hcore.bus, State.modPort_bus]
    refine ⟨fun hhead hnew => ?_, fun hhead hold => ?_, fun hhead => ?_⟩
    · rw [if_neg (not_not_intro hhead), hrelay, if_neg hnew, applyRelease_eq] at hrow
      generalize hv : (u.modRelay fun y => { y with lastSerial := some r.serial }) = v at hrow
      have hvdoor : v.door = s.door := by rw [← hv]; exact hdoor
      have hvqueue : v.bus.doorQueue = s.bus.doorQueue := by rw [← hv]; exact hqueue
      have hvstore : v.store = s.store := by rw [← hv]; exact hstore
      have hvkept : NodeKept True u v := by rw [← hv]; exact modRelay_kept (.refl u) _
      have hmeets : releasesLeaf r h.generation v = releasesLeaf r h.generation s := by
        rw [← hv]
        exact releasesLeaf_congr hconsist hidentity hsweep hpins hdoor hstore
      have hnumbers : v.leafNumbers = s.leafNumbers := by rw [State.leafNumbers, hvdoor]; rfl
      rw [hmeets, hnumbers] at hrow
      generalize hks : s.leafNumbers.filter (releasesLeaf r h.generation s) = ks at hrow
      have hmem : ∀ k l, s.leaf k = some l → (k ∈ ks ↔ Qual k l) := fun k l hl => by
        rw [← hks, List.mem_filter, releasesLeaf_iff hsettled hl, ← hqual]
        exact and_iff_right (State.mem_leafNumbers_of_leaf hl)
      have hnodup : ks.Nodup := hks ▸ s.leafNumbers_nodup.filter _
      have hlength : ks.length ≤ s.door.leaves.length := by
        rw [← hks, ← s.leafNumbers_length]
        exact List.length_filter_le _ _
      have hacts := fun k => enterLeaf_leafOnly k .released
      have honly := foldl_leavesOnly (act := fun k s => enterLeaf k .released s) hacts ks v
      have hleaf {k} := foldl_leaf (act := fun k s => enterLeaf k .released s) hacts
        (fun k => enterLeaf_queue_le k .released) hnodup v (k := k)
      have hkept : NodeKept True u (ks.foldl (fun s k => enterLeaf k .released s) v) :=
        hvkept.foldl_of (fun s k => enterLeaf_kept (.refl s) k _) ks
      have hserial : (ks.foldl (fun s k => enterLeaf k .released s) v).relay.lastSerial = some r.serial := by
        rw [enterLeaves_lastSerial, ← hv]
        rfl
      generalize ks.foldl (fun s k => enterLeaf k .released s) v = w at *
      generalize ht : (w.modDoor fun d =>
        if ks = [] then { d with releasesVoid := satInc d.releasesVoid }
        else { d with releasesApplied := satInc d.releasesApplied }) = t at hrow
      have htleaf : ∀ k, t.leaf k = w.leaf k := fun k => by
        rw [← ht]
        by_cases hk : ks = [] <;> simp [State.leaf, hk]
      have hvleaf : ∀ k, v.leaf k = s.leaf k := State.leaf_eq_of_door hvdoor
      refine ⟨t, hrow, ?_, fun k l hl hnot => ?_, fun k l hl hyes => ?_, fun hsome => ?_, fun hnone => ?_, ?_, ?_, ?_, ?_⟩
      · rw [← ht]
        exact hserial
      · rw [htleaf, honly.others k (fun hk => hnot ((hmem k l hl).mp hk)), hvleaf, hl]
      · obtain ⟨m, hm, hmleaf, hmqueue, hend⟩ := hleaf ((hmem k l hl).mpr hyes)
        rw [htleaf, hend]
        rcases enterLeaf_released_leaf (hmleaf.trans ((hvleaf k).trans hl)) with hentered | ⟨hfault, hfull⟩
        · rw [hm.store, hvstore] at hentered
          exact .inl hentered
        · rw [hvqueue] at hmqueue
          exact .inr ⟨hfault, by omega⟩
      · obtain ⟨k, l, hl, hyes⟩ := hsome
        have hks : ks ≠ [] := List.ne_nil_of_mem ((hmem k l hl).mpr hyes)
        rw [← ht, State.modDoor_door, if_neg hks]
        exact ⟨by rw [honly.releasesApplied, hvdoor], by rw [honly.releasesVoid, hvdoor]⟩
      · have hks : ks = [] := List.eq_nil_iff_forall_not_mem.mpr fun k hk => by
          have hnumber : k ∈ s.leafNumbers := (List.mem_filter.mp (hks ▸ hk)).1
          obtain ⟨l, hl⟩ := State.leaf_of_mem_leafNumbers hnumber
          exact hnone k l hl ((hmem k l hl).mp hk)
        rw [← ht, State.modDoor_door, if_pos hks]
        exact ⟨by rw [honly.releasesVoid, hvdoor], by rw [honly.releasesApplied, hvdoor]⟩
      · rw [← ht]
        exact honly.consist.trans (by rw [← hv]; exact hconsist)
      · rw [← ht]
        exact honly.sweep.trans (by rw [← hv]; exact hsweep)
      · rw [← ht]
        exact honly.heat.trans (by rw [← hv]; exact hheat)
      · rw [← ht]
        exact hquiet (modDoor_kept hkept _)
    · rw [if_neg (not_not_intro hhead), hrelay, if_pos hold] at hrow
      refine ⟨_, hrow, hdoor, congrArg (fun y : Relay => satInc y.repeats) hrelay, hquiet (modRelay_kept (.refl u) _)⟩
    · rw [if_pos hhead] at hrow
      exact hrow

/-! ## DOOR-CLOSE (R117, R123, R198) -/

theorem readClose_eq_none {payload : List Byte} (h : payload.length ≠ 2
    ∨ ((payload.getD 1 0#8).getLsbD 0 = false ∧ (payload.getD 1 0#8).getLsbD 1 = false)) :
    readClose payload = none := by
  unfold readClose
  split
  · next serial mask =>
    obtain ⟨h0, h1⟩ := h.resolve_left fun hlen => hlen rfl
    exact if_neg (by rw [show mask.getLsbD 0 = false from h0, show mask.getLsbD 1 = false from h1]; decide)
  · rfl

theorem applyClose_eq (c : Close) (usable : Option Orientation) (s : State) :
    applyClose c usable s =
      ((s.leafNumbers.filter fun k => ((s.leafSide k).map (c.covers usable)).getD false).foldl
        (fun s k => closeLeaf k s) s).modDoor fun d => { d with closes := satInc d.closes } := rfl

/-- Whether a close covers leaf `k`, in the terms of R123. -/
theorem covered_iff (c : Close) (g : Byte) (s : State) (k : Nat) :
    ((s.leafSide k).map (c.covers (if s.settledIn g then s.orientation else none))).getD false = true ↔
      ∃ f, s.store.content.leaves[k - 1]? = some f
        ∧ (s.consist.state = .settled ∧ g = s.consist.generation → ∀ o, s.orientation = some o →
            (c.left = true ∧ f.side = vehicleSide o .left) ∨ (c.right = true ∧ f.side = vehicleSide o .right)) := by
  rw [← State.settledIn_iff, State.leafSide]
  cases s.store.content.leaves[k - 1]? with
  | none => simp
  | some f =>
    cases hsettled : s.settledIn g with
    | false => simp [Close.covers]
    | true => cases s.orientation <;> simp [Close.covers]

theorem exec_doorClose {p : PortId} {h : Header} {payload : List Byte} {s : State}
    (ha : Accepted p 0x0A#8 h payload s) :
    exec (.doorCloseFrame p h payload) s =
      .next (finish (relayClose p { kind := 0x0A#8, header := h, payload := payload }
        (s.modPort p Port.countGood))) :=
  live_accepted ha (by decide) (by decide)

/-- A leaf that enters a state while class 1 has room holds what the entry gives it. -/
theorem enterLeaf_leaf_room {k : Nat} {st : LeafState} {s : State} (h : s.bus.doorQueue.length < 16) :
    (enterLeaf k st s).leaf k =
      (s.leaf k).map (Leaf.entered s.store.content (enteredState s.store.content st)) :=
  (enterLeaf_leaf k st s).resolve_right fun ⟨hfull, _⟩ => absurd h (Nat.not_lt.mpr hfull)

theorem closeLeaf_kept {quiet : Prop} {s₀ s : State} (h : NodeKept quiet s₀ s) (k : Nat) :
    NodeKept quiet s₀ (closeLeaf k s) := by
  unfold closeLeaf
  split
  · exact enterLeaf_kept h k _
  · exact enterLeaf_kept h k _
  · exact h

/-- Settles O32: a close acts on the covered leaves in RELEASED and REOPENING, and goes on. -/
theorem closeActsOnCoveredLeaves : Obligations.CloseActsOnCoveredLeaves := by
  unfold Obligations.CloseActsOnCoveredLeaves
  refine ⟨fun p h payload s ha hbad => ?_, fun p h c s hmask ha hroom => ?_⟩
  · rw [exec_doorClose ha, relayClose, readClose_eq_none hbad]
    rfl
  · intro usable Covered
    have hrow := exec_doorClose ha
    rw [relayClose, readClose_closePayload hmask] at hrow
    dsimp only at hrow
    rw [State.modPort_settledIn, State.orientation_congr (t := s.modPort p Port.countGood) (s := s) (by simp) (by simp)]
      at hrow
    have hcore := changePassed_egress p { kind := 0x0A#8, header := h, payload := closePayload c } s
    have hquiet {t : State} := changePassed_quiet (p := p) (s := s) (t := t)
      (f := { kind := 0x0A#8, header := h, payload := closePayload c }) rfl
    unfold changePassed at hcore hquiet
    generalize forward p { kind := 0x0A#8, header := h, payload := closePayload c } (s.modPort p Port.countGood) = u at *
    have hconsist : u.consist = s.consist := hcore.consist.trans (by simp)
    have hsweep : u.sweep = s.sweep := hcore.sweep.trans (by simp)
    have hdoor : u.door = s.door := hcore.door.trans (by simp)
    have hheat : u.heat = s.heat := hcore.heat.trans (by simp)
    have hstore : u.store = s.store := hcore.store.trans (by simp)
    have hqueue : u.bus.doorQueue = s.bus.doorQueue := by rw [hcore.bus, State.modPort_bus]
    have huleaf : ∀ k, u.leaf k = s.leaf k := State.leaf_eq_of_door hdoor
    have hside : u.leafSide = s.leafSide := by funext k; simp only [State.leafSide, hstore]
    have hnumbers : u.leafNumbers = s.leafNumbers := by rw [State.leafNumbers, hdoor]; rfl
    rw [applyClose_eq, hside, hnumbers] at hrow
    generalize hks : (s.leafNumbers.filter fun k =>
      ((s.leafSide k).map (c.covers (if s.settledIn h.generation then s.orientation else none))).getD false) = ks at hrow
    have hmem : ∀ k l, s.leaf k = some l → (k ∈ ks ↔ Covered k) := fun k l hl => by
      rw [← hks, List.mem_filter, covered_iff]
      exact and_iff_right (State.mem_leafNumbers_of_leaf hl)
    have hnodup : ks.Nodup := hks ▸ s.leafNumbers_nodup.filter _
    have hlength : ks.length ≤ s.door.leaves.length := by
      rw [← hks, ← s.leafNumbers_length]
      exact List.length_filter_le _ _
    have honly := foldl_leavesOnly closeLeaf_leafOnly ks u
    have hleaf {k} := foldl_leaf closeLeaf_leafOnly closeLeaf_queue_le hnodup u (k := k)
    have hkept : NodeKept True u (ks.foldl (fun s k => closeLeaf k s) u) :=
      (NodeKept.refl u).foldl_of (fun s k => closeLeaf_kept (.refl s) k) ks
    generalize ks.foldl (fun s k => closeLeaf k s) u = w at *
    have hstays : ∀ k l, s.leaf k = some l → k ∉ ks → w.leaf k = some l := fun k l hl hk =>
      (honly.others k hk).trans ((huleaf k).trans hl)
    have hacted : ∀ k l, s.leaf k = some l → k ∈ ks → ∃ m, m.leaf k = some l ∧ m.store = s.store
        ∧ m.bus.doorQueue.length < 16 ∧ w.leaf k = (closeLeaf k m).leaf k := fun k l hl hk => by
      obtain ⟨m, hm, hmleaf, hmqueue, hend⟩ := hleaf hk
      rw [hqueue] at hmqueue
      exact ⟨m, hmleaf.trans ((huleaf k).trans hl), hm.store.trans hstore, by omega, hend⟩
    refine ⟨_, hrow, ?_, fun k l hl hcovered hstate => ?_, fun k l hl hcovered hstate => ?_, fun k l hl hnot => ?_,
      honly.consist.trans hconsist, honly.sweep.trans hsweep, honly.heat.trans hheat, honly.store.trans hstore,
      hquiet (modDoor_kept hkept _)⟩
    · exact congrArg satInc (honly.closes.trans (congrArg Door.closes hdoor))
    · obtain ⟨m, hm, hmstore, hmroom, hend⟩ := hacted k l hl ((hmem k l hl).mpr hcovered)
      show (w.leaf k).map Leaf.state = _
      rw [hend, closeLeaf, State.leafState_eq_some hm, hstate]
      dsimp only
      rw [enterLeaf_leaf_room hmroom, hm, hmstore, enteredState_warning]
      rfl
    · obtain ⟨m, hm, hmstore, hmroom, hend⟩ := hacted k l hl ((hmem k l hl).mpr hcovered)
      show w.leaf k = _
      rw [hend, closeLeaf, State.leafState_eq_some hm, hstate]
      dsimp only
      rw [enterLeaf_leaf_room hmroom, hm, hmstore]
      rfl
    · show w.leaf k = some l
      by_cases hk : k ∈ ks
      · obtain ⟨hnotReleased, hnotReopening⟩ := hnot.resolve_left fun h => h ((hmem k l hl).mp hk)
        obtain ⟨m, hm, -, -, hend⟩ := hacted k l hl hk
        rw [hend, closeLeaf, State.leafState_eq_some hm]
        cases hstate : l.state with
        | released => exact absurd hstate hnotReleased
        | reopening => exact absurd hstate hnotReopening
        | _ => exact hm
      · exact hstays k l hl hk

end Sys2Proof.Machine
end

section
/-! What the arbiter makes of a class queue, and a door write as it joins class 1 (R84 to R86). -/

namespace Sys2Proof.Machine

open Sys2Proof

/-! ## Entries the arbiter starts (R85) -/

/-- An entry that is a write is the same write once it has started. -/
theorem QueueEntry.started_of_write {e : QueueEntry} {station item : Byte} {data : List Byte}
    (h : e.op = .write station item data) :
    e.started.op = .write station item data ∧ e.started.mode = e.mode ∧ e.started.owner = e.owner
      ∧ e.started.current = e.current := by
  simp [QueueEntry.started, h]

/-- Of a class queue the arbiter leaves all as it is or starts the first eligible entry. -/
theorem arbitrate_queue (cls : QueueClass) (s : State) :
    (arbitrate s).bus.queue cls = s.bus.queue cls
      ∨ (s.bus.flight = none ∧ startFirst [] (s.bus.queue cls) = some ((arbitrate s).bus.queue cls)) := by
  unfold arbitrate
  split
  · next hidle =>
    unfold startNext
    split
    · next q hq =>
      cases cls with
      | door => exact .inr ⟨hidle, hq⟩
      | heat => exact .inl rfl
      | remote => exact .inl rfl
    · split
      · next q hq =>
        cases cls with
        | door => exact .inl rfl
        | heat => exact .inr ⟨hidle, hq⟩
        | remote => exact .inl rfl
      · split
        · exact .inl (by cases cls <;> rfl)
        · split
          · next q hq =>
            cases cls with
            | door => exact .inl rfl
            | heat => exact .inl rfl
            | remote => exact .inr ⟨hidle, hq⟩
          · cases nextPoll s with
            | none => exact .inl rfl
            | some x => exact .inl (by cases cls <;> rfl)
  · exact .inl rfl

theorem startFirst_mem {held : List (Byte × Byte)} {q q' : List QueueEntry} (h : startFirst held q = some q')
    {x : QueueEntry} (hx : x ∈ q) : x ∈ q' ∨ x.started ∈ q' := by
  induction q generalizing held q' with
  | nil => cases h
  | cons e rest ih =>
    unfold startFirst at h
    split at h
    · cases h
      rcases List.mem_cons.mp hx with rfl | hx
      · exact .inr (by simp)
      · exact .inl (by simp [hx])
    · obtain ⟨r, hr, rfl⟩ := Option.map_eq_some_iff.mp h
      rcases List.mem_cons.mp hx with rfl | hx
      · exact .inl (by simp)
      · exact (ih hr hx).imp (by simp +contextual) (by simp +contextual)

/-- The newest entry of a queue, which is no walk, stays the newest. -/
theorem startFirst_getLast? {held : List (Byte × Byte)} {q q' : List QueueEntry} {new : QueueEntry}
    {station item : Byte} {data : List Byte} (hop : new.op = .write station item data)
    (h : startFirst held (q ++ [new]) = some q') : q'.getLast? = some new ∨ q'.getLast? = some new.started := by
  induction q generalizing held q' with
  | nil =>
    rw [List.nil_append] at h
    unfold startFirst at h
    split at h
    · cases h
      exact .inr rfl
    · cases h
  | cons e rest ih =>
    rw [List.cons_append] at h
    unfold startFirst at h
    split at h
    · obtain rfl := Option.some.inj h
      rw [← List.cons_append]
      exact .inl List.getLast?_concat
    · obtain ⟨r, hr, rfl⟩ := Option.map_eq_some_iff.mp h
      have hlast := ih hr
      cases r with
      | nil => exact absurd hlast (by simp)
      | cons x tail =>
        rw [behindWalk]
        split
        · next hwalk =>
          cases tail with
          | nil =>
            have hnot : x.walking = false := by
              rcases hlast with hx | hx <;> rw [show x = _ from Option.some.inj hx]
              · simp [QueueEntry.walking, hop]
              · simp [QueueEntry.walking, (QueueEntry.started_of_write hop).1]
            rw [hnot] at hwalk
            exact absurd hwalk.1 Bool.false_ne_true
          | cons y more => simpa using hlast
        · simpa using hlast

/-- A write in a class queue stands there after the arbiter has looked at it. -/
theorem arbitrate_mem_write {cls : QueueClass} {s : State} {x : QueueEntry} {station item : Byte} {data : List Byte}
    (hx : x ∈ s.bus.queue cls) (hop : x.op = .write station item data) :
    ∃ y ∈ (arbitrate s).bus.queue cls, y.op = x.op ∧ y.mode = x.mode ∧ y.owner = x.owner ∧ y.current = x.current := by
  rcases arbitrate_queue cls s with hq | ⟨-, hq⟩
  · exact ⟨x, hq ▸ hx, rfl, rfl, rfl, rfl⟩
  · rcases startFirst_mem hq hx with hmem | hmem
    · exact ⟨x, hmem, rfl, rfl, rfl, rfl⟩
    · obtain ⟨h1, h2, h3, h4⟩ := QueueEntry.started_of_write hop
      exact ⟨_, hmem, h1.trans hop.symm, h2, h3, h4⟩

/-! ## Door writes (R86) -/

/-- A door write offered while class 1 has room joins at its newest end. -/
theorem offerDoorWrite_joins (k : Nat) (station item command : Byte) {s : State} (h : s.bus.doorQueue.length < 16) :
    ∃ e, (offerDoorWrite k station item command s).1.bus.doorQueue.getLast? = some e
      ∧ e.op = .write station item [command] ∧ e.mode = .persist 200 ∧ e.owner = .leaf k ∧ e.current = true := by
  unfold offerDoorWrite
  dsimp only
  rw [if_pos (show s.bus.doorQueue.length < Config.doorQueueSize from h)]
  have hop : (QueueEntry.fresh (.write station item [command]) (.persist Config.writePersistMs) (.leaf k)).op =
      .write station item [command] := rfl
  rcases arbitrate_queue .door (s.modBus fun b => { b with doorQueue := s.bus.doorQueue ++
    [QueueEntry.fresh (.write station item [command]) (.persist Config.writePersistMs) (.leaf k)] }) with hq | ⟨-, hq⟩
  · exact ⟨_, (congrArg List.getLast? hq).trans List.getLast?_concat, rfl, rfl, rfl, rfl⟩
  · obtain ⟨h1, h2, h3, h4⟩ := QueueEntry.started_of_write hop
    rcases startFirst_getLast? hop hq with hlast | hlast
    · exact ⟨_, hlast, rfl, rfl, rfl, rfl⟩
    · exact ⟨_, hlast, h1, h2, h3, h4⟩

end Sys2Proof.Machine
end

section
/-! The leaf timers and the reads of a leaf's status (R118, R127 to R133, R136). -/

namespace Sys2Proof.Machine

open Sys2Proof

/-! ## A leaf that has become another, with room in class 1 -/

/-- Leaf `k` has become `next`, by a write of `command` where there is one: no other leaf has changed, nor anything
of the consist and the heating, and class 1 is longer by that write. -/
def LeafBecomes (k : Nat) (f : LeafConfig) (s t : State) (next : Leaf) (command : Option Byte) (faults : Nat) : Prop :=
  t.leaf k = some next ∧ (∀ j, j ≠ k → t.leaf j = s.leaf j) ∧ t.door.leafFaults = faults
    ∧ t.consist = s.consist ∧ t.heat = s.heat
    ∧ t.bus.doorQueue.length = s.bus.doorQueue.length + command.toList.length
    ∧ ∀ w, command = some w → ∃ x ∈ t.bus.doorQueue,
        x.op = .write f.station f.commandItem [w] ∧ x.owner = .leaf k ∧ x.current = true

section
variable {k : Nat} {f : LeafConfig} {s t : State} {next : Leaf} {command : Option Byte} {faults : Nat}

/-- What a leaf has become stands in every state with the same units and the same class 1. -/
theorem LeafBecomes.before {s' : State} (h : LeafBecomes k f s' t next command faults) (hdoor : s'.door = s.door)
    (hconsist : s'.consist = s.consist) (hheat : s'.heat = s.heat) (hqueue : s'.bus.doorQueue = s.bus.doorQueue) :
    LeafBecomes k f s t next command faults := by
  obtain ⟨hleaf, hothers, hfaults, hc, hh, hlength, hwrite⟩ := h
  exact ⟨hleaf, fun j hj => (hothers j hj).trans (State.leaf_eq_of_door hdoor j), hfaults, hc.trans hconsist,
    hh.trans hheat, by rw [hlength, hqueue], hwrite⟩

theorem LeafBecomes.finish (h : LeafBecomes k f s t next command faults) :
    LeafBecomes k f s (finish t) next command faults := by
  obtain ⟨hleaf, hothers, hfaults, hc, hh, hlength, hwrite⟩ := h
  have hqueue : (Machine.finish t).bus.doorQueue = t.bus.doorQueue := by rw [(finish_egress t).bus]
  have hdoor := (finish_egress t).door
  exact ⟨(State.leaf_eq_of_door hdoor k).trans hleaf, fun j hj => (State.leaf_eq_of_door hdoor j).trans (hothers j hj),
    by rw [hdoor, hfaults], (finish_egress t).consist.trans hc, (finish_egress t).heat.trans hh,
    by rw [hqueue, hlength], by rw [hqueue]; exact hwrite⟩

theorem LeafBecomes.arbitrate (h : LeafBecomes k f s t next command faults) :
    LeafBecomes k f s (arbitrate t) next command faults := by
  obtain ⟨hleaf, hothers, hfaults, hc, hh, hlength, hwrite⟩ := h
  have honly := arbitrate_busOnly t
  refine ⟨(State.leaf_eq_of_door honly.door k).trans hleaf,
    fun j hj => (State.leaf_eq_of_door honly.door j).trans (hothers j hj), by rw [honly.door, hfaults],
    honly.consist.trans hc, honly.heat.trans hh, by rw [(arbitrate_bus t).1, hlength], fun w hw => ?_⟩
  obtain ⟨x, hx, hop, howner, hcurrent⟩ := hwrite w hw
  obtain ⟨y, hy, hyop, -, hyowner, hycurrent⟩ := arbitrate_mem_write (cls := .door) hx hop
  exact ⟨y, hy, hyop.trans hop, hyowner.trans howner, hycurrent.trans hcurrent⟩

end

/-- Leaf `k` as the entry to a state leaves it, before its command (R118). -/
def leafEntered (k : Nat) (st : LeafState) (s : State) : State :=
  evalVehicleProof (supersedeLeaf k (s.modLeaf k (Leaf.entered s.store.content (enteredState s.store.content st))))

theorem modLeaf_leafFaults (k : Nat) (f : Leaf → Leaf) (s : State) :
    (s.modLeaf k f).door.leafFaults = s.door.leafFaults := by
  unfold State.modLeaf
  split <;> rfl

theorem leafEntered_becomes {k : Nat} {l : Leaf} (f : LeafConfig) {s : State} (st : LeafState) (hl : s.leaf k = some l) :
    LeafBecomes k f s (leafEntered k st s) (Leaf.entered s.store.content (enteredState s.store.content st) l) none
      s.door.leafFaults := by
  have honly : LeafOnly k s (leafEntered k st s) :=
    (State.modLeaf_leafOnly k _ s).trans ((supersedeLeaf_leafOnly k _).trans (evalVehicleProof_leafOnly k _))
  obtain ⟨-, -, -, hconsist, -, hheat, -, -, hothers, -⟩ := honly
  refine ⟨?_, hothers, modLeaf_leafFaults k _ s, hconsist, hheat, ?_, fun w hw => nomatch hw⟩
  · rw [leafEntered, evalVehicleProof_leaf, supersedeLeaf_leaf, State.modLeaf_leaf, hl]
    rfl
  · rw [leafEntered, evalVehicleProof_bus, supersedeLeaf_length, modLeaf_bus]
    rfl

section
variable {k : Nat} {l : Leaf} {f : LeafConfig} {s : State} {st : LeafState} (hl : s.leaf k = some l)
include hl

/-- The entry to a state that writes no command. -/
theorem enterLeaf_becomes_silent (f : LeafConfig) (hcommand : leafCommand (enteredState s.store.content st) = none) :
    LeafBecomes k f s (enterLeaf k st s) (Leaf.entered s.store.content (enteredState s.store.content st) l) none
      s.door.leafFaults := by
  have h : enterLeaf k st s = leafEntered k st s := by
    unfold enterLeaf
    dsimp only
    rw [hcommand]
    rfl
  rw [h]
  exact leafEntered_becomes f st hl

variable (hf : s.store.content.leaves[k - 1]? = some f) (hroom : s.bus.doorQueue.length < 16)
include hf hroom

/-- The entry to a state that writes a command, with room in class 1. -/
theorem enterLeaf_eq_write {command : Byte} (hcommand : leafCommand (enteredState s.store.content st) = some command) :
    enterLeaf k st s = (offerDoorWrite k f.station f.commandItem command (leafEntered k st s)).1
      ∧ (leafEntered k st s).bus.doorQueue.length < 16 := by
  obtain ⟨-, -, -, -, -, hlength, -⟩ := leafEntered_becomes f st hl
  have hroom' : (leafEntered k st s).bus.doorQueue.length < 16 := by simpa [hlength] using hroom
  refine ⟨?_, hroom'⟩
  unfold enterLeaf
  dsimp only
  rw [hcommand, hf]
  show (if (offerDoorWrite k f.station f.commandItem command (leafEntered k st s)).2 = true then _ else _) = _
  rw [((offerDoorWrite_spec k f.station f.commandItem command (leafEntered k st s)).2.1 hroom').1]
  rfl

theorem enterLeaf_becomes_write {command : Byte}
    (hcommand : leafCommand (enteredState s.store.content st) = some command) :
    LeafBecomes k f s (enterLeaf k st s) (Leaf.entered s.store.content (enteredState s.store.content st) l)
      (some command) s.door.leafFaults := by
  obtain ⟨heq, hroom'⟩ := enterLeaf_eq_write hl hf hroom hcommand
  obtain ⟨hleaf, hothers, hfaults, hc, hh, hlength, -⟩ := leafEntered_becomes f st hl
  obtain ⟨honly, hjoined, -⟩ := offerDoorWrite_spec k f.station f.commandItem command (leafEntered k st s)
  obtain ⟨e, hlast, hop, -, howner, hcurrent⟩ :=
    offerDoorWrite_joins k f.station f.commandItem command hroom'
  rw [heq]
  refine ⟨(State.leaf_eq_of_door honly.door k).trans hleaf,
    fun j hj => (State.leaf_eq_of_door honly.door j).trans (hothers j hj), by rw [honly.door, hfaults],
    honly.consist.trans hc, honly.heat.trans hh, ?_, fun w hw => ?_⟩
  · rw [(hjoined hroom').2, hlength]
    rfl
  · obtain rfl := Option.some.inj hw
    exact ⟨e, List.mem_of_getLast? hlast, hop, howner, hcurrent⟩

end

/-- A leaf that enters FAULT writes nothing and is counted (R118, R139). -/
theorem enterFault_becomes {k : Nat} {l : Leaf} (f : LeafConfig) (value : Nat) {s : State} (hl : s.leaf k = some l) :
    LeafBecomes k f s (enterFault k value s) { l with state := .fault, timer := none } none
      (satInc s.door.leafFaults) := by
  obtain ⟨-, -, -, hconsist, -, hheat, -, -, hothers, -⟩ := enterFault_leafOnly k value s
  refine ⟨by rw [enterFault_leaf, hl]; rfl, hothers, ?_, hconsist, hheat, enterFault_queue k value s,
    fun w hw => nomatch hw⟩
  unfold enterFault
  rw [(raise_egress _ _ _ _).door]
  exact congrArg satInc (modLeaf_leafFaults k _ s)

/-! ## The leaf timers (R127 to R130) -/

theorem leafTimerRuns_iff {k : Nat} {l : Leaf} {st : LeafState} {s : State} (hl : s.leaf k = some l)
    (hstate : l.state = st) (htimer : l.timer ≠ none) : leafTimerRuns k st s = true := by
  unfold leafTimerRuns
  rw [hl]
  simp [hstate, Option.isSome_iff_ne_none.mpr htimer]

/-- A leaf that enters a state with a command puts that command at the newest end of class 1. -/
theorem enterLeaf_getLast? {k : Nat} {l : Leaf} {f : LeafConfig} {s : State} {st : LeafState} (hl : s.leaf k = some l)
    (hf : s.store.content.leaves[k - 1]? = some f) (hroom : s.bus.doorQueue.length < 16) {command : Byte}
    (hcommand : leafCommand (enteredState s.store.content st) = some command) :
    ∃ e, (enterLeaf k st s).bus.doorQueue.getLast? = some e
      ∧ e.op = .write f.station f.commandItem [command] ∧ e.mode = .persist 200 ∧ e.owner = .leaf k
      ∧ e.current = true := by
  obtain ⟨heq, hroom'⟩ := enterLeaf_eq_write hl hf hroom hcommand
  rw [heq]
  exact offerDoorWrite_joins k f.station f.commandItem command hroom'

/-- A leaf with one attempt less. -/
def attemptUsed (k : Nat) (s : State) : State := s.modLeaf k fun l => { l with attempts := l.attempts - 1 }

theorem attemptUsed_leafOnly (k : Nat) (s : State) : LeafOnly k s (attemptUsed k s) := State.modLeaf_leafOnly k _ s

theorem attemptUsed_leaf {k : Nat} {l : Leaf} {s : State} (hl : s.leaf k = some l) :
    (attemptUsed k s).leaf k = some { l with attempts := l.attempts - 1 } := by
  rw [attemptUsed, State.modLeaf_leaf, hl]
  rfl

theorem closeFailed_eq {k : Nat} {l : Leaf} {s : State} (hl : s.leaf k = some l) :
    closeFailed k s =
      if l.attempts = 0 then enterFault k closeFailedCode s else enterLeaf k .reopening (attemptUsed k s) := by
  unfold closeFailed
  rw [hl]
  rfl

/-- What holds of a leaf whose state before the last act differs from a first one in that leaf alone. -/
theorem LeafBecomes.after {k : Nat} {f : LeafConfig} {s s' t : State} {next : Leaf} {command : Option Byte}
    {faults : Nat} (h : LeafBecomes k f s' t next command faults) (honly : LeafOnly k s s')
    (hqueue : s'.bus.doorQueue = s.bus.doorQueue) : LeafBecomes k f s t next command faults := by
  obtain ⟨-, -, -, hconsist, -, hheat, -, -, hothers, -⟩ := honly
  obtain ⟨hleaf, hrest, hfaults, hc, hh, hlength, hwrite⟩ := h
  exact ⟨hleaf, fun j hj => (hrest j hj).trans (hothers j hj), hfaults, hc.trans hconsist, hh.trans hheat,
    by rw [hlength, hqueue], hwrite⟩

/-- A close that has failed with an attempt left: the leaf reopens. -/
theorem closeFailed_becomes {k : Nat} {l : Leaf} {f : LeafConfig} {s : State} (hl : s.leaf k = some l)
    (hf : s.store.content.leaves[k - 1]? = some f) (hroom : s.bus.doorQueue.length < 16) (hleft : 0 < l.attempts) :
    LeafBecomes k f s (closeFailed k s)
      { l with state := .reopening, timer := some (s.store.content.reopenDwell * 1000), attempts := l.attempts - 1 }
      (some 4#8) s.door.leafFaults := by
  have hstore : (attemptUsed k s).store = s.store := by
    obtain ⟨-, -, -, -, -, -, hstore, -⟩ := attemptUsed_leafOnly k s
    exact hstore
  have hbus : (attemptUsed k s).bus = s.bus := modLeaf_bus k _ s
  have hbecomes := enterLeaf_becomes_write (st := .reopening) (attemptUsed_leaf hl) (by rwa [hstore])
    (by rwa [hbus]) (command := 4#8) (by simp [enteredState, leafCommand])
  rw [closeFailed_eq hl, if_neg (by omega)]
  have hafter := hbecomes.after (attemptUsed_leafOnly k s) (by rw [hbus])
  rw [hstore, show (attemptUsed k s).door.leafFaults = s.door.leafFaults from modLeaf_leafFaults k _ s] at hafter
  simpa [Leaf.entered, enteredState, leafTimer] using hafter

/-- A leaf that starts a close sequence of its own takes every attempt (R118, R135, R136). -/
theorem enterFreshWarning_becomes {k : Nat} {l : Leaf} {f : LeafConfig} {s : State} (hl : s.leaf k = some l)
    (hf : s.store.content.leaves[k - 1]? = some f) (hroom : s.bus.doorQueue.length < 16) :
    (s.store.content.warning ≠ 0 → LeafBecomes k f s (enterFreshWarning k s)
        { l with state := .warning, timer := some (s.store.content.warning * 1000)
                 attempts := s.store.content.reopenAttempts } (some 2#8) s.door.leafFaults)
      ∧ (s.store.content.warning = 0 → LeafBecomes k f s (enterFreshWarning k s)
        { state := .closing, timer := some (s.store.content.closeConfirm * 1000)
          attempts := s.store.content.reopenAttempts, closeMark := false } (some 3#8) s.door.leafFaults) := by
  let fresh := s.modLeaf k fun l => { l with attempts := s.store.content.reopenAttempts }
  have honly : LeafOnly k s fresh := State.modLeaf_leafOnly k _ s
  have hstore : fresh.store = s.store := by
    obtain ⟨-, -, -, -, -, -, hstore, -⟩ := honly
    exact hstore
  have hbus : fresh.bus = s.bus := modLeaf_bus k _ s
  have hfaults : fresh.door.leafFaults = s.door.leafFaults := modLeaf_leafFaults k _ s
  have hfresh : fresh.leaf k = some { l with attempts := s.store.content.reopenAttempts } := by
    rw [State.modLeaf_leaf, hl]
    rfl
  have hbecomes {command : Byte} := enterLeaf_becomes_write (st := .warning) (command := command) hfresh
    (by rwa [hstore]) (by rwa [hbus])
  rw [hstore, hfaults, enteredState_warning] at hbecomes
  refine ⟨fun hwarning => ?_, fun hwarning => ?_⟩
  · rw [if_neg hwarning] at hbecomes
    exact (hbecomes rfl).after honly (by rw [hbus])
  · rw [if_pos hwarning] at hbecomes
    exact (hbecomes rfl).after honly (by rw [hbus])

/-! ## A poll read that ends (R80, R90, R92) -/

/-- A valid answer to the poll read in flight. -/
theorem exec_busAnswer_poll {e : PollEntry} {n : Nat} {use : PollUse} {ready : Bool} {data : List Byte} {s : State}
    (hpower : s.powered = true) (hflight : s.bus.flight = some (.poll e n use))
    (hvalid : ready = true → 1 ≤ data.length ∧ data.length ≤ 16) :
    exec (.busAnswer e.station e.item ready data) s =
      .next (finish (arbitrate (pollEnds e n use (if ready then .done data else .notReady)
        (s.modBus (Bus.landed (if ready then .done data else .notReady)))))) := by
  rw [show exec (.busAnswer e.station e.item ready data) s =
      live (stationAnswers e.station e.item ready data) s from rfl, live_powered _ s hpower, stationAnswers, hflight]
  dsimp only
  rw [if_pos, attemptEnds_eq]
  unfold answerValid flightAddress
  cases ready with
  | false => simp
  | true => simpa using hvalid rfl

/-- A leaf status read: the record of the leaf takes the value, and the Door Unit is told (R92, R94). -/
def leafStatusRead (k : Nat) (data : List Byte) (s : State) : State :=
  (advancePointer (s.modBus (Bus.landed (.done data)))).modBus fun b =>
    { b with records := b.records.map fun r =>
        if r.dest = .leafStatus k then { r with value := some data, age := 0 } else r }

theorem pollEnds_leafStatus {e : PollEntry} {n k : Nat} {data : List Byte} {s : State} (hdest : e.dest = .leafStatus k) :
    pollEnds e n .current (.done data) (s.modBus (Bus.landed (.done data))) =
      leafStatusTold k true (leafStatusRead k data s) := by
  have hcount : countPollTimeout e (.value data) (s.modBus (Bus.landed (.done data))) =
      s.modBus (Bus.landed (.done data)) := if_neg fun h => nomatch h.2
  unfold pollEnds pollVerdict
  dsimp only
  rw [hcount]
  unfold applyPoll stationChange leafStatusRead
  rw [hdest]
  rfl

theorem leafStatusRead_busOnly (k : Nat) (data : List Byte) (s : State) : BusOnly s (leafStatusRead k data s) := by
  unfold leafStatusRead advancePointer finishRound
  split <;> exact rfl

theorem leafStatusRead_doorQueue (k : Nat) (data : List Byte) (s : State) :
    (leafStatusRead k data s).bus.doorQueue = s.bus.doorQueue := by
  unfold leafStatusRead advancePointer finishRound
  split <;> rfl

/-- A change of status records that leaves their destinations is read back at each destination. -/
theorem find_record_map {g : StatusRecord → StatusRecord} (hg : ∀ r, (g r).dest = r.dest) (d : PollDest)
    (rs : List StatusRecord) :
    (rs.map g).find? (fun r => decide (r.dest = d)) = (rs.find? fun r => decide (r.dest = d)).map g := by
  rw [List.find?_map]
  simp only [Function.comp_def, hg]

theorem leafStatusRead_leafStatus {k : Nat} {b : Byte} {more : List Byte} {s : State}
    (h : s.record (.leafStatus k) ≠ none) : (leafStatusRead k (b :: more) s).leafStatus k = leafStatusOf b := by
  obtain ⟨r, hr⟩ := Option.ne_none_iff_exists'.mp h
  have hdest : r.dest = .leafStatus k := by simpa using List.find?_some hr
  have hrecords : (leafStatusRead k (b :: more) s).bus.records = s.bus.records.map fun r =>
      if r.dest = .leafStatus k then { r with value := some (b :: more), age := 0 } else r := by
    unfold leafStatusRead advancePointer finishRound
    split <;> rfl
  have hrecord : (leafStatusRead k (b :: more) s).record (.leafStatus k) =
      some { r with value := some (b :: more), age := 0 } := by
    rw [State.record, hrecords, find_record_map (fun r => by split <;> rfl)]
    rw [show s.bus.records.find? (fun r => decide (r.dest = .leafStatus k)) = some r from hr, Option.map_some, if_pos hdest]
  rw [State.leafStatus, State.freshValue, hrecord]
  rfl

/-- The Door Unit told of a status it knows acts on the leaf; of an unknown one it takes nothing. -/
theorem leafStatusTold_eq {k : Nat} {l : Leaf} {s : State} (fromRead : Bool) (hl : s.leaf k = some l) :
    leafStatusTold k fromRead s =
      match s.leafStatus k with
      | some status => actOnStatus k fromRead l status (evalVehicleProof s)
      | none => evalVehicleProof s := by
  unfold leafStatusTold
  dsimp only
  rw [show (evalVehicleProof s).leaf k = some l from hl,
    show (evalVehicleProof s).leafStatus k = s.leafStatus k from rfl]
  cases s.leafStatus k <;> rfl

/-- What a read of a leaf's status comes to, where the leaf has become another in the state that holds the record. -/
theorem busAnswer_leafStatus {e : PollEntry} {n k : Nat} {l : Leaf} {f : LeafConfig} {b : Byte} {more : List Byte}
    {s : State} {next : Leaf} {command : Option Byte} {faults : Nat} (hpower : s.powered = true)
    (hflight : s.bus.flight = some (.poll e n .current)) (hdest : e.dest = .leafStatus k)
    (hrecord : s.record (.leafStatus k) ≠ none) (hlen : more.length ≤ 15) (hl : s.leaf k = some l)
    (h : LeafBecomes k f (evalVehicleProof (leafStatusRead k (b :: more) s))
      (match leafStatusOf b with
        | some status => actOnStatus k true l status (evalVehicleProof (leafStatusRead k (b :: more) s))
        | none => evalVehicleProof (leafStatusRead k (b :: more) s)) next command faults) :
    ∃ t, exec (.busAnswer e.station e.item true (b :: more)) s = .next t ∧ LeafBecomes k f s t next command faults := by
  have honly := leafStatusRead_busOnly k (b :: more) s
  have hleaf : (leafStatusRead k (b :: more) s).leaf k = some l := (State.leaf_eq_of_door honly.door k).trans hl
  refine ⟨_, exec_busAnswer_poll hpower hflight fun _ => ⟨by simp, by simp; omega⟩, ?_⟩
  rw [if_pos rfl, pollEnds_leafStatus hdest, leafStatusTold_eq true hleaf, leafStatusRead_leafStatus hrecord]
  refine LeafBecomes.finish (LeafBecomes.arbitrate (LeafBecomes.after h ?_ ?_))
  · exact honly.leafOnly.trans (evalVehicleProof_leafOnly k _)
  · exact leafStatusRead_doorQueue k _ s

/-- The code of a leaf status (section 12.5). -/
def LeafStatus.code : LeafStatus → Byte
  | .closedLocked => 1#8
  | .opened => 2#8
  | .obstructed => 3#8
  | .isolatedLocked => 4#8
  | .isolatedOpen => 5#8

theorem leafStatusOf_eq_some_iff (b : Byte) (status : LeafStatus) : leafStatusOf b = some status ↔ b = status.code := by
  unfold leafStatusOf LeafStatus.code
  cases status <;> grind

theorem leafStatusOf_eq_none {b : Byte} (h : b = 0#8 ∨ 5 < b.toNat) : leafStatusOf b = none := by
  refine Option.eq_none_iff_forall_ne_some.mpr fun status hstatus => ?_
  rw [leafStatusOf_eq_some_iff] at hstatus
  subst hstatus
  revert h
  cases status <;> decide

/-- Settles O33: the leaf timers and the reads of a leaf's status, by the state of the leaf. -/
theorem leafTimersDriveTheCloseSequence : Obligations.LeafTimersDriveTheCloseSequence := by
  unfold Obligations.LeafTimersDriveTheCloseSequence
  refine ⟨fun k l f s hpower hl hf htimer hroom => ?_,
    fun e i k l f b more s hpower hflight hpointer hdest hrecord hlen hl hf hroom => ?_⟩
  · intro c Enters closing
    have henters : ∀ (i : Instr) (s' : State) (l' next : Leaf) (st : LeafState) (command : Byte),
        exec i s = .next (finish (enterLeaf k st s')) → LeafOnly k s s' → s'.bus = s.bus → s'.leaf k = some l' →
        leafCommand (enteredState c st) = some command → Leaf.entered c (enteredState c st) l' = next →
        Enters i next command := by
      intro i s' l' next st command hrow honly hbus hl' hcommand hnext
      have hstore : s'.store = s.store := by
        obtain ⟨-, -, -, -, -, -, hstore, -⟩ := honly
        exact hstore
      have hstore' : (enterLeaf k st s').store = s'.store := by
        obtain ⟨-, -, -, -, -, -, hstore', -⟩ := enterLeaf_leafOnly k st s'
        exact hstore'
      have hcommand' : leafCommand (enteredState s'.store.content st) = some command := by rwa [hstore]
      have hf' : s'.store.content.leaves[k - 1]? = some f := by rwa [hstore]
      have hroom' : s'.bus.doorQueue.length < 16 := by rwa [hbus]
      obtain ⟨e, hlast, hop, hmode, howner, hcurrent⟩ := enterLeaf_getLast? hl' hf' hroom' hcommand'
      obtain ⟨hleaf, hothers, -, hconsist, hheat, hlength, -⟩ :=
        ((enterLeaf_becomes_write hl' hf' hroom' hcommand').after honly (by rw [hbus])).finish
      rw [hstore] at hleaf
      refine ⟨_, e, hrow, hleaf.trans (congrArg some hnext), hothers, hlength, ?_, hop, hmode, howner, hcurrent, hconsist,
        hheat, (finish_store _).trans (hstore'.trans hstore)⟩
      rw [(finish_egress _).bus]
      exact hlast
    refine ⟨fun hstate => ?_, fun hstate => ?_, fun hstate hleft => ?_, fun hstate hnone => ?_⟩
    · refine henters (.warningTimeEnd k) s l closing .closing 3#8 ?_ (.refl k s) rfl hl ?_ ?_
      · rw [show exec (.warningTimeEnd k) s = live (warningEnds k) s from rfl, live_powered _ s hpower, warningEnds,
          leafTimerRuns_iff hl hstate htimer, onlyIf_true]
      · simp [enteredState, leafCommand]
      · simp [enteredState, Leaf.entered, leafTimer, closing]
    · refine henters (.reopenDwellEnd k) s l closing .closing 3#8 ?_ (.refl k s) rfl hl ?_ ?_
      · rw [show exec (.reopenDwellEnd k) s = live (dwellEnds k) s from rfl, live_powered _ s hpower, dwellEnds,
          leafTimerRuns_iff hl hstate htimer, onlyIf_true]
      · simp [enteredState, leafCommand]
      · simp [enteredState, Leaf.entered, leafTimer, closing]
    · refine henters (.closeConfirmTimeout k) (attemptUsed k s) _ _ .reopening 4#8 ?_ (attemptUsed_leafOnly k s)
        (modLeaf_bus k _ s) (attemptUsed_leaf hl) ?_ ?_
      · rw [show exec (.closeConfirmTimeout k) s = live (closeConfirmEnds k) s from rfl, live_powered _ s hpower,
          closeConfirmEnds, leafTimerRuns_iff hl hstate htimer, onlyIf_true, closeFailed_eq hl, if_neg (by omega)]
      · simp [enteredState, leafCommand]
      · simp [enteredState, Leaf.entered, leafTimer]
    · have hrow : exec (.closeConfirmTimeout k) s = .next (finish (enterFault k closeFailedCode s)) := by
        rw [show exec (.closeConfirmTimeout k) s = live (closeConfirmEnds k) s from rfl, live_powered _ s hpower,
          closeConfirmEnds, leafTimerRuns_iff hl hstate htimer, onlyIf_true, closeFailed_eq hl, if_pos hnone]
      obtain ⟨hleaf, hothers, hfaults, -, -, hlength, -⟩ := (enterFault_becomes f closeFailedCode hl).finish
      exact ⟨_, hrow, hleaf, hothers, hfaults, hlength⟩
  · intro c Becomes Stays resting Faults
    let v := evalVehicleProof (leafStatusRead k (b :: more) s)
    have honly := leafStatusRead_busOnly k (b :: more) s
    have hvl : v.leaf k = some l := (State.leaf_eq_of_door honly.door k).trans hl
    have hvstore : v.store = s.store := honly.store
    have hvf : v.store.content.leaves[k - 1]? = some f := by rwa [hvstore]
    have hvroom : v.bus.doorQueue.length < 16 := by
      rw [show v.bus.doorQueue = s.bus.doorQueue from leafStatusRead_doorQueue k _ s]
      exact hroom
    have hvfaults : v.door.leafFaults = s.door.leafFaults := by
      show (leafStatusRead k (b :: more) s).door.leafFaults = _
      rw [honly.door]
    have hbecomes : ∀ next command faults, LeafBecomes k f v
        (match leafStatusOf b with
          | some status => actOnStatus k true l status v
          | none => v) next command faults → Becomes next command faults := fun next command faults =>
      busAnswer_leafStatus hpower hflight hdest hrecord hlen hl
    have hknown : ∀ status next command faults, leafStatusOf b = some status →
        LeafBecomes k f v (actOnStatus k true l status v) next command faults → Becomes next command faults := by
      intro status next command faults hstatus h
      refine hbecomes next command faults ?_
      rw [hstatus]
      exact h
    have hstays : LeafBecomes k f v v l none s.door.leafFaults :=
      ⟨hvl, fun _ _ => rfl, hvfaults, rfl, rfl, rfl, fun w hw => nomatch hw⟩
    have hidle : (∀ status, leafStatusOf b = some status → actOnStatus k true l status v = v) → Stays := by
      intro h
      refine hbecomes _ _ _ ?_
      cases hstatus : leafStatusOf b with
      | none => exact hstays
      | some status =>
        dsimp only
        rw [h status hstatus]
        exact hstays
    have hrest : ∀ st, leafCommand (enteredState c st) = none →
        LeafBecomes k f v (enterLeaf k st v) (Leaf.entered c (enteredState c st) l) none s.door.leafFaults := by
      intro st hcommand
      have h := enterLeaf_becomes_silent (st := st) hvl f (by rwa [hvstore])
      rwa [hvstore, hvfaults] at h
    have hfault : ∀ value, LeafBecomes k f v (enterFault k value v) (resting .fault) none (satInc s.door.leafFaults) := by
      intro value
      have h := enterFault_becomes f value hvl
      rwa [hvfaults] at h
    refine ⟨fun hstate => ⟨?_, ?_, ?_, ?_, ?_⟩, fun hstate => ⟨?_, ?_⟩, fun hstate hmark => ⟨?_, ?_, ?_, ?_⟩,
      fun hstate hmark => ?_, fun hstate => ⟨?_, ?_⟩, fun hstate => ?_⟩
    · rintro rfl
      refine hknown .closedLocked _ _ _ rfl ?_
      rw [actOnStatus, hstate]
      exact hrest .closed rfl
    · rintro (rfl | rfl)
      · refine hknown .isolatedLocked _ _ _ rfl ?_
        rw [actOnStatus, hstate]
        exact hrest .isolated rfl
      · refine hknown .isolatedOpen _ _ _ rfl ?_
        rw [actOnStatus, hstate]
        exact hrest .isolated rfl
    · intro hb hwarning
      have hfresh := (enterFreshWarning_becomes hvl hvf hvroom).1
      rw [hvstore, hvfaults] at hfresh
      rcases hb with rfl | rfl
      · refine hknown .opened _ _ _ rfl ?_
        rw [actOnStatus, hstate]
        exact hfresh hwarning
      · refine hknown .obstructed _ _ _ rfl ?_
        rw [actOnStatus, hstate]
        exact hfresh hwarning
    · intro hb hwarning
      have hfresh := (enterFreshWarning_becomes hvl hvf hvroom).2
      rw [hvstore, hvfaults] at hfresh
      rcases hb with rfl | rfl
      · refine hknown .opened _ _ _ rfl ?_
        rw [actOnStatus, hstate]
        exact hfresh hwarning
      · refine hknown .obstructed _ _ _ rfl ?_
        rw [actOnStatus, hstate]
        exact hfresh hwarning
    · intro hb
      refine hidle fun status hstatus => ?_
      rw [leafStatusOf_eq_none hb] at hstatus
      cases hstatus
    · rintro (rfl | rfl)
      · refine hknown .opened _ _ _ rfl ?_
        rw [actOnStatus, hstate]
        exact hfault _
      · refine hknown .obstructed _ _ _ rfl ?_
        rw [actOnStatus, hstate]
        exact hfault _
    · rintro ⟨h2, h3⟩
      refine hidle fun status hstatus => ?_
      rw [leafStatusOf_eq_some_iff] at hstatus
      unfold actOnStatus
      rw [hstate]
      cases status with
      | opened => exact absurd hstatus h2
      | obstructed => exact absurd hstatus h3
      | _ => rfl
    · rintro rfl
      refine hknown .closedLocked _ _ _ rfl ?_
      rw [actOnStatus, hstate, hmark]
      exact hrest .closed rfl
    · rintro rfl hnone
      refine hknown .obstructed _ _ _ rfl ?_
      rw [actOnStatus, hstate, hmark]
      show LeafBecomes k f v (closeFailed k v) _ _ _
      rw [closeFailed_eq hvl, if_pos hnone]
      exact hfault _
    · rintro rfl hleft
      refine hknown .obstructed _ _ _ rfl ?_
      have hacts : actOnStatus k true l .obstructed v = closeFailed k v := by
        simp [actOnStatus, hstate, hmark]
      have hreopens := closeFailed_becomes hvl hvf hvroom hleft
      rw [hvstore, hvfaults] at hreopens
      rw [hacts]
      exact hreopens
    · rintro ⟨h1, h3⟩
      refine hidle fun status hstatus => ?_
      rw [leafStatusOf_eq_some_iff] at hstatus
      unfold actOnStatus
      rw [hstate, hmark]
      cases status with
      | closedLocked => exact absurd hstatus h1
      | obstructed => exact absurd hstatus h3
      | _ => rfl
    · refine hidle fun status _ => ?_
      unfold actOnStatus
      rw [hstate, hmark]
      exact if_neg (by simp)
    · rintro rfl
      refine hknown .closedLocked _ _ _ rfl ?_
      rw [actOnStatus, hstate]
      exact hrest .closed rfl
    · intro h1
      refine hidle fun status hstatus => ?_
      rw [leafStatusOf_eq_some_iff] at hstatus
      unfold actOnStatus
      rw [hstate]
      exact if_neg fun h => h1 (by rw [hstatus, show status = .closedLocked by simpa using h]; rfl)
    · refine hidle fun status _ => ?_
      unfold actOnStatus
      rcases hstate with h | h | h | h <;> rw [h]

end Sys2Proof.Machine
end

section
/-! Several groups written one after another, and the writes that stand in class 2 for them (R151, R160, R162). -/

namespace Sys2Proof.Machine

open Sys2Proof

/-! ## The latest write of a group -/

/-- The latest write of a group stands in class 2, with this stage count. -/
def HeatWriteStands (g : Nat) (c : GroupConfig) (count : Nat) (s : State) : Prop :=
  ∃ e ∈ s.bus.heatQueue, e.owner = .group g ∧ e.current = true
    ∧ e.op = .write c.commandStation c.commandItem [byteOf count]

theorem HeatWriteStands.congr {g : Nat} {c : GroupConfig} {count : Nat} {s t : State}
    (h : HeatWriteStands g c count s) (hqueue : t.bus.heatQueue = s.bus.heatQueue) : HeatWriteStands g c count t := by
  unfold HeatWriteStands
  rw [hqueue]
  exact h

theorem mem_replaceWaiting {o : Owner} {new : QueueEntry} {q q' : List QueueEntry}
    (h : replaceWaiting o new q = some q') : new ∈ q' ∧ ∀ e ∈ q, e.owner ≠ o → e ∈ q' := by
  induction q generalizing q' with
  | nil => cases h
  | cons x rest ih =>
    simp only [replaceWaiting] at h
    split at h
    · next hx =>
      cases h
      refine ⟨by simp, fun e he hne => ?_⟩
      rcases List.mem_cons.mp he with rfl | he
      · simp [QueueEntry.waitsFor, hne] at hx
      · simp [QueueEntry.waitsFor, hne, he]
    · obtain ⟨r, hr, rfl⟩ := Option.map_eq_some_iff.mp h
      obtain ⟨hnew, hothers⟩ := ih hr
      refine ⟨by simp [hnew], fun e he hne => ?_⟩
      rcases List.mem_cons.mp he with rfl | he
      · simp
      · simp [hothers e he hne]

/-- The queue a heat write leaves to the arbiter: the write is there, and so is every entry of another owner. -/
theorem mem_heatOffered (o : Owner) (new : QueueEntry) (q : List QueueEntry) :
    new ∈ (replaceWaiting o new q).getD (q ++ [new])
      ∧ ∀ e ∈ q, e.owner ≠ o → e ∈ (replaceWaiting o new q).getD (q ++ [new]) := by
  cases h : replaceWaiting o new q with
  | none => exact ⟨by simp, fun e he _ => by simp [he]⟩
  | some q' => exact mem_replaceWaiting h

theorem mem_supersede_of_ne {o : Owner} {q : List QueueEntry} {e : QueueEntry} (he : e ∈ q) (hne : e.owner ≠ o) :
    e ∈ supersede o q := List.mem_map.mpr ⟨e, he, if_neg hne⟩

/-- A write that stands in class 2 stands there after the arbiter has looked at it. -/
theorem arbitrate_heatWriteStands {g : Nat} {c : GroupConfig} {count : Nat} {s : State}
    (h : HeatWriteStands g c count s) : HeatWriteStands g c count (arbitrate s) := by
  obtain ⟨e, he, howner, hcurrent, hop⟩ := h
  obtain ⟨y, hy, hyop, -, hyowner, hycurrent⟩ := arbitrate_mem_write (cls := .heat) he hop
  exact ⟨y, hy, hyowner.trans howner, hycurrent.trans hcurrent, hyop.trans hop⟩

/-- A heat write stands in class 2, and every write of another group still does (R87). -/
theorem offerHeatWrite_stands (g : Nat) (c : GroupConfig) (count : Nat) (s : State) :
    HeatWriteStands g c count (offerHeatWrite g c.commandStation c.commandItem count s)
      ∧ ∀ j ≠ g, ∀ c' count', HeatWriteStands j c' count' s →
          HeatWriteStands j c' count' (offerHeatWrite g c.commandStation c.commandItem count s) := by
  obtain ⟨hnew, hothers⟩ := mem_heatOffered (.group g)
    (QueueEntry.fresh (.write c.commandStation c.commandItem [byteOf count]) (.persist Config.writePersistMs) (.group g))
    (supersede (.group g) s.bus.heatQueue)
  refine ⟨arbitrate_heatWriteStands ⟨_, hnew, rfl, rfl, rfl⟩, fun j hj c' count' h => ?_⟩
  obtain ⟨e, he, howner, hcurrent, hop⟩ := h
  have hne : e.owner ≠ .group g := by
    rw [howner]
    exact fun h => hj (Owner.group.inj h)
  exact arbitrate_heatWriteStands ⟨e, hothers e (mem_supersede_of_ne he hne) hne, howner, hcurrent, hop⟩

/-! ## One group -/

/-- Of the groups only `g` has changed, and every write that stood for another one still does. -/
def GroupOnly (g : Nat) (s t : State) : Prop :=
  GroupsOnly s t ∧ ∀ j ≠ g, t.group j = s.group j
    ∧ ∀ c count, HeatWriteStands j c count s → HeatWriteStands j c count t

theorem GroupOnly.refl (g : Nat) (s : State) : GroupOnly g s s := ⟨.refl s, fun _ _ => ⟨rfl, fun _ _ h => h⟩⟩

/-- A group as a write of a stage count leaves it (R151, R166). -/
def Group.written (count : Nat) (x : Group) : Group := { x with commanded := count, settled := false, mismatch := 0 }

theorem GroupsOnly.groupConfig {s t : State} (h : GroupsOnly s t) (g : Nat) : t.groupConfig g = s.groupConfig g := by
  unfold State.groupConfig
  rw [h.store]

theorem GroupsOnly.groupNumbers {s t : State} (h : GroupsOnly s t) : t.groupNumbers = s.groupNumbers := by
  unfold State.groupNumbers
  rw [h.2]

/-- A heat write for a group of the live record is its latest, and the group takes its count (R151, R166). -/
theorem offerGroup_written {g : Nat} {c : GroupConfig} {s : State} (count : Nat) (h : s.groupConfig g = some c) :
    (offerGroup g count s).group g = (s.group g).map (Group.written count)
      ∧ HeatWriteStands g c count (offerGroup g count s) := by
  refine ⟨(offerGroup_group g count g s c h).trans (if_pos rfl), ?_⟩
  unfold offerGroup
  rw [h]
  exact (offerHeatWrite_stands g c count _).1

theorem offerGroup_groupOnly (g count : Nat) (s : State) : GroupOnly g s (offerGroup g count s) := by
  refine ⟨offerGroup_groupsOnly g count s, fun j hj => ?_⟩
  cases hc : s.groupConfig g with
  | none =>
    unfold offerGroup
    rw [hc]
    exact ⟨rfl, fun _ _ h => h⟩
  | some c =>
    refine ⟨(offerGroup_group g count j s c hc).trans (if_neg hj), fun c' count' h => ?_⟩
    have hqueue := (State.modGroup_groupsOnly g
      (fun x => { x with commanded := count, settled := false, mismatch := 0 }) s).1
    unfold offerGroup
    rw [hc]
    refine (offerHeatWrite_stands g c count _).2 j hj c' count' (h.congr ?_)
    unfold State.modGroup
    split <;> rfl

/-- A group of the live record is lowered to a count below its commanded one, by a write (R160). -/
theorem lowerGroup_group {g : Nat} {c : GroupConfig} {x : Group} {s : State} (count : Nat) (hc : s.groupConfig g = some c)
    (hx : s.group g = some x) :
    (lowerGroup g count s).group g = some (if count < x.commanded then x.written count else x)
      ∧ (count < x.commanded → HeatWriteStands g c count (lowerGroup g count s)) := by
  obtain ⟨hgroup, hstands⟩ := offerGroup_written count hc
  unfold lowerGroup
  rw [hx] at hgroup ⊢
  dsimp only
  by_cases h : count < x.commanded
  · rw [if_pos h, if_pos h]
    exact ⟨hgroup, fun _ => hstands⟩
  · rw [if_neg h, if_neg h]
    exact ⟨hx, fun hlt => absurd hlt h⟩

theorem lowerGroup_groupOnly (g count : Nat) (s : State) : GroupOnly g s (lowerGroup g count s) := by
  unfold lowerGroup
  split
  · exact .refl g s
  · split
    · exact offerGroup_groupOnly g count s
    · exact .refl g s

/-- A group is raised to a target above its commanded count (R162). -/
def raiseGroup (g target : Nat) (s : State) : State :=
  match s.group g with
  | none => s
  | some x => if x.commanded < target then offerGroup g target s else s

theorem applyIncrease_raises {inc : Increase} {s : State} (h : s.heat.increase = some inc) :
    applyIncrease s =
      ((s.groupNumbers.zip inc.targets).foldl (fun s gt => raiseGroup gt.1 gt.2 s) s).modHeat fun h =>
        { h with increase := none } := by
  unfold applyIncrease
  rw [h]
  rfl

theorem raiseGroup_groupOnly (g target : Nat) (s : State) : GroupOnly g s (raiseGroup g target s) := by
  unfold raiseGroup
  split
  · exact .refl g s
  · split
    · exact offerGroup_groupOnly g target s
    · exact .refl g s

theorem raiseGroup_commanded {g : Nat} {c : GroupConfig} {x : Group} {s : State} (target : Nat)
    (hc : s.groupConfig g = some c) (hx : s.group g = some x) :
    ((raiseGroup g target s).group g).map Group.commanded = some (max x.commanded target) := by
  unfold raiseGroup
  rw [hx]
  dsimp only
  split
  · next h =>
    rw [(offerGroup_written target hc).1, hx]
    exact congrArg some (Nat.max_eq_right h.le).symm
  · next h =>
    rw [hx]
    exact congrArg some (Nat.max_eq_left (not_lt.mp h)).symm

/-! ## Several groups in turn -/

theorem foldl_groupsOnly {α : Type} {key : α → Nat} {act : α → State → State} (hact : ∀ a s, GroupOnly (key a) s (act a s))
    (l : List α) (s : State) : GroupsOnly s (l.foldl (fun s a => act a s) s) := by
  induction l generalizing s with
  | nil => exact .refl s
  | cons a rest ih => exact (hact a s).1.trans (ih _)

theorem foldl_group_of_notMem {α : Type} {key : α → Nat} {act : α → State → State}
    (hact : ∀ a s, GroupOnly (key a) s (act a s)) {l : List α} {g : Nat} (hg : g ∉ l.map key) (s : State) :
    (l.foldl (fun s a => act a s) s).group g = s.group g
      ∧ ∀ c count, HeatWriteStands g c count s → HeatWriteStands g c count (l.foldl (fun s a => act a s) s) := by
  induction l generalizing s with
  | nil => exact ⟨rfl, fun _ _ h => h⟩
  | cons a rest ih =>
    obtain ⟨hne, hrest⟩ : g ≠ key a ∧ g ∉ rest.map key := by
      rw [List.map_cons, List.mem_cons] at hg
      tauto
    obtain ⟨hgroup, hstands⟩ := (hact a s).2 g hne
    obtain ⟨hend, hlater⟩ := ih hrest (act a s)
    exact ⟨hend.trans hgroup, fun c count h => hlater c count (hstands c count h)⟩

/-- A group acted on among others shows what its own act made of it, in a state that shows the group as it was. -/
theorem foldl_group {α : Type} {key : α → Nat} {act : α → State → State} (hact : ∀ a s, GroupOnly (key a) s (act a s))
    {l : List α} (hnodup : (l.map key).Nodup) (s : State) {a : α} (ha : a ∈ l) :
    ∃ u, GroupsOnly s u ∧ u.group (key a) = s.group (key a)
      ∧ (l.foldl (fun s a => act a s) s).group (key a) = (act a u).group (key a)
      ∧ ∀ c count, HeatWriteStands (key a) c count (act a u) →
          HeatWriteStands (key a) c count (l.foldl (fun s a => act a s) s) := by
  induction l generalizing s with
  | nil => cases ha
  | cons b rest ih =>
    rw [List.map_cons, List.nodup_cons] at hnodup
    obtain ⟨hfirst, hrest⟩ := hnodup
    rcases List.mem_cons.mp ha with rfl | ha
    · exact ⟨s, .refl s, rfl, foldl_group_of_notMem hact hfirst _⟩
    · have hne : key a ≠ key b := fun h => hfirst (h ▸ List.mem_map_of_mem ha)
      obtain ⟨u, honly, hgroup, hend⟩ := ih hrest (act b s) ha
      exact ⟨u, (hact b s).1.trans honly, hgroup.trans ((hact b s).2 _ hne).1, hend⟩

theorem State.groupNumbers_nodup (s : State) : s.groupNumbers.Nodup :=
  List.nodup_range.map Nat.succ_injective

theorem State.group_succ (s : State) (i : Nat) : s.group (i + 1) = s.heat.groups[i]? := rfl

theorem State.groupConfig_succ (s : State) (i : Nat) : s.groupConfig (i + 1) = s.store.content.groups[i]? := rfl

theorem mem_groupNumbers {s : State} {i : Nat} {x : Group} (h : s.heat.groups[i]? = some x) : i + 1 ∈ s.groupNumbers :=
  List.mem_map.mpr ⟨i, List.mem_range.mpr (List.getElem?_eq_some_iff.mp h).1, rfl⟩

theorem mem_zip_groupNumbers {s : State} {i m : Nat} {x : Group} {counts : List Nat} (h : s.heat.groups[i]? = some x)
    (hm : counts[i]? = some m) : (i + 1, m) ∈ s.groupNumbers.zip counts := by
  refine List.mem_iff_getElem?.mpr ⟨i, List.getElem?_zip_eq_some.mpr ⟨?_, hm⟩⟩
  simp [State.groupNumbers, (List.getElem?_eq_some_iff.mp h).1]

theorem map_fst_zip_prefix {α β : Type} (a : List α) (b : List β) : (a.zip b).map Prod.fst <+: a := by
  induction a generalizing b with
  | nil => simp
  | cons x rest ih =>
    cases b with
    | nil => simp
    | cons y more => simpa using ih more

theorem nodup_zip_groupNumbers (s : State) (counts : List Nat) : ((s.groupNumbers.zip counts).map Prod.fst).Nodup :=
  (State.groupNumbers_nodup s).sublist (map_fst_zip_prefix _ _).sublist

/-- Of the groups lowered in turn each ends at the smaller of its commanded and its fitted count (R160). -/
theorem lowerGroups_commanded {i m : Nat} {c : GroupConfig} {x : Group} {counts : List Nat} {s : State}
    (hc : s.store.content.groups[i]? = some c) (hx : s.heat.groups[i]? = some x) (hm : counts[i]? = some m) :
    ((lowerGroups counts s).heat.groups[i]?).map Group.commanded = some (min x.commanded m) := by
  obtain ⟨u, honly, hgroup, hend, -⟩ := foldl_group (key := Prod.fst) (act := fun gf s => lowerGroup gf.1 gf.2 s)
    (fun gf s => lowerGroup_groupOnly gf.1 gf.2 s) (nodup_zip_groupNumbers s counts) s (mem_zip_groupNumbers hx hm)
  have hlowered := (lowerGroup_group m ((honly.groupConfig (i + 1)).trans hc) (hgroup.trans hx)).1
  have hgoal : (lowerGroups counts s).heat.groups[i]? = _ := hend.trans hlowered
  rw [hgoal]
  split
  · next h => exact congrArg some (Nat.min_eq_right h.le).symm
  · next h => exact congrArg some (Nat.min_eq_left (not_lt.mp h)).symm

/-- Of the groups raised in turn each ends at the larger of its commanded count and its target (R162). -/
theorem applyIncrease_commanded {inc : Increase} {i m : Nat} {x : Group} {s : State}
    (hinc : s.heat.increase = some inc) (hlength : s.store.content.groups.length = s.heat.groups.length)
    (hx : s.heat.groups[i]? = some x) (hm : inc.targets[i]? = some m) :
    ((applyIncrease s).heat.groups[i]?).map Group.commanded = some (max x.commanded m) := by
  obtain ⟨u, honly, hgroup, hend, -⟩ := foldl_group (key := Prod.fst) (act := fun gf s => raiseGroup gf.1 gf.2 s)
    (fun gf s => raiseGroup_groupOnly gf.1 gf.2 s) (nodup_zip_groupNumbers s inc.targets) s (mem_zip_groupNumbers hx hm)
  obtain ⟨c, hc⟩ : ∃ c, s.store.content.groups[i]? = some c :=
    ⟨_, List.getElem?_eq_getElem (hlength ▸ (List.getElem?_eq_some_iff.mp hx).1)⟩
  rw [applyIncrease_raises hinc]
  exact (congrArg (Option.map Group.commanded) hend).trans
    (raiseGroup_commanded m ((honly.groupConfig (i + 1)).trans hc) (hgroup.trans hx))

end Sys2Proof.Machine
end

section
/-! Stage fitting (R156). -/

namespace Sys2Proof.Machine

open Sys2Proof

/-! ## One group at one level -/

/-- What a group draws with its fitted stages. -/
def Fit.spends (f : Fit) : Nat := stageCurrent f.currents f.fitted

/-- A group in stage fitting after the levels up to `k`: while it is not stopped every stage it has and wants up to
there is fitted, and a stopped one has been stopped at one of them. -/
structure Fit.Through (k : Nat) (f : Fit) : Prop where
  wanted : f.fitted ≤ f.want
  present : f.fitted ≤ f.currents.length
  running : f.stopped = false → f.fitted = min k (min f.want f.currents.length)
  halted : f.stopped = true → f.fitted < f.want ∧ f.fitted < k

theorem Fit.Through.fitted_le {k : Nat} {f : Fit} (h : f.Through k) : f.fitted ≤ k := by
  cases hstop : f.stopped with
  | false => have := h.running hstop; omega
  | true => have := (h.halted hstop).2; omega

theorem Fit.through_zero {f : Fit} (hfitted : f.fitted = 0) (hstop : f.stopped = false) : f.Through 0 :=
  ⟨by omega, by omega, fun _ => by omega, fun h => by simp [hstop] at h⟩

theorem stageCurrent_succ {currents : List Nat} {k c : Nat} (h : currents[k]? = some c) :
    stageCurrent currents (k + 1) = stageCurrent currents k + c := by
  simp [stageCurrent, List.take_add_one, h]

/-- What considering a group at the level after `k` makes of it: the stage is fitted where the group wants it, has
it, has every stage below it and the remaining share covers its current; else nothing is spent. -/
theorem Fit.consider_spec {k : Nat} {f : Fit} (r : Nat) (h : f.Through k) :
    let out := f.consider (k + 1) r
    out.1.Through (k + 1) ∧ out.1.currents = f.currents ∧ out.1.want = f.want
      ∧ min out.1.fitted k = f.fitted ∧ out.1.spends + out.2 = f.spends + r
      ∧ ∀ c, k + 1 ≤ f.want → f.currents[k]? = some c → f.fitted = k → (k + 1 ≤ out.1.fitted ↔ c ≤ r) := by
  have hle := h.fitted_le
  have hkept : min f.fitted k = f.fitted := by omega
  intro out
  have hcut : k + 1 - 1 = k := rfl
  by_cases hskip : f.stopped = true ∨ f.want < k + 1
  · have hout : out = (f, r) := if_pos hskip
    rw [hout]
    refine ⟨⟨h.wanted, h.present, fun hrun => ?_, fun hstop => ?_⟩, rfl, rfl, hkept, rfl, fun c hwant hc hk => ?_⟩
    · dsimp only at hrun ⊢
      have := h.running hrun
      have : f.want < k + 1 := hskip.resolve_left (by simp [hrun])
      omega
    · have := h.halted hstop
      dsimp only
      omega
    · have : f.stopped = true := hskip.resolve_right (by omega)
      have := h.halted this
      omega
  · have hrun : f.stopped = false := by simpa using fun h => hskip (.inl h)
    have hwant : k + 1 ≤ f.want := by by_contra hlt; exact hskip (.inr (by omega))
    have hfitted := h.running hrun
    cases hc : f.currents[k]? with
    | none =>
      have hlength : f.currents.length ≤ k := List.getElem?_eq_none_iff.mp hc
      have hout : out = (f, r) := by
        simp only [out, Fit.consider, hskip, if_false, hcut, hc]
      rw [hout]
      refine ⟨⟨h.wanted, h.present, fun _ => ?_, fun hstop => ?_⟩, rfl, rfl, hkept, rfl, fun c _ hc' => by simp at hc'⟩
      · dsimp only
        omega
      · exact absurd (hrun.symm.trans hstop) (by decide)
    | some c =>
      have hlength : k < f.currents.length := (List.getElem?_eq_some_iff.mp hc).1
      have hk : f.fitted = k := by omega
      by_cases hfits : c ≤ r
      · have hout : out = ({ f with fitted := k + 1 }, r - c) := by
          simp only [out, Fit.consider, hskip, if_false, hcut, hc, hfits, if_true]
        rw [hout]
        refine ⟨⟨hwant, hlength, fun _ => ?_, fun hstop => ?_⟩, rfl, rfl, ?_, ?_, fun c' _ hc' _ => ?_⟩
        · dsimp only; omega
        · exact absurd (hrun.symm.trans hstop) (by decide)
        · dsimp only; omega
        · have hspends : ({ f with fitted := k + 1 } : Fit).spends = stageCurrent f.currents k + c := stageCurrent_succ hc
          have hbefore : f.spends = stageCurrent f.currents k := congrArg (stageCurrent f.currents) hk
          dsimp only
          omega
        · obtain rfl := Option.some.inj hc'
          simp [hfits]
      · have hout : out = ({ f with stopped := true }, r) := by
          simp only [out, Fit.consider, hskip, if_false, hcut, hc, hfits]
        rw [hout]
        refine ⟨⟨h.wanted, h.present, fun h => by simp at h, fun _ => ⟨?_, ?_⟩⟩, rfl, rfl, hkept, rfl, fun c' _ hc' _ => ?_⟩
        · dsimp only; omega
        · dsimp only; omega
        · obtain rfl := Option.some.inj hc'
          dsimp only
          omega

/-! ## One level -/

theorem fitLevel_append (level : Nat) (a b : List Fit) (r : Nat) :
    fitLevel level (a ++ b) r =
      ((fitLevel level a r).1 ++ (fitLevel level b (fitLevel level a r).2).1, (fitLevel level b (fitLevel level a r).2).2) := by
  induction a generalizing r with
  | nil => rfl
  | cons f rest ih => simp [fitLevel, ih]

/-- What a level makes of the groups: each has been through it, its stages up to the level before are as they were,
and what the groups draw more has left the share. -/
theorem fitLevel_spec {k : Nat} {fits : List Fit} (r : Nat) (h : ∀ f ∈ fits, f.Through k) :
    let out := fitLevel (k + 1) fits r
    (∀ f ∈ out.1, f.Through (k + 1))
      ∧ out.1.map (fun f => (f.currents, f.want)) = fits.map (fun f => (f.currents, f.want))
      ∧ out.1.map (fun f => (f.currents, min f.fitted k)) = fits.map (fun f => (f.currents, f.fitted))
      ∧ (out.1.map Fit.spends).sum + out.2 = (fits.map Fit.spends).sum + r := by
  induction fits generalizing r with
  | nil => exact ⟨by simp [fitLevel], rfl, rfl, rfl⟩
  | cons f rest ih =>
    obtain ⟨hthrough, hcurrents, hwant, hfitted, hspends, -⟩ := Fit.consider_spec r (h f List.mem_cons_self)
    obtain ⟨hall, hfields, hbefore, hspent⟩ :=
      ih (f.consider (k + 1) r).2 fun x hx => h x (List.mem_cons_of_mem f hx)
    refine ⟨fun x hx => ?_, ?_, ?_, ?_⟩
    · rcases List.mem_cons.mp hx with rfl | hx
      · exact hthrough
      · exact hall x hx
    · simp only [fitLevel, List.map_cons, hcurrents, hwant, hfields]
    · simp only [fitLevel, List.map_cons, hcurrents, hfitted, hbefore]
    · simp only [fitLevel, List.map_cons, List.sum_cons]
      omega

/-! ## The levels in turn -/

/-- Stage fitting as far as the level `k`: the groups and the share that remains. -/
def fittedThrough (fits : List Fit) (share : Nat) : Nat → List Fit × Nat
  | 0 => (fits, share)
  | k + 1 => fitLevel (k + 1) (fittedThrough fits share k).1 (fittedThrough fits share k).2

theorem fitStages_eq (fits : List Fit) (share : Nat) : fitStages fits share = fittedThrough fits share 6 := rfl

section
variable {fits : List Fit} (share : Nat) (h : ∀ f ∈ fits, f.fitted = 0 ∧ f.stopped = false)
include h

theorem fittedThrough_through (k : Nat) : ∀ f ∈ (fittedThrough fits share k).1, f.Through k := by
  induction k with
  | zero => exact fun f hf => Fit.through_zero (h f hf).1 (h f hf).2
  | succ k ih => exact (fitLevel_spec _ ih).1

theorem fittedThrough_fields (k : Nat) :
    (fittedThrough fits share k).1.map (fun f => (f.currents, f.want)) = fits.map (fun f => (f.currents, f.want)) := by
  induction k with
  | zero => rfl
  | succ k ih => exact (fitLevel_spec _ (fittedThrough_through share h k)).2.1.trans ih

theorem fittedThrough_spends (k : Nat) :
    ((fittedThrough fits share k).1.map Fit.spends).sum + (fittedThrough fits share k).2 = share := by
  induction k with
  | zero =>
    have hzero : fits.map Fit.spends = fits.map fun _ => 0 :=
      List.map_congr_left fun f hf => by simp [Fit.spends, stageCurrent, (h f hf).1]
    simp [fittedThrough, hzero]
  | succ k ih => exact (fitLevel_spec _ (fittedThrough_through share h k)).2.2.2.trans ih

/-- What a group had fitted after the levels up to `k` is what it has in the end, as far as `k`. -/
theorem fittedThrough_before {k m : Nat} (hkm : k ≤ m) :
    (fittedThrough fits share m).1.map (fun f => (f.currents, min f.fitted k)) =
      (fittedThrough fits share k).1.map (fun f => (f.currents, f.fitted)) := by
  induction m, hkm using Nat.le_induction with
  | base =>
    exact List.map_congr_left fun f hf => by
      rw [Nat.min_eq_left (fittedThrough_through share h k f hf).fitted_le]
  | succ m hkm ih =>
    have hstep := (fitLevel_spec (fittedThrough fits share m).2 (fittedThrough_through share h m)).2.2.1
    have hcut := congrArg (List.map fun p : List Nat × Nat => (p.1, min p.2 k)) hstep
    simp only [List.map_map, Function.comp_def, Nat.min_assoc, Nat.min_eq_right hkm] at hcut
    exact hcut.trans ih

theorem fittedThrough_spendsBefore {k m : Nat} (hkm : k ≤ m) :
    (fittedThrough fits share m).1.map (fun f => stageCurrent f.currents (min f.fitted k)) =
      (fittedThrough fits share k).1.map Fit.spends := by
  have hcut := congrArg (List.map fun p : List Nat × Nat => stageCurrent p.1 p.2) (fittedThrough_before share h hkm)
  simp only [List.map_map, Function.comp_def] at hcut
  exact hcut

end

theorem mapIdx_before_after {α β : Type} (before after : α → β) (i : Nat) (l : List α) :
    l.mapIdx (fun j a => if j < i then before a else after a) = (l.map before).take i ++ (l.map after).drop i := by
  induction l generalizing i with
  | nil => simp
  | cons a rest ih =>
    cases i with
    | zero => simpa using ih 0
    | succ i => simpa using ih i

theorem fitLevel_length (level : Nat) (fits : List Fit) (r : Nat) : (fitLevel level fits r).1.length = fits.length := by
  induction fits generalizing r with
  | nil => rfl
  | cons f rest ih => simp [fitLevel, ih]

/-- A stage is fitted just where the share that the stages before it have left covers its current. -/
theorem fittedThrough_fits_iff {fits : List Fit} {share : Nat} (h : ∀ f ∈ fits, f.fitted = 0 ∧ f.stopped = false)
    {i k m current : Nat} {f : Fit} (hf : (fittedThrough fits share m).1[i]? = some f) (hkm : k + 1 ≤ m)
    (hwant : k + 1 ≤ f.want) (hcurrent : f.currents[k]? = some current) (hk : k ≤ f.fitted) :
    k + 1 ≤ f.fitted ↔
      (((fittedThrough fits share (k + 1)).1.map Fit.spends).take i
        ++ ((fittedThrough fits share k).1.map Fit.spends).drop i).sum + current ≤ share := by
  have hbefore := congrArg (·[i]?) (fittedThrough_before share h (Nat.le_of_succ_le hkm))
  have hafter := congrArg (·[i]?) (fittedThrough_before share h hkm)
  have hfields := congrArg (·[i]?) ((fittedThrough_fields share h m).trans (fittedThrough_fields share h k).symm)
  simp only [List.getElem?_map, hf, Option.map_some] at hbefore hafter hfields
  obtain ⟨f₀, hf₀, hfields⟩ := Option.map_eq_some_iff.mp hfields.symm
  obtain ⟨f₁, hf₁, hafter⟩ := Option.map_eq_some_iff.mp hafter.symm
  rw [hf₀] at hbefore
  obtain ⟨hcurrents, hfitted⟩ := Prod.mk.inj (Option.some.inj hbefore)
  obtain ⟨-, hfitted₁⟩ := Prod.mk.inj hafter
  obtain ⟨-, hwant₀⟩ := Prod.mk.inj hfields
  have hsum := fittedThrough_spends share h k
  obtain ⟨hlt, hget⟩ := List.getElem?_eq_some_iff.mp hf₀
  have hthrough := fittedThrough_through share h k
  have hlevel : fittedThrough fits share (k + 1) =
    fitLevel (k + 1) (fittedThrough fits share k).1 (fittedThrough fits share k).2 := rfl
  rw [hlevel] at hf₁ ⊢
  have hsplit : (fittedThrough fits share k).1 =
      (fittedThrough fits share k).1.take i ++ f₀ :: (fittedThrough fits share k).1.drop (i + 1) := by
    rw [← hget, List.getElem_cons_drop, List.take_append_drop]
  generalize (fittedThrough fits share k).2 = r at *
  generalize (fittedThrough fits share k).1.drop (i + 1) = b at hsplit
  have htake : ((fittedThrough fits share k).1.take i).length = i := by
    rw [List.length_take]
    omega
  generalize (fittedThrough fits share k).1.take i = a at hsplit htake
  rw [hsplit] at hf₁ hsum hthrough ⊢
  obtain ⟨-, -, -, hspentA⟩ := fitLevel_spec r fun x (hx : x ∈ a) => hthrough x (by simp [hx])
  obtain ⟨-, -, -, -, -, hiff⟩ := Fit.consider_spec (fitLevel (k + 1) a r).2 (hthrough f₀ (by simp))
  have hlength : (fitLevel (k + 1) a r).1.length = i := (fitLevel_length _ _ _).trans htake
  rw [fitLevel_append] at hf₁ ⊢
  simp only [fitLevel, List.map_append, List.map_cons] at hf₁ hsum ⊢
  rw [List.getElem?_append_right hlength.le, hlength, Nat.sub_self, List.getElem?_cons_zero] at hf₁
  obtain rfl := Option.some.inj hf₁
  rw [List.take_left' (by simpa using hlength), List.drop_left' (by simpa using htake)]
  have hstage := hiff current (by omega) (hcurrents ▸ hcurrent) (by omega)
  simp only [List.sum_append, List.sum_cons] at hsum ⊢
  constructor
  · intro hup
    have := hstage.mp (by omega)
    omega
  · intro hle
    have := hstage.mpr (by omega)
    omega

/-- Settles O38. -/
theorem stageFittingSpendsTheShare : Obligations.StageFittingSpendsTheShare := by
  refine ⟨fun fits share h => ?_, fun s l i c g q hc hg hq => ?_⟩
  · intro done spentBefore
    have hdone : done = fittedThrough fits share 6 := fitStages_eq fits share
    have hspent : (done.1.map Fit.spends).sum + done.2 = share := hdone ▸ fittedThrough_spends share h 6
    have hthrough : ∀ f ∈ done.1, f.Through 6 := hdone ▸ fittedThrough_through share h 6
    refine ⟨by omega, ?_, hdone ▸ fittedThrough_fields share h 6,
      fun f hf => ⟨(hthrough f hf).wanted, (hthrough f hf).present⟩, ?_, fun f hf hwant hlength => ?_⟩
    · show (done.1.map Fit.spends).sum = _
      omega
    · intro i f level current hf hlevel hsix hwant hcurrent hfitted
      obtain ⟨k, rfl⟩ : ∃ k, level = k + 1 := ⟨level - 1, by omega⟩
      have hbefore : spentBefore (k + 1) i =
          (((fittedThrough fits share (k + 1)).1.map Fit.spends).take i
            ++ ((fittedThrough fits share k).1.map Fit.spends).drop i).sum := by
        rw [← fittedThrough_spendsBefore share h hsix, ← fittedThrough_spendsBefore share h (Nat.le_of_succ_le hsix),
          ← hdone, ← mapIdx_before_after]
        refine congrArg List.sum (congrArg (fun g => done.1.mapIdx g) (funext fun j => funext fun x => ?_))
        split <;> rfl
      rw [hbefore]
      exact fittedThrough_fits_iff h (hdone ▸ hf) hsix hwant hcurrent hfitted
    · constructor
      · exact fun hstop => ((hthrough f hf).halted hstop).1
      · intro hless
        by_contra hrun
        have := (hthrough f hf).running (by simpa using hrun)
        omega
  · have hzip : ((s.store.content.groups.zip s.heat.groups).zip l.requested)[i]? = some ((c, g), q) :=
      List.getElem?_zip_eq_some.mpr ⟨List.getElem?_zip_eq_some.mpr ⟨hc, hg⟩, hq⟩
    unfold fitsOf
    rw [List.getElem?_map, hzip]
    rfl

end Sys2Proof.Machine
end

section
/-! The share of a latch, the outward pass and the return of the Heat Unit, and its timers (R153 to R165). -/

namespace Sys2Proof.Machine

open Sys2Proof

/-! ## The share (R155) -/

theorem heatShare_le_demand (l : HeatLatch) (r : Nat) : heatShare l r ≤ l.demand := by
  unfold heatShare
  split
  · omega
  · split
    · exact le_rfl
    · exact Nat.min_le_left _ _

/-- A share never exceeds an R of a sweep. -/
theorem heatShare_le {l : HeatLatch} {r : Nat} (h : r ≤ 2000) : heatShare l r ≤ r := by
  unfold heatShare
  split
  · omega
  · split
    · omega
    · refine (Nat.min_le_right _ _).trans (Nat.div_le_of_le_mul ?_)
      calc r * l.weight ≤ r * (l.wPre + l.weight) := Nat.mul_le_mul_left r (by omega)
        _ = (l.wPre + l.weight) * r := Nat.mul_comm _ _

/-! ## The outward pass (R153, R154) -/

/-- The latch of an outward pass: the sums of the frame as it arrived, and what this node adds. -/
def heatLatched (f : SweepOut) (s : State) : HeatLatch where
  sequence := f.sequence
  dPre := f.dSum
  wPre := f.wSum
  demand := demandOf s s.requestedAll
  weight := s.store.content.weight
  requested := s.requestedAll

/-- The node with the latch of an outward pass. -/
def heatLatchSet (f : SweepOut) (s : State) : State := s.modHeat fun h => { h with latch := some (heatLatched f s) }

theorem heatOutward_eq (f : SweepOut) (s : State) :
    heatOutward f s =
      ({ f with
          dSum := min (f.dSum + demandOf s s.requestedAll) 65535
          wSum := if demandOf s s.requestedAll = 0 then f.wSum else min (f.wSum + s.store.content.weight) 65535 },
        startStagger (heatLatchSet f s)) := rfl

theorem State.requestedAll_eq (s : State) :
    s.requestedAll = (List.range s.heat.groups.length).map fun i => s.requested (i + 1) := List.map_map

theorem demandOf_requestedAll {s : State} (h : s.store.content.groups.length = s.heat.groups.length) :
    demandOf s s.requestedAll =
      if s.pins.supply = true ∧ s.store.validity = none ∧ s.store.content.weight ≠ 0 then
        (s.store.content.groups.mapIdx fun i c => (c.currents.take (s.requested (i + 1))).sum).sum
      else 0 := by
  have hcurrents : ((s.store.content.groups.zip s.requestedAll).map fun (c, m) => stageCurrent c.currents m) =
      s.store.content.groups.mapIdx fun i c => (c.currents.take (s.requested (i + 1))).sum := by
    refine List.ext_getElem? fun i => ?_
    rw [List.getElem?_map, List.getElem?_mapIdx, List.zip_eq_zipWith, List.getElem?_zipWith, State.requestedAll_eq,
      List.getElem?_map]
    cases hi : s.store.content.groups[i]? with
    | none => rfl
    | some c =>
      rw [List.getElem?_range (h ▸ (List.getElem?_eq_some_iff.mp hi).1)]
      rfl
  unfold demandOf
  rw [hcurrents]
  by_cases hsupply : s.pins.supply = true <;> by_cases hvalid : s.store.validity = none <;>
    by_cases hweight : s.store.content.weight = 0 <;> simp [hsupply, hvalid, hweight]

theorem startStagger_none {s : State} (h : s.heat.increase = none) : startStagger s = s := by
  unfold startStagger
  rw [h]

theorem startStagger_staggering {s : State} {targets : List Nat} {left : Nat}
    (h : s.heat.increase = some { targets := targets, phase := .staggering left }) : startStagger s = s := by
  unfold startStagger
  rw [h]

/-- The node with its pending increase in its stagger. -/
def staggered (targets : List Nat) (delay : Nat) (s : State) : State :=
  s.modHeat fun h => { h with increase := some { targets := targets, phase := .staggering delay } }

theorem startStagger_waiting {s : State} {targets : List Nat} {left : Nat}
    (h : s.heat.increase = some { targets := targets, phase := .waiting left }) :
    startStagger s =
      let delay := (s.position - 1) * s.sweep.latchedStagger.getD 100
      if delay = 0 then applyIncrease (staggered targets delay s) else staggered targets delay s := by
  unfold startStagger
  rw [h]
  rfl

theorem applyIncrease_none (s : State) : (applyIncrease s).heat.increase = none := by
  obtain ⟨t, -, heq⟩ := applyIncrease_eq s
  rw [heq]

theorem applyIncrease_latch (s : State) : (applyIncrease s).heat.latch = s.heat.latch := by
  obtain ⟨t, honly, heq⟩ := applyIncrease_eq s
  rw [heq, honly.1]

theorem startStagger_latch (s : State) : (startStagger s).heat.latch = s.heat.latch := by
  unfold startStagger
  split
  · dsimp only
    split
    · exact applyIncrease_latch _
    · rfl
  · rfl

/-- Settles O37. -/
theorem heatShareOfALatch : Obligations.HeatShareOfALatch := by
  refine ⟨fun l r => ⟨fun hzero => if_pos hzero, fun hdemand hcovers => ?_, fun hdemand hshort => ?_,
    heatShare_le_demand l r, heatShare_le⟩, fun f s hlength => ?_⟩
  · unfold heatShare
    rw [if_neg hdemand, if_pos hcovers]
  · unfold heatShare
    rw [if_neg hdemand, if_neg (by omega)]
  · intro w d latch out
    have hd : demandOf s s.requestedAll = d := demandOf_requestedAll hlength
    have hlatch : heatLatched f s = latch := by
      unfold heatLatched
      rw [hd, State.requestedAll_eq]
    have hset : heatLatchSet f s = { s with heat := { s.heat with latch := some latch } } := by
      unfold heatLatchSet
      rw [hlatch]
      rfl
    have hout : out = ({ f with
          dSum := min (f.dSum + d) 65535
          wSum := if d = 0 then f.wSum else min (f.wSum + w) 65535 },
        startStagger { s with heat := { s.heat with latch := some latch } }) := by
      rw [← hset, ← hd]
      exact heatOutward_eq f s
    have honly : HeatOnly s out.2 := heatOutward_heatOnly f s
    refine ⟨by rw [hout], ?_, honly.consist, honly.door, fun hinc => ?_, fun targets left hinc => ?_,
      fun targets left hinc => ?_⟩
    · rw [hout]
      exact startStagger_latch _
    · rw [hout]
      exact startStagger_none hinc
    · rw [hout]
      exact startStagger_staggering hinc
    · intro delay
      have hstagger : startStagger { s with heat := { s.heat with latch := some latch } } =
          if delay = 0 then applyIncrease (staggered targets delay { s with heat := { s.heat with latch := some latch } })
          else staggered targets delay { s with heat := { s.heat with latch := some latch } } :=
        startStagger_waiting (s := { s with heat := { s.heat with latch := some latch } }) hinc
      rw [hout, hstagger]
      refine ⟨fun hdelay => if_neg hdelay, fun hdelay => ?_⟩
      rw [if_pos hdelay]
      exact ⟨applyIncrease_none _, fun _ i x m hx hm => applyIncrease_commanded rfl hlength hx hm⟩

/-! ## The return with allotment (R156, R157, R160, R161) -/

theorem any_zip_iff {α β : Type} (p : α × β → Bool) (a : List α) (b : List β) :
    (a.zip b).any p = true ↔ ∃ (i : Nat) (x : α) (y : β), a[i]? = some x ∧ b[i]? = some y ∧ p (x, y) = true := by
  rw [List.any_eq_true]
  constructor
  · rintro ⟨⟨x, y⟩, hmem, hp⟩
    obtain ⟨i, hi⟩ := List.mem_iff_getElem?.mp hmem
    obtain ⟨hx, hy⟩ := List.getElem?_zip_eq_some.mp hi
    exact ⟨i, x, y, hx, hy, hp⟩
  · rintro ⟨i, x, y, hx, hy, hp⟩
    exact ⟨(x, y), List.mem_iff_getElem?.mpr ⟨i, List.getElem?_zip_eq_some.mpr ⟨hx, hy⟩⟩, hp⟩

theorem fitsOf_fresh (s : State) (l : HeatLatch) : ∀ f ∈ fitsOf s l, f.fitted = 0 ∧ f.stopped = false := by
  intro f hf
  obtain ⟨x, -, rfl⟩ := List.mem_map.mp hf
  exact ⟨rfl, rfl⟩

/-- The fitted counts of a return with allotment. -/
def fittedCounts (l : HeatLatch) (r : Nat) (s : State) : List Nat :=
  (fitStages (fitsOf s l) (heatShare l r)).1.map Fit.fitted

/-- What a return with allotment takes of R. -/
def heatTaken (l : HeatLatch) (r : Nat) (s : State) : Nat :=
  heatShare l r - (fitStages (fitsOf s l) (heatShare l r)).2

/-- The node after the take, its groups lowered to their fitted counts. -/
def heatLowered (l : HeatLatch) (r : Nat) (s : State) : State :=
  lowerGroups (fittedCounts l r s) (s.modHeat fun h => { h with take := heatTaken l r s })

theorem allottedReturn_eq (l : HeatLatch) (r : Nat) (s : State) :
    allottedReturn l r s =
      let t := updateIncrease (fittedCounts l r s) (heatLowered l r s)
      (r - heatTaken l r s, t.modHeat fun h => { h with latch := none, allotted := true, hold := some (8 * t.sweep.usedPeriod) }) :=
  rfl

theorem heatLowered_commanded {l : HeatLatch} {r i m : Nat} {c : GroupConfig} {x : Group} {s : State}
    (hc : s.store.content.groups[i]? = some c) (hx : s.heat.groups[i]? = some x)
    (hm : (fittedCounts l r s)[i]? = some m) :
    ((heatLowered l r s).heat.groups[i]?).map Group.commanded = some (min x.commanded m) := by
  unfold heatLowered
  exact lowerGroups_commanded hc hx hm

theorem fittedCounts_config {l : HeatLatch} {r i m : Nat} {s : State} (h : (fittedCounts l r s)[i]? = some m) :
    ∃ c, s.store.content.groups[i]? = some c := by
  have hlength := congrArg List.length (fittedThrough_fields (heatShare l r) (fitsOf_fresh s l) 6)
  have hlt : i < (fittedCounts l r s).length := (List.getElem?_eq_some_iff.mp h).1
  rw [fittedCounts, List.length_map, fitStages_eq] at hlt
  have hfits : (fitsOf s l).length ≤ s.store.content.groups.length := by
    simp only [fitsOf, List.length_map, List.length_zip]
    omega
  simp only [List.length_map] at hlength
  exact ⟨_, List.getElem?_eq_getElem (by omega)⟩

theorem heatLowered_groupsOnly (l : HeatLatch) (r : Nat) (s : State) :
    GroupsOnly (s.modHeat fun h => { h with take := heatTaken l r s }) (heatLowered l r s) := lowerGroups_groupsOnly _ _

theorem GroupsOnly.heat {s t : State} (h : GroupsOnly s t) : t.heat = { s.heat with groups := t.heat.groups } :=
  congrArg State.heat h.1

/-- The pending increase that fitted counts form, where one of them is above a commanded count (R161). -/
def formedIncrease (fitted : List Nat) (s : State) : Option Increase :=
  if (fitted.zip s.heat.groups).any fun (f, g) => decide (g.commanded < f) then
    some { targets := fitted, phase := .waiting (2 * s.sweep.usedPeriod) }
  else none

theorem formIncrease_eq {s : State} (fitted : List Nat) (h : s.heat.increase = none) :
    formIncrease fitted s = s.modHeat fun h => { h with increase := formedIncrease fitted s } := by
  unfold formIncrease formedIncrease
  split
  · rfl
  · rw [← h]
    rfl

theorem updateIncrease_absent {s : State} (fitted : List Nat) (h : s.heat.increase = none) :
    updateIncrease fitted s = s.modHeat fun h => { h with increase := formedIncrease fitted s } := by
  unfold updateIncrease
  rw [h]
  exact formIncrease_eq fitted h

/-- A fitted count falls short of a target of the pending increase. -/
def fallsShort (fitted targets : List Nat) : Bool := (fitted.zip targets).any fun (f, t) => decide (f < t)

theorem updateIncrease_short {s : State} {inc : Increase} {fitted : List Nat} (h : s.heat.increase = some inc)
    (hshort : fallsShort fitted inc.targets = true) :
    updateIncrease fitted s =
      s.modHeat fun h =>
        { h with increase := formedIncrease fitted s, increaseDiscard := satInc s.heat.increaseDiscard } := by
  have hdiscard : discardIncrease s =
      s.modHeat fun h => { h with increase := none, increaseDiscard := satInc h.increaseDiscard } := by
    unfold discardIncrease
    rw [h]
  unfold updateIncrease
  rw [h]
  refine (if_pos hshort).trans ?_
  rw [hdiscard]
  exact formIncrease_eq fitted rfl

theorem updateIncrease_reached {s : State} {inc : Increase} {fitted : List Nat} (h : s.heat.increase = some inc)
    (hshort : fallsShort fitted inc.targets = false) :
    updateIncrease fitted s = s.modHeat fun h => { h with increase := some { inc with targets := fitted } } := by
  unfold updateIncrease
  rw [h]
  exact if_neg (ne_true_of_eq_false hshort)

/-- Only the pending increase and the count of discards have changed. -/
theorem updateIncrease_eq (fitted : List Nat) (s : State) :
    ∃ inc discards, updateIncrease fitted s =
      s.modHeat fun h => { h with increase := inc, increaseDiscard := discards } := by
  cases h : s.heat.increase with
  | none => exact ⟨_, s.heat.increaseDiscard, updateIncrease_absent fitted h⟩
  | some inc =>
    cases hshort : fallsShort fitted inc.targets with
    | true => exact ⟨_, _, updateIncrease_short h hshort⟩
    | false => exact ⟨_, s.heat.increaseDiscard, updateIncrease_reached h hshort⟩

/-- A return with allotment leaves in R what the node did not take, and the latch is used up. -/
theorem allottedReturn_take {l : HeatLatch} {r : Nat} (s : State) (h : r ≤ 2000) :
    (allottedReturn l r s).1 + (allottedReturn l r s).2.heat.take = r
      ∧ (allottedReturn l r s).2.heat.take ≤ heatShare l r ∧ (allottedReturn l r s).2.heat.latch = none := by
  obtain ⟨inc, discards, hupdate⟩ := updateIncrease_eq (fittedCounts l r s) (heatLowered l r s)
  have htake : (heatLowered l r s).heat.take = heatTaken l r s := (heatLowered_groupsOnly l r s).take
  have hshare := heatShare_le (l := l) h
  have hle : heatTaken l r s ≤ heatShare l r := Nat.sub_le _ _
  rw [allottedReturn_eq, hupdate]
  refine ⟨?_, htake.trans_le hle, rfl⟩
  show r - heatTaken l r s + (heatLowered l r s).heat.take = r
  omega

theorem heatLowered_increase (l : HeatLatch) (r : Nat) (s : State) :
    (heatLowered l r s).heat.increase = s.heat.increase
      ∧ (heatLowered l r s).heat.increaseDiscard = s.heat.increaseDiscard := by
  rw [(heatLowered_groupsOnly l r s).heat]
  exact ⟨rfl, rfl⟩

theorem allottedReturn_updates (l : HeatLatch) (r : Nat) (s : State) :
    (allottedReturn l r s).2.heat.increase = (updateIncrease (fittedCounts l r s) (heatLowered l r s)).heat.increase
      ∧ (allottedReturn l r s).2.heat.increaseDiscard =
          (updateIncrease (fittedCounts l r s) (heatLowered l r s)).heat.increaseDiscard := by
  rw [allottedReturn_eq]
  exact ⟨rfl, rfl⟩

theorem allottedReturn_absent {l : HeatLatch} {r : Nat} {s : State} (h : s.heat.increase = none) :
    (allottedReturn l r s).2.heat.increase = formedIncrease (fittedCounts l r s) (heatLowered l r s)
      ∧ (allottedReturn l r s).2.heat.increaseDiscard = s.heat.increaseDiscard := by
  obtain ⟨hincrease, hdiscards⟩ := allottedReturn_updates l r s
  obtain ⟨hsame, hcount⟩ := heatLowered_increase l r s
  rw [updateIncrease_absent _ (hsame.trans h), State.modHeat_heat] at hincrease hdiscards
  dsimp only at hincrease hdiscards
  exact ⟨hincrease, hdiscards.trans hcount⟩

theorem allottedReturn_short {l : HeatLatch} {r : Nat} {s : State} {inc : Increase} (h : s.heat.increase = some inc)
    (hshort : fallsShort (fittedCounts l r s) inc.targets = true) :
    (allottedReturn l r s).2.heat.increase = formedIncrease (fittedCounts l r s) (heatLowered l r s)
      ∧ (allottedReturn l r s).2.heat.increaseDiscard = satInc s.heat.increaseDiscard := by
  obtain ⟨hincrease, hdiscards⟩ := allottedReturn_updates l r s
  obtain ⟨hsame, hcount⟩ := heatLowered_increase l r s
  rw [updateIncrease_short (hsame.trans h) hshort, State.modHeat_heat] at hincrease hdiscards
  dsimp only at hincrease hdiscards
  exact ⟨hincrease, hdiscards.trans (congrArg satInc hcount)⟩

theorem allottedReturn_reached {l : HeatLatch} {r : Nat} {s : State} {inc : Increase} (h : s.heat.increase = some inc)
    (hshort : fallsShort (fittedCounts l r s) inc.targets = false) :
    (allottedReturn l r s).2.heat.increase = some { inc with targets := fittedCounts l r s }
      ∧ (allottedReturn l r s).2.heat.increaseDiscard = s.heat.increaseDiscard := by
  obtain ⟨hincrease, hdiscards⟩ := allottedReturn_updates l r s
  obtain ⟨hsame, hcount⟩ := heatLowered_increase l r s
  rw [updateIncrease_reached (hsame.trans h) hshort, State.modHeat_heat] at hincrease hdiscards
  dsimp only at hincrease hdiscards
  exact ⟨hincrease, hdiscards.trans hcount⟩

theorem formedIncrease_lowered (l : HeatLatch) (r : Nat) (s : State) :
    let rises : Prop := ∃ (i : Nat) (x : Group) (m : Nat),
      s.heat.groups[i]? = some x ∧ (fittedCounts l r s)[i]? = some m ∧ x.commanded < m
    (rises → formedIncrease (fittedCounts l r s) (heatLowered l r s) =
        some { targets := fittedCounts l r s, phase := .waiting (2 * s.sweep.latchedPeriod.getD 100) })
      ∧ (¬rises → formedIncrease (fittedCounts l r s) (heatLowered l r s) = none) := by
  intro rises
  have honly := heatLowered_groupsOnly l r s
  have hiff : ((fittedCounts l r s).zip (heatLowered l r s).heat.groups).any
      (fun (f, g) => decide (g.commanded < f)) = true ↔ rises := by
    rw [any_zip_iff]
    constructor
    · rintro ⟨i, m, y, hm, hy, hlt⟩
      obtain ⟨c, hc⟩ := fittedCounts_config hm
      have hbound : i < s.heat.groups.length := honly.2 ▸ (List.getElem?_eq_some_iff.mp hy).1
      have hx : s.heat.groups[i]? = some s.heat.groups[i] := List.getElem?_eq_getElem hbound
      have hlowered := heatLowered_commanded hc hx hm
      rw [hy] at hlowered
      have := Option.some.inj hlowered
      have := of_decide_eq_true hlt
      exact ⟨i, _, m, hx, hm, by omega⟩
    · rintro ⟨i, x, m, hx, hm, hlt⟩
      obtain ⟨c, hc⟩ := fittedCounts_config hm
      have hlowered := heatLowered_commanded hc hx hm
      obtain ⟨y, hy, hcommanded⟩ := Option.map_eq_some_iff.mp hlowered
      exact ⟨i, m, y, hm, hy, decide_eq_true (by omega)⟩
  unfold formedIncrease
  refine ⟨fun h => ?_, fun h => if_neg fun hany => h (hiff.mp hany)⟩
  rw [if_pos (hiff.mpr h), honly.sweep]
  rfl

/-- Settles O39. -/
theorem allottedReturnLowersRByTheTake : Obligations.AllottedReturnLowersRByTheTake := by
  intro l r s hr
  have hperiod : (heatLowered l r s).sweep.usedPeriod = s.sweep.latchedPeriod.getD 100 := by
    rw [(heatLowered_groupsOnly l r s).sweep]
    rfl
  obtain ⟨inc, discards, hupdate⟩ := updateIncrease_eq (fittedCounts l r s) (heatLowered l r s)
  have hlowered : (allottedReturn l r s).2 = (heatLowered l r s).modHeat fun h =>
      { h with
        increase := inc, increaseDiscard := discards, latch := none, allotted := true
        hold := some (8 * s.sweep.latchedPeriod.getD 100) } := by
    rw [allottedReturn_eq, hupdate, ← hperiod]
    rfl
  obtain ⟨htake, hshare, hlatch⟩ := allottedReturn_take (l := l) s hr
  have habsent := allottedReturn_absent (l := l) (r := r) (s := s)
  have hshort := @allottedReturn_short l r s
  have hreached := @allottedReturn_reached l r s
  generalize allottedReturn l r s = out at *
  have honly := heatLowered_groupsOnly l r s
  refine ⟨⟨htake, hshare, hlatch, by rw [hlowered, State.modHeat_heat], by rw [hlowered, State.modHeat_heat],
    by rw [hlowered]; exact honly.2, ?_, by rw [hlowered]; exact honly.consist, by rw [hlowered]; exact honly.door,
    by rw [hlowered]; exact honly.sweep⟩, ?_⟩
  · intro i x y f hx hy hf hconfig
    obtain ⟨c, hc⟩ := Option.isSome_iff_exists.mp hconfig
    have hm : (fittedCounts l r s)[i]? = some f.fitted := by
      rw [fittedCounts, List.getElem?_map, hf]
      rfl
    have hcommanded := heatLowered_commanded (i := i) hc hx hm
    rw [hlowered, State.modHeat_heat] at hy
    dsimp only at hy
    rw [hy] at hcommanded
    exact Option.some.inj hcommanded
  · intro fitted rises formed Formed
    obtain ⟨hrises, hrests⟩ := formedIncrease_lowered l r s
    refine ⟨fun hnone => ?_, fun inc hinc => ?_⟩
    · obtain ⟨hincrease, hdiscards⟩ := habsent hnone
      exact ⟨⟨fun h => hincrease.trans (hrises h), fun h => hincrease.trans (hrests h)⟩, hdiscards⟩
    · intro short
      have hiff : fallsShort fitted inc.targets = true ↔ short := by
        unfold fallsShort
        rw [any_zip_iff]
        simp [short]
      refine ⟨fun h => ?_, fun h => ?_⟩
      · obtain ⟨hincrease, hdiscards⟩ := hshort hinc (hiff.mpr h)
        exact ⟨⟨fun h => hincrease.trans (hrises h), fun h => hincrease.trans (hrests h)⟩, hdiscards⟩
      · exact hreached hinc (Bool.eq_false_iff.mpr fun hs => h (hiff.mp hs))

/-! ## The timers (R162, R163, R165) -/

/-- Every group of the live record is commanded to 0 (R165). -/
theorem commandAllOff_commanded {s : State} (hlength : s.store.content.groups.length = s.heat.groups.length) :
    ∀ x ∈ (commandAllOff s).heat.groups, x.commanded = 0 := by
  intro y hy
  obtain ⟨i, hi⟩ := List.mem_iff_getElem?.mp hy
  have hbound : i < s.heat.groups.length := (commandAllOff_groupsOnly s).2 ▸ (List.getElem?_eq_some_iff.mp hi).1
  have hx : s.heat.groups[i]? = some s.heat.groups[i] := List.getElem?_eq_getElem hbound
  obtain ⟨u, honly, hgroup, hend, -⟩ := foldl_group (key := id) (act := fun g s => offerGroup g 0 s)
    (fun g s => offerGroup_groupOnly g 0 s) (by simpa using s.groupNumbers_nodup) s (mem_groupNumbers hx)
  have hc : u.groupConfig (i + 1) = some s.store.content.groups[i] :=
    (honly.groupConfig (i + 1)).trans (List.getElem?_eq_getElem (hlength ▸ hbound))
  have hwritten : (commandAllOff s).heat.groups[i]? = some (Group.written 0 s.heat.groups[i]) := by
    refine hend.trans ((offerGroup_written 0 hc).1.trans ?_)
    rw [show u.group (i + 1) = some s.heat.groups[i] from hgroup.trans hx]
    rfl
  obtain rfl := Option.some.inj (hi.symm.trans hwritten)
  rfl

/-- The node before HEAT-OFF is raised: every group commanded to 0, nothing taken, no increase, OFF and counted. -/
def switchedOff (s : State) : State :=
  (discardIncrease ((commandAllOff s).modHeat fun h => { h with take := 0 })).modHeat fun h =>
    { h with allotted := false, hold := none, heatOff := satInc h.heatOff }

theorem holdRunsOut_eq (s : State) : holdRunsOut s = raise .heatOff 0#8 (commandedCurrent s) (switchedOff s) := rfl

theorem switchedOff_heatOnly (s : State) : HeatOnly s (switchedOff s) :=
  (((commandAllOff_groupsOnly s).heatOnly.trans (modHeat_heatOnly _ _)).trans (discardIncrease_heatOnly _)).trans
    (modHeat_heatOnly _ _)

theorem switchedOff_heat (s : State) :
    (switchedOff s).heat.groups = (commandAllOff s).heat.groups ∧ (switchedOff s).heat.take = 0
      ∧ (switchedOff s).heat.increase = none ∧ (switchedOff s).heat.allotted = false ∧ (switchedOff s).heat.hold = none
      ∧ (switchedOff s).heat.heatOff = satInc s.heat.heatOff := by
  have hcount : (commandAllOff s).heat.heatOff = s.heat.heatOff := by rw [(commandAllOff_groupsOnly s).heat]
  unfold switchedOff
  rw [discardIncrease_eq, ← hcount]
  exact ⟨rfl, rfl, rfl, rfl, rfl, rfl⟩

/-- Settles O40. -/
theorem heatTimersAndSupplyFall : Obligations.HeatTimersAndSupplyFall := by
  refine ⟨fun s hpower => ⟨fun targets left hinc => ?_, fun targets left hinc htargets hlength => ?_,
    fun hhold hallotted hlength => ?_, fun hhold hallotted => ?_⟩, fun s hpower hsupply => ?_⟩
  · rw [show exec .increaseWaitExpiry s = live increaseWaitEnds s from rfl, live_powered _ s hpower]
    have hdiscard : increaseWaitEnds s = discardIncrease s := by
      unfold increaseWaitEnds
      rw [hinc]
    rw [hdiscard, discardIncrease, hinc]
  · have hends : staggerEnds s = applyIncrease s := by
      unfold staggerEnds
      rw [hinc]
    refine ⟨finish (applyIncrease s), ?_, ?_, fun i x m hx hm => ?_, ?_, ?_, ?_, ?_⟩
    · rw [show exec .staggerDelayEnd s = live staggerEnds s from rfl, live_powered _ s hpower, hends]
    · rw [finish_heat]
      exact applyIncrease_none s
    · rw [finish_heat]
      exact applyIncrease_commanded hinc hlength hx hm
    · obtain ⟨t, honly, heq⟩ := applyIncrease_eq s
      rw [finish_heat, heq]
      exact honly.take
    · rw [finish_heat]
      exact applyIncrease_latch s
    · obtain ⟨t, honly, heq⟩ := applyIncrease_eq s
      rw [finish_consist, heq]
      exact honly.consist
    · obtain ⟨t, honly, heq⟩ := applyIncrease_eq s
      rw [finish_door, heq]
      exact honly.door
  · have hends : heatHoldEnds s = holdRunsOut s := by
      unfold heatHoldEnds onlyIf
      rw [if_pos (Option.isSome_iff_ne_none.mpr hhold)]
      exact if_pos hallotted
    have hegress : EgressOnly (switchedOff s) (holdRunsOut s) := raise_egress _ _ _ _
    have honly := switchedOff_heatOnly s
    obtain ⟨hgroups, htake, hincrease, hoff, hnone, hcount⟩ := switchedOff_heat s
    refine ⟨finish (holdRunsOut s), ?_, ?_⟩
    · rw [show exec .heatHoldExpiry s = live heatHoldEnds s from rfl, live_powered _ s hpower, hends]
    · rw [finish_heat, finish_consist, finish_door, finish_sweep, hegress.heat, hegress.consist, hegress.door,
        hegress.sweep, hgroups]
      exact ⟨commandAllOff_commanded hlength, (commandAllOff_groupsOnly s).2, htake, hincrease, hoff, hnone, hcount,
        honly.consist, honly.door, honly.sweep⟩
  · rw [show exec .heatHoldExpiry s = live heatHoldEnds s from rfl, live_powered _ s hpower]
    unfold heatHoldEnds onlyIf
    rw [if_pos (Option.isSome_iff_ne_none.mpr hhold)]
    exact congrArg (fun t => Host.Outcome.next (finish t)) (if_neg (ne_true_of_eq_false hallotted))
  · rw [show exec .supplyFall s = live supplyFalls s from rfl, live_powered _ s hpower]
    unfold supplyFalls onlyIf
    rw [if_pos hsupply]
    dsimp only
    rw [discardIncrease_eq]
    dsimp only
    cases hinc : s.heat.increase with
    | none => rw [if_pos rfl, if_pos rfl, ← hinc]
    | some inc => rw [if_neg (by simp), if_neg (by simp)]

end Sys2Proof.Machine
end

section
/-! What the Door and Heat Units leave alone: everything of the consist, the sweep and the record, the bus but for
its queues and the transaction in flight, and at a head, which keeps its notices, the line as well. -/

namespace Sys2Proof.Machine

open Sys2Proof

/-- The bus but for its queues, the transaction in flight and the cab outbound queue. -/
def Bus.rest (b : Bus) : Bus :=
  { b with
    doorQueue := [], heatQueue := [], remoteQueue := [], flight := none, replyTimer := none
    pollPersist := .unstarted, outbound := [], cabDrop := 0 }

/-- Nothing has changed but the Door and Heat Units, the queues of the bus and what notices bring about. -/
structure UnitsMove (s t : State) : Prop where
  powered : t.powered = s.powered
  identity : t.identity = s.identity
  pins : t.pins = s.pins
  consist : t.consist = s.consist
  sweep : t.sweep = s.sweep
  store : t.store = s.store
  bus : t.bus.rest = s.bus.rest
  line : s.consist.status = .valid → t.relay = s.relay ∧ t.lp1 = s.lp1 ∧ t.lp2 = s.lp2

namespace UnitsMove

theorem refl (s : State) : UnitsMove s s := ⟨rfl, rfl, rfl, rfl, rfl, rfl, rfl, fun _ => ⟨rfl, rfl, rfl⟩⟩

theorem trans {s t u : State} (h : UnitsMove s t) (k : UnitsMove t u) : UnitsMove s u := by
  refine ⟨k.powered.trans h.powered, k.identity.trans h.identity, k.pins.trans h.pins, k.consist.trans h.consist,
    k.sweep.trans h.sweep, k.store.trans h.store, k.bus.trans h.bus, fun hvalid => ?_⟩
  obtain ⟨h1, h2, h3⟩ := h.line hvalid
  obtain ⟨k1, k2, k3⟩ := k.line (h.consist ▸ hvalid)
  exact ⟨k1.trans h1, k2.trans h2, k3.trans h3⟩

/-- A change of the egress side that leaves the line alone at a head. -/
theorem of_egress {s t : State} (h : EgressOnly s t)
    (hline : s.consist.status = .valid → t.relay = s.relay ∧ t.lp1 = s.lp1 ∧ t.lp2 = s.lp2) : UnitsMove s t :=
  ⟨h.powered, h.identity, h.pins, h.consist, h.sweep, h.store, by rw [h.bus]; rfl, hline⟩

theorem of_busOnly {s t : State} (h : BusOnly s t) (hbus : t.bus.rest = s.bus.rest) : UnitsMove s t := by
  unfold BusOnly at h
  rw [h] at hbus ⊢
  exact ⟨rfl, rfl, rfl, rfl, rfl, rfl, hbus, fun _ => ⟨rfl, rfl, rfl⟩⟩

theorem of_modBus {s : State} {f : Bus → Bus} (h : (f s.bus).rest = s.bus.rest) : UnitsMove s (s.modBus f) :=
  of_busOnly rfl h

theorem of_modDoor (f : Door → Door) (s : State) : UnitsMove s (s.modDoor f) :=
  ⟨rfl, rfl, rfl, rfl, rfl, rfl, rfl, fun _ => ⟨rfl, rfl, rfl⟩⟩

theorem of_modHeat (f : Heat → Heat) (s : State) : UnitsMove s (s.modHeat f) :=
  ⟨rfl, rfl, rfl, rfl, rfl, rfl, rfl, fun _ => ⟨rfl, rfl, rfl⟩⟩

theorem foldl {α : Type} {f : State → α → State} (hf : ∀ s a, UnitsMove s (f s a)) (l : List α) (s : State) :
    UnitsMove s (l.foldl f s) := by
  induction l generalizing s with
  | nil => exact refl s
  | cons a rest ih => exact (hf s a).trans (ih _)

theorem ite {c : Prop} [Decidable c] {s t u : State} (ht : UnitsMove s t) (hu : UnitsMove s u) :
    UnitsMove s (if c then t else u) := by
  split
  · exact ht
  · exact hu

end UnitsMove

/-! ## Notices and the arbiter -/

theorem raise_of_valid {s : State} (kind : NoticeKind) (subject : Byte) (value : Nat) (h : s.consist.status = .valid) :
    raise kind subject value s = enqueueNotice (s.noticeOf kind subject value) s := by
  have hhead : (enqueueNotice (s.noticeOf kind subject value) s).actsAsHead = true := by
    simp [State.actsAsHead, (enqueueNotice_egress _ s).consist, h]
  unfold raise forwardNotices
  rw [if_neg (by simp [hhead])]

theorem raise_unitsMove (kind : NoticeKind) (subject : Byte) (value : Nat) (s : State) :
    UnitsMove s (raise kind subject value s) := by
  refine .of_egress (raise_egress _ _ _ _) fun hvalid => ?_
  rw [raise_of_valid _ _ _ hvalid]
  exact ⟨enqueueNotice_relay _ s, enqueueNotice_port _ .lp1 s, enqueueNotice_port _ .lp2 s⟩

theorem arbitrate_unitsMove (s : State) : UnitsMove s (arbitrate s) := by
  refine .of_busOnly (arbitrate_busOnly s) ?_
  obtain ⟨-, -, -, hrest⟩ := arbitrate_bus s
  have h := congrArg Bus.rest hrest
  exact h

theorem offerDoorWrite_unitsMove (k : Nat) (station item command : Byte) (s : State) :
    UnitsMove s (offerDoorWrite k station item command s).1 := by
  unfold offerDoorWrite
  dsimp only
  split
  · exact (UnitsMove.of_modBus rfl).trans (arbitrate_unitsMove _)
  · split
    · exact (UnitsMove.of_modBus rfl).trans (arbitrate_unitsMove _)
    · exact .refl s

theorem offerHeatWrite_unitsMove (g : Nat) (station item : Byte) (count : Nat) (s : State) :
    UnitsMove s (offerHeatWrite g station item count s) := (UnitsMove.of_modBus rfl).trans (arbitrate_unitsMove _)

/-! ## The Door Unit -/

theorem modLeaf_unitsMove (k : Nat) (f : Leaf → Leaf) (s : State) : UnitsMove s (s.modLeaf k f) :=
  .ite (.refl s) (.of_modDoor _ s)

theorem evalVehicleProof_unitsMove (s : State) : UnitsMove s (evalVehicleProof s) := by
  unfold evalVehicleProof
  exact .of_modDoor _ s

theorem supersedeLeaf_unitsMove (k : Nat) (s : State) : UnitsMove s (supersedeLeaf k s) := .of_modBus rfl

theorem enterFault_unitsMove (k value : Nat) (s : State) : UnitsMove s (enterFault k value s) := by
  unfold enterFault
  exact ((((modLeaf_unitsMove k _ s).trans (supersedeLeaf_unitsMove k _)).trans (.of_modDoor _ _)).trans
    (evalVehicleProof_unitsMove _)).trans (raise_unitsMove _ _ _ _)

theorem enterLeaf_unitsMove (k : Nat) (st : LeafState) (s : State) : UnitsMove s (enterLeaf k st s) := by
  unfold enterLeaf
  dsimp only
  have hentered : UnitsMove s (evalVehicleProof (supersedeLeaf k
      (s.modLeaf k (Leaf.entered s.store.content (enteredState s.store.content st))))) :=
    ((modLeaf_unitsMove k _ s).trans (supersedeLeaf_unitsMove k _)).trans (evalVehicleProof_unitsMove _)
  split
  · split
    · exact (hentered.trans (offerDoorWrite_unitsMove k _ _ _ _)).trans (enterFault_unitsMove k _ _)
    · exact hentered.trans (offerDoorWrite_unitsMove k _ _ _ _)
  · exact hentered

theorem warnLeaf_unitsMove (k : Nat) (s : State) : UnitsMove s (warnLeaf k s) := by
  unfold warnLeaf
  split
  · exact enterLeaf_unitsMove k _ s
  · exact .refl s

theorem enterFreshWarning_unitsMove (k : Nat) (s : State) : UnitsMove s (enterFreshWarning k s) :=
  (modLeaf_unitsMove k _ s).trans (enterLeaf_unitsMove k _ _)

theorem closeFailed_unitsMove (k : Nat) (s : State) : UnitsMove s (closeFailed k s) := by
  unfold closeFailed
  split
  · exact .refl s
  · exact .ite (enterFault_unitsMove k _ s) ((modLeaf_unitsMove k _ s).trans (enterLeaf_unitsMove k _ _))

theorem firstStatus_unitsMove (k : Nat) (status : LeafStatus) (s : State) : UnitsMove s (firstStatus k status s) := by
  unfold firstStatus
  cases status with
  | closedLocked | isolatedLocked | isolatedOpen => exact enterLeaf_unitsMove k _ s
  | opened | obstructed => exact enterFreshWarning_unitsMove k s

theorem actOnStatus_unitsMove (k : Nat) (fromRead : Bool) (l : Leaf) (status : LeafStatus) (s : State) :
    UnitsMove s (actOnStatus k fromRead l status s) := by
  unfold actOnStatus
  cases l.state with
  | start => exact firstStatus_unitsMove k status s
  | closed =>
    cases status with
    | opened | obstructed => exact enterFault_unitsMove k _ s
    | _ => exact .refl s
  | closing =>
    refine .ite ?_ (.refl s)
    cases status with
    | closedLocked => exact enterLeaf_unitsMove k _ s
    | obstructed => exact closeFailed_unitsMove k s
    | _ => exact .refl s
  | fault => exact .ite (enterLeaf_unitsMove k _ s) (.refl s)
  | _ => exact .refl s

theorem leafStatusTold_unitsMove (k : Nat) (fromRead : Bool) (s : State) : UnitsMove s (leafStatusTold k fromRead s) := by
  unfold leafStatusTold
  dsimp only
  split
  · exact (evalVehicleProof_unitsMove s).trans (actOnStatus_unitsMove k fromRead _ _ _)
  · exact evalVehicleProof_unitsMove s

theorem warnReleased_unitsMove (s : State) : UnitsMove s (warnReleased s) :=
  .foldl (fun s k => warnLeaf_unitsMove k s) _ s

theorem doorRoundStart_unitsMove (s : State) : UnitsMove s (doorRoundStart s) :=
  (evalVehicleProof_unitsMove s).trans (.foldl (fun s k => leafStatusTold_unitsMove k false s) _ _)

/-! ## The Heat Unit -/

/-- Only the Heat Unit has changed, and the bus by the heat writes it has offered. -/
structure HeatWrites (s t : State) : Prop where
  only : t = { s with heat := t.heat, bus := t.bus }
  rest : t.bus.rest = s.bus.rest
  outbound : t.bus.outbound = s.bus.outbound
  cabDrop : t.bus.cabDrop = s.bus.cabDrop

namespace HeatWrites

theorem refl (s : State) : HeatWrites s s := ⟨rfl, rfl, rfl, rfl⟩

theorem trans {s t u : State} (h : HeatWrites s t) (k : HeatWrites t u) : HeatWrites s u := by
  refine ⟨?_, k.rest.trans h.rest, k.outbound.trans h.outbound, k.cabDrop.trans h.cabDrop⟩
  have hk := k.only
  rw [h.only] at hk
  exact hk

theorem of_modHeat (f : Heat → Heat) (s : State) : HeatWrites s (s.modHeat f) := ⟨rfl, rfl, rfl, rfl⟩

theorem foldl {α : Type} {f : State → α → State} (hf : ∀ s a, HeatWrites s (f s a)) (l : List α) (s : State) :
    HeatWrites s (l.foldl f s) := by
  induction l generalizing s with
  | nil => exact refl s
  | cons a rest ih => exact (hf s a).trans (ih _)

theorem ite {c : Prop} [Decidable c] {s t u : State} (ht : HeatWrites s t) (hu : HeatWrites s u) :
    HeatWrites s (if c then t else u) := by
  split
  · exact ht
  · exact hu

theorem unitsMove {s t : State} (h : HeatWrites s t) : UnitsMove s t := by
  have hrest := h.rest
  rw [h.only] at hrest ⊢
  exact ⟨rfl, rfl, rfl, rfl, rfl, rfl, hrest, fun _ => ⟨rfl, rfl, rfl⟩⟩

theorem door {s t : State} (h : HeatWrites s t) : t.door = s.door := by rw [h.only]
theorem consist {s t : State} (h : HeatWrites s t) : t.consist = s.consist := by rw [h.only]
theorem sweep {s t : State} (h : HeatWrites s t) : t.sweep = s.sweep := by rw [h.only]
theorem store {s t : State} (h : HeatWrites s t) : t.store = s.store := by rw [h.only]
theorem identity {s t : State} (h : HeatWrites s t) : t.identity = s.identity := by rw [h.only]
theorem relay {s t : State} (h : HeatWrites s t) : t.relay = s.relay := by rw [h.only]
theorem req {s t : State} (h : HeatWrites s t) : t.req = s.req := by rw [h.only]
theorem port {s t : State} (h : HeatWrites s t) (p : PortId) : t.port p = s.port p := by
  rw [h.only]
  cases p <;> rfl

end HeatWrites

theorem arbitrate_heatWrites (s : State) : HeatWrites s (arbitrate s) := by
  obtain ⟨-, -, -, hrest⟩ := arbitrate_bus s
  have hsame := congrArg Bus.rest hrest
  have hout := congrArg Bus.outbound hrest
  have hdrop := congrArg Bus.cabDrop hrest
  have honly : arbitrate s = { s with bus := (arbitrate s).bus } := arbitrate_busOnly s
  exact ⟨honly.trans (by rw [(arbitrate_busOnly s).heat]), hsame, hout, hdrop⟩

theorem offerHeatWrite_heatWrites (g : Nat) (station item : Byte) (count : Nat) (s : State) :
    HeatWrites s (offerHeatWrite g station item count s) := by
  have hqueue : ∀ q, HeatWrites s (s.modBus fun b => { b with heatQueue := q }) := fun q => ⟨rfl, rfl, rfl, rfl⟩
  exact (hqueue _).trans (arbitrate_heatWrites _)

theorem modGroup_heatWrites (g : Nat) (f : Group → Group) (s : State) : HeatWrites s (s.modGroup g f) :=
  .ite (.refl s) (.of_modHeat _ s)

theorem offerGroup_heatWrites (g count : Nat) (s : State) : HeatWrites s (offerGroup g count s) := by
  unfold offerGroup
  split
  · exact .refl s
  · exact (modGroup_heatWrites g _ s).trans (offerHeatWrite_heatWrites _ _ _ _ _)

theorem lowerGroup_heatWrites (g count : Nat) (s : State) : HeatWrites s (lowerGroup g count s) := by
  unfold lowerGroup
  split
  · exact .refl s
  · exact .ite (offerGroup_heatWrites g count s) (.refl s)

theorem raiseGroup_heatWrites (g target : Nat) (s : State) : HeatWrites s (raiseGroup g target s) := by
  unfold raiseGroup
  split
  · exact .refl s
  · exact .ite (offerGroup_heatWrites g target s) (.refl s)

theorem lowerGroups_heatWrites (fitted : List Nat) (s : State) : HeatWrites s (lowerGroups fitted s) :=
  .foldl (fun s (gf : Nat × Nat) => lowerGroup_heatWrites gf.1 gf.2 s) _ s

theorem discardIncrease_heatWrites (s : State) : HeatWrites s (discardIncrease s) := by
  unfold discardIncrease
  split
  · exact .refl s
  · exact .of_modHeat _ s

theorem applyIncrease_heatWrites (s : State) : HeatWrites s (applyIncrease s) := by
  cases h : s.heat.increase with
  | none =>
    unfold applyIncrease
    rw [h]
    exact .refl s
  | some inc =>
    rw [applyIncrease_raises h]
    exact (HeatWrites.foldl (fun s (gt : Nat × Nat) => raiseGroup_heatWrites gt.1 gt.2 s) _ s).trans (.of_modHeat _ _)

theorem startStagger_heatWrites (s : State) : HeatWrites s (startStagger s) := by
  unfold startStagger
  dsimp only
  split
  · exact .ite ((HeatWrites.of_modHeat _ s).trans (applyIncrease_heatWrites _)) (.of_modHeat _ s)
  · exact .refl s

theorem heatOutward_heatWrites (f : SweepOut) (s : State) : HeatWrites s (heatOutward f s).2 := by
  rw [heatOutward_eq]
  exact (HeatWrites.of_modHeat _ s).trans (startStagger_heatWrites _)

theorem updateIncrease_heatWrites (fitted : List Nat) (s : State) : HeatWrites s (updateIncrease fitted s) := by
  obtain ⟨inc, discards, heq⟩ := updateIncrease_eq fitted s
  rw [heq]
  exact .of_modHeat _ s

theorem allottedReturn_heatWrites (l : HeatLatch) (r : Nat) (s : State) : HeatWrites s (allottedReturn l r s).2 := by
  rw [allottedReturn_eq]
  unfold heatLowered
  dsimp only
  exact (((HeatWrites.of_modHeat _ s).trans (lowerGroups_heatWrites _ _)).trans (updateIncrease_heatWrites _ _)).trans
    (.of_modHeat _ _)

theorem unlatchedReturn_heatWrites (s : State) : HeatWrites s (unlatchedReturn s) := by
  unfold unlatchedReturn
  exact (((HeatWrites.of_modHeat _ s).trans (.foldl (fun s g => lowerGroup_heatWrites g 0 s) _ _)).trans
    (discardIncrease_heatWrites _)).trans (.of_modHeat _ _)

theorem heatReturn_heatWrites (sequence : Byte) (r : Nat) (matching : Bool) (s : State) :
    HeatWrites s (heatReturn sequence r matching s).2 := by
  unfold heatReturn
  split
  · split
    · split
      · exact allottedReturn_heatWrites _ r s
      · dsimp only
        exact (unlatchedReturn_heatWrites s).trans (.of_modHeat _ _)
    · exact unlatchedReturn_heatWrites s
  · exact unlatchedReturn_heatWrites s

theorem faultGroup_unitsMove (g : Nat) (cause : GroupFault) (s : State) : UnitsMove s (faultGroup g cause s) := by
  unfold faultGroup
  exact ((((modGroup_heatWrites g _ s).trans (offerGroup_heatWrites g 0 _)).trans (discardIncrease_heatWrites _)).trans
    (.of_modHeat _ _)).unitsMove.trans (raise_unitsMove _ _ _ _)

theorem groupRoundStart_unitsMove (g : Nat) (s : State) : UnitsMove s (groupRoundStart g s) := by
  unfold groupRoundStart
  split
  · exact .refl s
  · exact .ite (offerGroup_heatWrites g 0 s).unitsMove
      (.ite ((modGroup_heatWrites g _ s).unitsMove.trans (faultGroup_unitsMove g _ _))
        (modGroup_heatWrites g _ s).unitsMove)

theorem heatRoundStart_unitsMove (s : State) : UnitsMove s (heatRoundStart s) :=
  .foldl (fun s g => groupRoundStart_unitsMove g s) _ s

end Sys2Proof.Machine
end

section
/-! The end of a cab service at a SETTLED node: what the loss of the cab station leaves alone (R41, R95, R99). -/

namespace Sys2Proof.Machine

open Sys2Proof

/-- The bus but for its cab service and the transaction in flight. -/
def Bus.cabApart (b : Bus) : Bus :=
  { b with cab := none, silence := 0, cabState := .lost, flight := none, outbound := [], cabDrop := 0 }

/-- The Sweep Unit but for what a head keeps: what it has latched and counted. -/
def Sweep.latched (w : Sweep) : Sweep :=
  { w with
    periodTimer := none, outstanding := none
    request := { standstill := false, enableLeft := false, enableRight := false } }

/-- What the end of a cab service at a SETTLED node leaves alone, also where the node loses the lead by it. -/
structure CabMove (s t : State) : Prop where
  door : t.door = { s.door with trainProof := t.door.trainProof }
  heat : t.heat = s.heat
  map : t.consist.activeMap = s.consist.activeMap
  generation : t.consist.generation = s.consist.generation
  sweep : t.sweep.latched = s.sweep.latched
  bus : t.bus.cabApart = s.bus.cabApart

namespace CabMove

theorem refl (s : State) : CabMove s s := ⟨rfl, rfl, rfl, rfl, rfl, rfl⟩

theorem trans {s t u : State} (h : CabMove s t) (k : CabMove t u) : CabMove s u :=
  ⟨by rw [k.door, h.door], k.heat.trans h.heat, k.map.trans h.map,
    k.generation.trans h.generation, k.sweep.trans h.sweep, k.bus.trans h.bus⟩

theorem of_egress {s t : State} (h : EgressOnly s t) : CabMove s t :=
  ⟨by rw [h.door], h.heat, by rw [h.consist], by rw [h.consist], by rw [h.sweep], by rw [h.bus]; rfl⟩

theorem of_modConsist {s : State} {f : Consist → Consist} (hmap : (f s.consist).activeMap = s.consist.activeMap)
    (hgeneration : (f s.consist).generation = s.consist.generation) : CabMove s (s.modConsist f) :=
  ⟨rfl, rfl, hmap, hgeneration, rfl, rfl⟩

theorem of_modSweep {s : State} {f : Sweep → Sweep} (h : (f s.sweep).latched = s.sweep.latched) :
    CabMove s (s.modSweep f) := ⟨rfl, rfl, rfl, rfl, h, rfl⟩

theorem of_modBus {s : State} {f : Bus → Bus} (h : (f s.bus).cabApart = s.bus.cabApart) : CabMove s (s.modBus f) :=
  ⟨rfl, rfl, rfl, rfl, rfl, h⟩

theorem ite {c : Prop} [Decidable c] {s t u : State} (ht : CabMove s t) (hu : CabMove s u) :
    CabMove s (if c then t else u) := by
  split
  · exact ht
  · exact hu

end CabMove

theorem stopSweeping_cabMove (s : State) : CabMove s (stopSweeping s) :=
  ⟨rfl, rfl, rfl, rfl, rfl, rfl⟩

theorem setConsistState_cabMove (st : ConsistState) (s : State) : CabMove s (setConsistState st s) := by
  unfold setConsistState
  exact .ite ((CabMove.of_modConsist rfl rfl).trans (stopSweeping_cabMove _)) (.of_modConsist rfl rfl)

theorem changeEffect_cabMove (s : State) : CabMove s (changeEffect s) := by
  unfold changeEffect
  dsimp only
  split
  · exact (setConsistState_cabMove _ s).trans (.of_modConsist rfl rfl)
  · exact .of_modConsist rfl rfl
  · exact .of_modConsist rfl rfl
  · exact .refl s

theorem announceChange_cabMove (s : State) : CabMove s (announceChange s) := by
  have hentered : CabMove s (ownChangeEntered s) := ⟨rfl, rfl, rfl, rfl, rfl, rfl⟩
  exact hentered.trans (.of_egress (announceChange_egress s))

theorem clearRequestBits_cabMove (s : State) : CabMove s (clearRequestBits s) := .of_modSweep rfl

/-- A node that leaves a census in a state other than PENDING keeps its map and generation (R45). -/
theorem leaveCensus_cabMove {s : State} (h : s.consist.state ≠ .pending) : CabMove s (leaveCensus s) := by
  unfold leaveCensus
  dsimp only [State.modConsist]
  split
  · next hpending _ => exact absurd hpending h
  · next hpending _ => exact absurd hpending h
  · next hpending _ => exact absurd hpending h
  · exact CabMove.of_modConsist (f := fun c => { c with pendingMap := none, holdTimer := none, rollTimer := none }) rfl rfl

/-- A SETTLED node that loses the lead (R41). -/
theorem loseValidity_cabMove {s : State} (h : s.consist.state = .settled) : CabMove s (loseValidity s) := by
  unfold loseValidity
  extract_lets counting s1 s2 s3 s4
  have h2 : CabMove s s2 := ((stopSweeping_cabMove s).trans (clearRequestBits_cabMove _)).trans (.of_modConsist rfl rfl)
  have h3 : CabMove s s3 := .ite (h2.trans (.of_modConsist rfl rfl)) h2
  have hstate : s3.consist.state = .settled := by
    show (if counting then _ else s2).consist.state = _
    split <;> exact h
  have h4 : CabMove s s4 := (h3.trans (announceChange_cabMove _)).trans (changeEffect_cabMove _)
  have hstale : s4.consist.state = .stale := by
    have hannounced : (announceChange s3).consist.state = .settled := by
      rw [(announceChange_egress s3).consist]
      exact hstate
    show (changeEffect (announceChange s3)).consist.state = _
    rw [changeEffect_consist, hannounced]
  exact .ite (h4.trans (leaveCensus_cabMove (by rw [hstale]; decide))) h4

theorem setClaims_cabMove (c1 c2 : Bool) (s : State) : CabMove s (setClaims c1 c2 s) :=
  .ite (.refl s) (.of_modConsist rfl rfl)

theorem setClaims_state (c1 c2 : Bool) (s : State) : (setClaims c1 c2 s).consist.state = s.consist.state := by
  rw [setClaims_consist]

theorem dropClaims_cabMove {s : State} (h : s.consist.state = .settled) : CabMove s (dropClaims s) := by
  have hcleared : CabMove s ((setClaims false false s).modConsist fun c => { c with status := .none }) :=
    (setClaims_cabMove false false s).trans (.of_modConsist rfl rfl)
  unfold dropClaims
  exact .ite (hcleared.trans (loseValidity_cabMove ((setClaims_state false false s).trans h))) hcleared

theorem cabLost_cabMove {s : State} (h : s.consist.state = .settled) : CabMove s (cabLost s) := by
  have hbus : CabMove s (s.modBus fun b => { b with cabState := .lost }) := .of_modBus rfl
  unfold cabLost
  exact ((hbus.trans (dropClaims_cabMove h)).trans (clearRequestBits_cabMove _)).trans (.of_egress (raise_egress _ _ _ _))

theorem takeCabOutcome_cabMove (t : CabTally) {s : State} (h : s.consist.state = .settled) :
    CabMove s (takeCabOutcome t s) := by
  have hsilent : CabMove s (s.modBus fun b => { b with silence := satInc8 b.silence }) := .of_modBus rfl
  unfold takeCabOutcome
  exact .ite (.refl s) (.ite (.of_modBus rfl)
    (.ite (.ite (hsilent.trans (cabLost_cabMove h)) hsilent) (.refl s)))

theorem endCabEntry_cabMove {s : State} (h : s.consist.state = .settled) : CabMove s (endCabEntry s) := by
  unfold endCabEntry
  dsimp only
  split
  · exact .refl s
  · have hended : CabMove s (s.modBus fun b => { b with cab := none }) := .of_modBus rfl
    split
    · exact hended.trans (.of_modBus rfl)
    · exact hended.trans (takeCabOutcome_cabMove _ h)

theorem placeCabEntry_cabMove {s : State} (h : s.consist.state = .settled) : CabMove s (placeCabEntry s) := by
  unfold placeCabEntry
  exact .ite ((endCabEntry_cabMove h).trans (.of_modBus rfl)) (endCabEntry_cabMove h)

/-! ## At a node that is no head, and where the cab station is not lost -/

/-- A node that is no head keeps its consist state, and is no head after it either. -/
def StaysFollower (s t : State) : Prop :=
  s.consist.status ≠ .valid → t.consist.status ≠ .valid ∧ t.consist.state = s.consist.state

theorem dropClaims_staysFollower (s : State) : StaysFollower s (dropClaims s) := by
  intro h
  have hhead : s.actsAsHead = false := by simp [State.actsAsHead, h]
  unfold dropClaims
  rw [hhead]
  exact ⟨show ClaimStatus.none ≠ .valid by decide, setClaims_state false false s⟩

theorem cabLost_staysFollower (s : State) : StaysFollower s (cabLost s) := by
  unfold cabLost
  dsimp only
  intro h
  rw [(raise_egress _ _ _ _).consist]
  exact dropClaims_staysFollower (s.modBus fun b => { b with cabState := .lost }) h

theorem takeCabOutcome_staysFollower (t : CabTally) (s : State) : StaysFollower s (takeCabOutcome t s) := by
  unfold takeCabOutcome
  dsimp only
  intro h
  split
  · exact ⟨h, rfl⟩
  · split
    · exact ⟨h, rfl⟩
    · split
      · split
        · exact cabLost_staysFollower (s.modBus fun b => { b with silence := satInc8 b.silence }) h
        · exact ⟨h, rfl⟩
      · exact ⟨h, rfl⟩

theorem endCabEntry_staysFollower (s : State) : StaysFollower s (endCabEntry s) := by
  unfold endCabEntry
  dsimp only
  intro h
  split
  · exact ⟨h, rfl⟩
  · split
    · exact ⟨h, rfl⟩
    · exact takeCabOutcome_staysFollower _ (s.modBus fun b => { b with cab := none }) h

theorem placeCabEntry_staysFollower (s : State) : StaysFollower s (placeCabEntry s) := by
  intro h
  rw [placeCabEntry_consist]
  exact endCabEntry_staysFollower s h

/-- The cab station is not lost by the end of the cab service in class 3 (R95, R99). -/
def CabHeld (s : State) : Prop :=
  s.cabServed = false ∨ s.bus.cab = none ∨ s.bus.silence + 1 < 10 ∨ s.bus.cabState = .lost

theorem takeCabOutcome_busOnly (t : CabTally) {s : State}
    (h : s.cabServed = false ∨ s.bus.silence + 1 < 10 ∨ s.bus.cabState = .lost) : BusOnly s (takeCabOutcome t s) := by
  unfold takeCabOutcome
  dsimp only
  split
  · exact .refl s
  · next hserved =>
    split
    · exact .modBus _ s
    · split
      · rw [if_neg ?_]
        · exact .modBus _ s
        · rintro ⟨hanswering, hlimit⟩
          have hlimit : 10 ≤ satInc8 s.bus.silence := hlimit
          have hanswering : s.bus.cabState = .answering := hanswering
          rcases h with h | h | h
          · rw [h] at hserved
            exact hserved rfl
          · simp only [satInc8] at hlimit
            omega
          · rw [h] at hanswering
            cases hanswering
      · exact .refl s

/-- Where the cab station is not lost the end of a cab service moves the bus alone. -/
theorem endCabEntry_busOnly {s : State} (h : CabHeld s) : BusOnly s (endCabEntry s) := by
  unfold endCabEntry
  cases hcab : s.bus.cab with
  | none => exact .refl s
  | some c =>
    have hheld : s.cabServed = false ∨ s.bus.silence + 1 < 10 ∨ s.bus.cabState = .lost := by
      rcases h with h | h | h | h
      · exact .inl h
      · rw [hcab] at h
        cases h
      · exact .inr (.inl h)
      · exact .inr (.inr h)
    have hended : BusOnly s (s.modBus fun b => { b with cab := none }) := .modBus _ s
    dsimp only
    split
    · exact hended.trans (.modBus _ _)
    · exact hended.trans (takeCabOutcome_busOnly _ hheld)

theorem placeCabEntry_busOnly {s : State} (h : CabHeld s) : BusOnly s (placeCabEntry s) := by
  unfold placeCabEntry
  dsimp only
  split
  · exact (endCabEntry_busOnly h).trans (.modBus _ _)
  · exact endCabEntry_busOnly h

end Sys2Proof.Machine
end

section
/-! The vehicle proof, class 1 and the RELEASED leaves at a round start (R89, R94, R116, R142). -/

namespace Sys2Proof.Machine

open Sys2Proof

/-! ## The vehicle proof stands by R141 -/

/-- The vehicle proof is what R141 gives it now. -/
def ProofStands (s : State) : Prop := vehicleProofNow s = s.door.vehicleProof

theorem evalVehicleProof_stands (s : State) : ProofStands (evalVehicleProof s) := rfl

theorem vehicleProofNow_congr {s t : State} (hleaves : t.door.leaves = s.door.leaves) (hstore : t.store = s.store)
    (hrecords : t.bus.records = s.bus.records) : vehicleProofNow t = vehicleProofNow s := by
  unfold vehicleProofNow State.leafNumbers State.leaf State.leafStatus State.freshValue State.record
  rw [hleaves, hstore, hrecords]

theorem Bus.records_of_rest {a b : Bus} (h : a.rest = b.rest) : a.records = b.records := by
  have h := congrArg Bus.records h
  exact h

theorem ProofStands.of_unitsMove {s t : State} (h : ProofStands s) (hmove : UnitsMove s t) (hdoor : t.door = s.door) :
    ProofStands t := by
  unfold ProofStands at h ⊢
  rw [vehicleProofNow_congr (congrArg Door.leaves hdoor) hmove.store (Bus.records_of_rest hmove.bus), hdoor, h]

theorem enterFault_stands (k value : Nat) (s : State) : ProofStands (enterFault k value s) := by
  unfold enterFault
  exact (evalVehicleProof_stands _).of_unitsMove (raise_unitsMove _ _ _ _) (raise_egress _ _ _ _).door

theorem enterLeaf_stands (k : Nat) (st : LeafState) (s : State) : ProofStands (enterLeaf k st s) := by
  unfold enterLeaf
  dsimp only
  split
  · split
    · exact enterFault_stands k _ _
    · exact (evalVehicleProof_stands _).of_unitsMove (offerDoorWrite_unitsMove _ _ _ _ _)
        (offerDoorWrite_spec _ _ _ _ _).1.door
  · exact evalVehicleProof_stands _

theorem warnLeaf_stands {k : Nat} {s : State} (h : ProofStands s) : ProofStands (warnLeaf k s) := by
  unfold warnLeaf
  split
  · exact enterLeaf_stands k _ s
  · exact h

theorem closeFailed_stands {k : Nat} {s : State} (h : ProofStands s) : ProofStands (closeFailed k s) := by
  unfold closeFailed
  split
  · exact h
  · split
    · exact enterFault_stands k _ s
    · exact enterLeaf_stands k _ _

theorem actOnStatus_stands {k : Nat} {fromRead : Bool} {l : Leaf} {status : LeafStatus} {s : State} (h : ProofStands s) :
    ProofStands (actOnStatus k fromRead l status s) := by
  unfold actOnStatus
  cases l.state with
  | start =>
    unfold firstStatus
    cases status with
    | closedLocked | isolatedLocked | isolatedOpen => exact enterLeaf_stands k _ s
    | opened | obstructed => exact enterLeaf_stands k _ _
  | closed =>
    cases status with
    | opened | obstructed => exact enterFault_stands k _ s
    | _ => exact h
  | closing =>
    dsimp only
    split
    · cases status with
      | closedLocked => exact enterLeaf_stands k _ s
      | obstructed => exact closeFailed_stands h
      | _ => exact h
    · exact h
  | fault =>
    dsimp only
    split
    · exact enterLeaf_stands k _ s
    · exact h
  | _ => exact h

theorem leafStatusTold_stands (k : Nat) (fromRead : Bool) (s : State) : ProofStands (leafStatusTold k fromRead s) := by
  unfold leafStatusTold
  dsimp only
  split
  · exact actOnStatus_stands (evalVehicleProof_stands s)
  · exact evalVehicleProof_stands s

theorem foldl_stands {act : Nat → State → State} (hact : ∀ k s, ProofStands s → ProofStands (act k s)) (ks : List Nat)
    {s : State} (h : ProofStands s) : ProofStands (ks.foldl (fun s k => act k s) s) := by
  induction ks generalizing s with
  | nil => exact h
  | cons k rest ih => exact ih (hact k s h)

theorem doorRoundStart_stands (s : State) : ProofStands (doorRoundStart s) :=
  foldl_stands (act := fun k s => leafStatusTold k false s) (fun k s _ => leafStatusTold_stands k false s) _
    (evalVehicleProof_stands s)

theorem warnReleased_stands {s : State} (h : ProofStands s) : ProofStands (warnReleased s) :=
  foldl_stands (fun _ _ => warnLeaf_stands) _ h

/-! ## Class 1: at most one write for each leaf in one state -/

/-- Whether a leaf is in a state. -/
def State.leafIn (s : State) (st : LeafState) (k : Nat) : Bool := decide (s.leafState k = some st)

/-- Of the leaves acted on in turn only those in one state may make class 1 longer, each by one entry; so each of
them shows what its own act made of it, in a state where the others before it have used their share. -/
theorem foldl_leaf_counted {act : Nat → State → State} {st : LeafState} (hact : ∀ k s, LeafOnly k s (act k s))
    (hqueue : ∀ k s, (act k s).bus.doorQueue.length ≤ s.bus.doorQueue.length + (s.leafIn st k).toNat) {ks : List Nat}
    (hnodup : ks.Nodup) (s : State) :
    (ks.foldl (fun s k => act k s) s).bus.doorQueue.length ≤ s.bus.doorQueue.length + ks.countP (s.leafIn st)
      ∧ ∀ k ∈ ks, ∃ m, LeavesOnly ks s m ∧ m.leaf k = s.leaf k
        ∧ m.bus.doorQueue.length + (s.leafIn st k).toNat ≤ s.bus.doorQueue.length + ks.countP (s.leafIn st)
        ∧ (ks.foldl (fun s k => act k s) s).leaf k = (act k m).leaf k := by
  induction ks generalizing s with
  | nil => exact ⟨by simp, by simp⟩
  | cons j rest ih =>
    obtain ⟨hj, hrest⟩ := List.nodup_cons.mp hnodup
    have hother : ∀ k ≠ j, (act j s).leaf k = s.leaf k := by
      obtain ⟨_, _, _, _, _, _, _, _, hother, _⟩ := hact j s
      exact hother
    have hsame : ∀ k ∈ rest, (act j s).leafIn st k = s.leafIn st k := by
      intro k hk
      have hne : k ≠ j := fun h => hj (h ▸ hk)
      unfold State.leafIn State.leafState
      rw [hother k hne]
    have hcount : rest.countP ((act j s).leafIn st) = rest.countP (s.leafIn st) :=
      List.countP_congr fun k hk => by rw [hsame k hk]
    obtain ⟨hlength, hleaves⟩ := ih hrest (act j s)
    have hfirst := hqueue j s
    have hcons : (j :: rest).countP (s.leafIn st) = rest.countP (s.leafIn st) + (s.leafIn st j).toNat := by
      rw [List.countP_cons]
      cases s.leafIn st j <;> rfl
    refine ⟨?_, fun k hk => ?_⟩
    · rw [List.foldl_cons, hcons]
      omega
    · by_cases hkj : k = j
      · subst hkj
        refine ⟨s, .refl _ s, rfl, ?_, (foldl_leavesOnly hact rest _).others k hj⟩
        omega
      · have hkrest := List.mem_of_ne_of_mem hkj hk
        obtain ⟨m, honly, hleaf, hbound, hend⟩ := hleaves k hkrest
        have hhead : LeavesOnly (j :: rest) s (act j s) := (hact j s).leaves List.mem_cons_self
        have hlater : LeavesOnly (j :: rest) (act j s) m :=
          { honly with others := fun i hi => honly.others i fun h => hi (List.mem_cons_of_mem j h) }
        refine ⟨m, hhead.trans hlater, hleaf.trans (hother k hkj), ?_, hend⟩
        rw [hsame k hkrest] at hbound
        omega

theorem State.leafIn_iff {s : State} {k : Nat} {l : Leaf} {st : LeafState} (h : s.leaf k = some l) :
    s.leafIn st k = true ↔ l.state = st := by
  simp [State.leafIn, State.leafState, h]

theorem warnLeaf_queue_counted (k : Nat) (s : State) :
    (warnLeaf k s).bus.doorQueue.length ≤ s.bus.doorQueue.length + (s.leafIn .released k).toNat := by
  unfold warnLeaf
  split
  · next h =>
    rw [show s.leafIn .released k = true from decide_eq_true h]
    exact enterLeaf_queue_le k _ s
  · exact Nat.le_add_right _ _

theorem evalVehicleProof_leafIn (s : State) (st : LeafState) (k : Nat) :
    (evalVehicleProof s).leafIn st k = s.leafIn st k := rfl

/-- At a round start only a leaf in START may write to class 1. -/
theorem leafStatusTold_queue_counted (k : Nat) (s : State) :
    (leafStatusTold k false s).bus.doorQueue.length ≤ s.bus.doorQueue.length + (s.leafIn .start k).toNat := by
  unfold leafStatusTold
  dsimp only
  split
  · next l status hl _ =>
    have hstate := State.leafIn_iff (st := .start) hl
    rw [evalVehicleProof_leafIn] at hstate
    unfold actOnStatus
    cases hst : l.state with
    | start =>
      rw [hstate.mpr hst]
      unfold firstStatus
      cases status with
      | closedLocked | isolatedLocked | isolatedOpen => exact enterLeaf_queue_le k _ (evalVehicleProof s)
      | opened | obstructed =>
        exact (enterLeaf_queue_le k _ _).trans_eq (by rw [modLeaf_bus]; rfl)
    | closed =>
      cases status with
      | opened | obstructed => exact (enterFault_queue k _ _).trans_le (Nat.le_add_right _ _)
      | _ => exact Nat.le_add_right _ _
    | _ => exact Nat.le_add_right _ _
  · exact Nat.le_add_right _ _

/-! ## RELEASED leaves at a round start -/

theorem enterFault_leafState (k value : Nat) (s : State) : (enterFault k value s).leafState k ≠ some .released := by
  unfold State.leafState
  intro h
  obtain ⟨l, hl, hstate⟩ := Option.map_eq_some_iff.mp h
  rw [enterFault_leaf] at hl
  obtain ⟨x, -, rfl⟩ := Option.map_eq_some_iff.mp hl
  cases hstate

theorem enterLeaf_not_released {st : LeafState} (hst : st ≠ .released) (k : Nat) (s : State) :
    (enterLeaf k st s).leafState k ≠ some .released := by
  unfold State.leafState
  intro h
  obtain ⟨l, hl, hstate⟩ := Option.map_eq_some_iff.mp h
  rcases enterLeaf_leaf k st s with hentered | ⟨-, hfault⟩
  · rw [hentered] at hl
    obtain ⟨x, -, rfl⟩ := Option.map_eq_some_iff.mp hl
    have hstate : enteredState s.store.content st = .released := hstate
    unfold enteredState at hstate
    split at hstate
    · cases hstate
    · exact hst hstate
  · rw [hl] at hfault
    obtain ⟨x, -, hx⟩ := Option.map_eq_some_iff.mp hfault.symm
    rw [hstate] at hx
    cases hx

theorem actOnStatus_not_released {k : Nat} {fromRead : Bool} {l : Leaf} {status : LeafStatus} {s : State}
    (hl : s.leaf k = some l) (h : l.state ≠ .released) :
    (actOnStatus k fromRead l status s).leafState k ≠ some .released := by
  have hstays : s.leafState k ≠ some .released := by
    rw [State.leafState_eq_some hl]
    exact fun heq => h (Option.some.inj heq)
  unfold actOnStatus
  cases hst : l.state with
  | start =>
    unfold firstStatus
    cases status with
    | closedLocked | isolatedLocked | isolatedOpen => exact enterLeaf_not_released (by decide) k s
    | opened | obstructed => exact enterLeaf_not_released (by decide) k _
  | closed =>
    cases status with
    | opened | obstructed => exact enterFault_leafState k _ s
    | _ => exact hstays
  | closing =>
    dsimp only
    split
    · cases status with
      | closedLocked => exact enterLeaf_not_released (by decide) k s
      | obstructed =>
        dsimp only
        rw [closeFailed_eq hl]
        split
        · exact enterFault_leafState k _ s
        · exact enterLeaf_not_released (by decide) k _
      | _ => exact hstays
    · exact hstays
  | fault =>
    dsimp only
    split
    · exact enterLeaf_not_released (by decide) k s
    · exact hstays
  | released => exact absurd hst h
  | _ => exact hstays

/-- No status makes a leaf RELEASED, and none changes a leaf that is. -/
theorem leafStatusTold_released_iff (k : Nat) (fromRead : Bool) (s : State) {l : Leaf} (h : l.state = .released) :
    (leafStatusTold k fromRead s).leaf k = some l ↔ s.leaf k = some l := by
  cases hx : s.leaf k with
  | none =>
    unfold leafStatusTold
    dsimp only
    rw [evalVehicleProof_leaf, hx]
    simp [hx]
  | some x =>
    rw [leafStatusTold_eq fromRead hx]
    cases s.leafStatus k with
    | none =>
      dsimp only
      rw [evalVehicleProof_leaf, hx]
    | some status =>
      dsimp only
      by_cases hreleased : x.state = .released
      · have hidle : actOnStatus k fromRead x status (evalVehicleProof s) = evalVehicleProof s := by
          unfold actOnStatus
          rw [hreleased]
        rw [hidle, evalVehicleProof_leaf, hx]
      · constructor
        · intro hl
          refine absurd ?_ (actOnStatus_not_released (fromRead := fromRead) (status := status)
            ((evalVehicleProof_leaf k s).trans hx) hreleased)
          rw [State.leafState_eq_some hl, h]
        · intro hl
          obtain rfl := Option.some.inj hl
          exact absurd h hreleased

theorem doorRoundStart_released_iff (k : Nat) (s : State) {l : Leaf} (h : l.state = .released) :
    (doorRoundStart s).leaf k = some l ↔ s.leaf k = some l := by
  have hact := fun k => leafStatusTold_leafOnly k false
  by_cases hk : k ∈ s.leafNumbers
  · obtain ⟨m, -, hleaf, -, hend⟩ := (foldl_leaf_counted (act := fun k s => leafStatusTold k false s) hact
      leafStatusTold_queue_counted s.leafNumbers_nodup (evalVehicleProof s)).2 k hk
    have hend : (doorRoundStart s).leaf k = (leafStatusTold k false m).leaf k := hend
    rw [hend, leafStatusTold_released_iff k false m h, hleaf, evalVehicleProof_leaf]
  · rw [(doorRoundStart_leavesOnly s).others k hk]

theorem doorRoundStart_queue (s : State) :
    (doorRoundStart s).bus.doorQueue.length ≤ s.bus.doorQueue.length + s.leafNumbers.countP (s.leafIn .start) :=
  (foldl_leaf_counted (act := fun k s => leafStatusTold k false s) (fun k => leafStatusTold_leafOnly k false)
    leafStatusTold_queue_counted s.leafNumbers_nodup (evalVehicleProof s)).1

/-- Leaves counted in one state and leaves counted in another are together no more than the leaves. -/
theorem countP_leafIn_le (s t : State) (ks : List Nat) (h : ∀ k, t.leafIn .released k = s.leafIn .released k) :
    ks.countP (s.leafIn .start) + ks.countP (t.leafIn .released) ≤ ks.length := by
  induction ks with
  | nil => simp
  | cons k rest ih =>
    rw [List.countP_cons, List.countP_cons, List.length_cons, h k]
    cases hstart : s.leafIn .start k with
    | false =>
      rw [if_neg Bool.false_ne_true]
      split <;> omega
    | true =>
      have hnot : s.leafIn .released k = false := by
        rw [State.leafIn, decide_eq_true_eq] at hstart
        rw [State.leafIn, decide_eq_false_iff_not, hstart]
        exact fun h => nomatch Option.some.inj h
      rw [hnot, if_pos rfl, if_neg Bool.false_ne_true]
      omega

end Sys2Proof.Machine
end

section
/-! A round start at a SETTLED node, and the outward pass of a sweep up to the proof tally (R69, R89 to R95, R125). -/

namespace Sys2Proof.Machine

open Sys2Proof

/-! ## The round before the units are told of it -/

/-- The round has started and its cab service is placed; the Door and Heat Units have not been told. -/
def roundPlaced (duration : Nat) (s : State) : State :=
  arbitrate (finishRound (placeCabEntry
    ((overrunRound (s.modBus fun b => { b with roundTimer := some duration })).modBus fun b =>
      { b.age with pointer := some 0, round := .inProgress })))

theorem roundStart_eq (duration : Nat) (s : State) :
    roundStart duration s = heatRoundStart (doorRoundStart (roundPlaced duration s)) := rfl

/-- The bus but for what an overrun and the end of a cab service move. -/
def Bus.overrunApart (b : Bus) : Bus :=
  { b.cabApart with pollRetry := none, pollPersist := .unstarted, overruns := 0, overrunHoldoff := none }

theorem Bus.detachPoll_apart (use : PollUse) (b : Bus) : (b.detachPoll use).overrunApart = b.overrunApart := by
  unfold Bus.detachPoll
  split <;> rfl

/-- A round that ends as an overrun moves its poll read and what it counts, and may raise ROUND-OVERRUN (R91). -/
theorem overrunRound_cases (s : State) :
    ∃ f : Bus → Bus, (f s.bus).overrunApart = s.bus.overrunApart
      ∧ (overrunRound s = s.modBus f ∨ ∃ n, overrunRound s = raise .roundOverrun 0#8 n (s.modBus f)) := by
  have hdetached := s.bus.detachPoll_apart .overrun
  unfold overrunRound
  split
  · dsimp only
    split
    · exact ⟨fun b => { b.detachPoll .overrun with
        overruns := satInc b.overruns, overrunHoldoff := some Config.overrunHoldoffMs }, hdetached, .inr ⟨_, rfl⟩⟩
    · exact ⟨fun b => { b.detachPoll .overrun with overruns := satInc b.overruns }, hdetached, .inl rfl⟩
  · exact ⟨id, rfl, .inl rfl⟩

/-- An overrun moves the bus, and what its notice brings about. -/
theorem overrunRound_spec (s : State) :
    (overrunRound s).door = s.door ∧ (overrunRound s).heat = s.heat ∧ (overrunRound s).sweep = s.sweep
      ∧ (overrunRound s).bus.overrunApart = s.bus.overrunApart := by
  obtain ⟨f, hf, heq | ⟨n, heq⟩⟩ := overrunRound_cases s
  · rw [heq]
    exact ⟨rfl, rfl, rfl, hf⟩
  · have hegress := raise_egress .roundOverrun 0#8 n (s.modBus f)
    rw [← heq] at hegress
    refine ⟨hegress.door, hegress.heat, hegress.sweep, ?_⟩
    rw [hegress.bus]
    exact hf

theorem finishRound_busOnly (s : State) : BusOnly s (finishRound s) := by
  unfold finishRound
  split
  · exact .modBus _ s
  · exact .refl s

theorem finishRound_bus (s : State) : ∃ r, (finishRound s).bus = { s.bus with round := r } := by
  unfold finishRound
  split
  · exact ⟨_, rfl⟩
  · exact ⟨s.bus.round, rfl⟩

/-- What a round start at a SETTLED node leaves alone before the units are told of it. -/
theorem roundPlaced_spec {duration : Nat} {s : State} (h : s.consist.state = .settled) :
    let u := roundPlaced duration s
    NodeKept False s u ∧ u.door = { s.door with trainProof := u.door.trainProof } ∧ u.heat = s.heat
      ∧ u.consist.activeMap = s.consist.activeMap ∧ u.consist.generation = s.consist.generation
      ∧ u.sweep.latched = s.sweep.latched ∧ u.bus.roundTimer = some duration ∧ u.bus.pointer = some 0
      ∧ u.bus.doorQueue.length = s.bus.doorQueue.length := by
  intro u
  obtain ⟨hdoor, hheat, hsweep, hbus⟩ := overrunRound_spec (s.modBus fun b => { b with roundTimer := some duration })
  have hconsist := overrunRound_consist (s.modBus fun b => { b with roundTimer := some duration })
  have hnode : NodeKept False s _ :=
    overrunRound_kept (modBus_kept (.refl s) fun b => { b with roundTimer := some duration })
  generalize hover : overrunRound (s.modBus fun b => { b with roundTimer := some duration }) = o at *
  have hcab : CabMove (o.modBus fun b => { b.age with pointer := some 0, round := .inProgress }) _ :=
    placeCabEntry_cabMove ((congrArg Consist.state hconsist).trans h)
  have hplaced : NodeKept False s _ := placeCabEntry_kept
    (modBus_kept hnode fun b => { b.age with pointer := some 0, round := .inProgress }) False.elim
  have hu : u = arbitrate (finishRound (placeCabEntry
      (o.modBus fun b => { b.age with pointer := some 0, round := .inProgress }))) := by
    rw [← hover]
    rfl
  generalize placeCabEntry (o.modBus fun b => { b.age with pointer := some 0, round := .inProgress }) = c at *
  have honly : BusOnly c u := by
    rw [hu]
    exact (finishRound_busOnly c).trans (arbitrate_busOnly _)
  obtain ⟨hlength, -, -, hrest⟩ := arbitrate_bus (finishRound c)
  obtain ⟨r, hround⟩ := finishRound_bus c
  rw [← hu] at hlength hrest
  have htimer : u.bus.roundTimer = c.bus.roundTimer := by
    have harbiter := congrArg Bus.roundTimer hrest
    rw [hround] at harbiter
    exact harbiter
  have hpointer : u.bus.pointer = c.bus.pointer := by
    have harbiter := congrArg Bus.pointer hrest
    rw [hround] at harbiter
    exact harbiter
  have hqueue : u.bus.doorQueue.length = c.bus.doorQueue.length := by
    rw [hround] at hlength
    exact hlength
  refine ⟨hplaced.trans (.of_busOnly honly), ?_, honly.heat.trans (hcab.heat.trans hheat), ?_, ?_, ?_, ?_, ?_, ?_⟩
  · rw [honly.door, hcab.door]
    exact congrArg (fun d : Door => { d with trainProof := c.door.trainProof }) hdoor
  · rw [honly.consist, hcab.map]
    exact congrArg Consist.activeMap hconsist
  · rw [honly.consist, hcab.generation]
    exact congrArg Consist.generation hconsist
  · rw [honly.sweep, hcab.sweep]
    exact congrArg Sweep.latched hsweep
  · have hkept := congrArg Bus.roundTimer hcab.bus
    have hset := congrArg Bus.roundTimer hbus
    exact htimer.trans (Eq.trans hkept hset)
  · exact hpointer.trans (congrArg Bus.pointer hcab.bus)
  · have hkept := congrArg (fun b : Bus => b.doorQueue.length) hcab.bus
    have hset := congrArg (fun b : Bus => b.doorQueue.length) hbus
    exact hqueue.trans (Eq.trans hkept hset)

/-! ## The outward pass -/

theorem outwardStart_eq (f : SweepOut) (s : State) :
    outwardStart f s =
      let m := roundStart (2 * clampPeriod f.period) (s.modSweep (Sweep.latchOut f))
      if f.bits.standstill then m else warnReleased m := rfl

/-- Between the placed round and the end of the outward start only the Door and Heat Units have moved. -/
theorem outwardStart_unitsMove (f : SweepOut) (s : State) :
    UnitsMove (roundPlaced (2 * clampPeriod f.period) (s.modSweep (Sweep.latchOut f))) (outwardStart f s) := by
  have htold := (doorRoundStart_unitsMove
    (roundPlaced (2 * clampPeriod f.period) (s.modSweep (Sweep.latchOut f)))).trans (heatRoundStart_unitsMove _)
  rw [outwardStart_eq]
  exact .ite htold (htold.trans (warnReleased_unitsMove _))

theorem outwardStart_stands (f : SweepOut) (s : State) : ProofStands (outwardStart f s) := by
  have hround : ProofStands (roundStart (2 * clampPeriod f.period) (s.modSweep (Sweep.latchOut f))) := by
    rw [roundStart_eq]
    exact (doorRoundStart_stands _).of_unitsMove (heatRoundStart_unitsMove _) (heatRoundStart_heatOnly _).door
  rw [outwardStart_eq]
  dsimp only
  split
  · exact hround
  · exact warnReleased_stands hround

/-! ## Class 1 and the leaves -/

theorem offerGroup_doorQueue (g count : Nat) (s : State) :
    (offerGroup g count s).bus.doorQueue.length = s.bus.doorQueue.length := by
  unfold offerGroup
  split
  · rfl
  · unfold offerHeatWrite
    dsimp only
    rw [(arbitrate_bus _).1]
    unfold State.modGroup
    split <;> rfl

theorem faultGroup_doorQueue (g : Nat) (cause : GroupFault) (s : State) :
    (faultGroup g cause s).bus.doorQueue.length = s.bus.doorQueue.length := by
  unfold faultGroup
  rw [raise_doorQueue, discardIncrease_eq]
  refine (offerGroup_doorQueue g 0 _).trans ?_
  unfold State.modGroup
  split <;> rfl

theorem groupRoundStart_doorQueue (g : Nat) (s : State) :
    (groupRoundStart g s).bus.doorQueue.length = s.bus.doorQueue.length := by
  unfold groupRoundStart
  split
  · rfl
  · next x _ =>
    have hmismatch : ∀ m, (s.modGroup g fun x => { x with mismatch := m }).bus.doorQueue.length = s.bus.doorQueue.length := by
      intro m
      unfold State.modGroup
      split <;> rfl
    split
    · exact offerGroup_doorQueue g 0 s
    · dsimp only
      split
      · exact (faultGroup_doorQueue g _ _).trans (hmismatch _)
      · exact hmismatch _

theorem heatRoundStart_doorQueue (s : State) :
    (heatRoundStart s).bus.doorQueue.length = s.bus.doorQueue.length := by
  unfold heatRoundStart
  generalize s.groupNumbers = gs
  induction gs generalizing s with
  | nil => rfl
  | cons g rest ih => exact (ih _).trans (groupRoundStart_doorQueue g s)

theorem roundPlaced_leaf {duration : Nat} {s : State} (h : s.consist.state = .settled) (k : Nat) :
    (roundPlaced duration s).leaf k = s.leaf k := by
  obtain ⟨-, hdoor, -⟩ := roundPlaced_spec (duration := duration) h
  unfold State.leaf
  rw [hdoor]

/-- A round start makes no leaf RELEASED, and leaves a RELEASED one as it is. -/
theorem roundStart_released_iff {duration : Nat} {s : State} (h : s.consist.state = .settled) (k : Nat) {l : Leaf}
    (hl : l.state = .released) : (roundStart duration s).leaf k = some l ↔ s.leaf k = some l := by
  rw [roundStart_eq, State.leaf_eq_of_door (heatRoundStart_heatOnly _).door, doorRoundStart_released_iff k _ hl,
    roundPlaced_leaf h]

theorem roundStart_leaves_length {duration : Nat} {s : State} (h : s.consist.state = .settled) :
    (roundStart duration s).door.leaves.length = s.door.leaves.length := by
  obtain ⟨-, hdoor, -⟩ := roundPlaced_spec (duration := duration) h
  rw [roundStart_eq, (heatRoundStart_heatOnly _).door, (doorRoundStart_leavesOnly _).count, hdoor]

/-- After a round start class 1 and the RELEASED leaves, which have yet to write, are no more than class 1 and the
leaves were before. -/
theorem roundStart_queue {duration : Nat} {s : State} (h : s.consist.state = .settled) :
    (roundStart duration s).bus.doorQueue.length
        + (roundStart duration s).leafNumbers.countP ((roundStart duration s).leafIn .released) ≤
      s.bus.doorQueue.length + s.door.leaves.length := by
  obtain ⟨-, hdoor, -, -, -, -, -, -, hqueue⟩ := roundPlaced_spec (duration := duration) h
  have hwrites := doorRoundStart_queue (roundPlaced duration s)
  have hnumbers : (roundStart duration s).leafNumbers = (roundPlaced duration s).leafNumbers := by
    unfold State.leafNumbers
    rw [roundStart_leaves_length h, hdoor]
  have hreleased : ∀ k, (roundStart duration s).leafIn .released k = (roundPlaced duration s).leafIn .released k := by
    intro k
    rw [Bool.eq_iff_iff, State.leafIn, State.leafIn, decide_eq_true_eq, decide_eq_true_eq]
    unfold State.leafState
    rw [Option.map_eq_some_iff, Option.map_eq_some_iff, roundPlaced_leaf h]
    exact exists_congr fun l => and_congr_left fun hl => roundStart_released_iff h k hl
  have hcount := countP_leafIn_le (roundPlaced duration s) (roundStart duration s) (roundPlaced duration s).leafNumbers
    hreleased
  rw [State.leafNumbers_length, hdoor] at hcount
  rw [hnumbers, roundStart_eq, heatRoundStart_doorQueue]
  rw [roundStart_eq] at hcount
  dsimp only at hcount
  omega

/-- What the outward pass makes of the RELEASED leaves (R125). -/
theorem outwardStart_leaves (f : SweepOut) {s : State} (h : s.consist.state = .settled) :
    (∀ k l, (outwardStart f s).leaf k = some l → l.state = .released →
        f.bits.standstill = true ∧ s.leaf k = some l)
      ∧ ∀ k l, s.leaf k = some l → l.state = .released →
        (f.bits.standstill = true → (outwardStart f s).leaf k = some l)
          ∧ (f.bits.standstill = false → ∃ l', (outwardStart f s).leaf k = some l'
              ∧ (l'.state = (if (outwardStart f s).store.content.warning = 0 then .closing else .warning)
                ∨ (l'.state = .fault ∧ 16 < s.bus.doorQueue.length + s.door.leaves.length))) := by
  have hsettled : (s.modSweep (Sweep.latchOut f)).consist.state = .settled := h
  have hround := roundStart_released_iff (duration := 2 * clampPeriod f.period) hsettled
  have hqueue := roundStart_queue (duration := 2 * clampPeriod f.period) hsettled
  rw [outwardStart_eq]
  dsimp only
  generalize roundStart (2 * clampPeriod f.period) (s.modSweep (Sweep.latchOut f)) = r at *
  have hleaf : ∀ k, (s.modSweep (Sweep.latchOut f)).leaf k = s.leaf k := fun k => rfl
  cases hbit : f.bits.standstill with
  | true =>
    rw [if_pos rfl]
    exact ⟨fun k l hl hstate => ⟨rfl, (hround k hstate).mp hl⟩,
      fun k l hl hstate => ⟨fun _ => (hround k hstate).mpr hl, fun hno => absurd hno (by decide)⟩⟩
  | false =>
    rw [if_neg Bool.false_ne_true]
    refine ⟨fun k l hl hstate => ?_, fun k l hl hstate => ⟨fun hno => absurd hno (by decide), fun _ => ?_⟩⟩
    · exfalso
      cases hx : r.leaf k with
      | none =>
        have hnot : k ∉ r.leafNumbers := fun hk => by
          obtain ⟨x, hsome⟩ := State.leaf_of_mem_leafNumbers hk
          rw [hx] at hsome
          cases hsome
        rw [(warnReleased_leavesOnly r).others k hnot, hx] at hl
        cases hl
      | some x =>
        obtain ⟨hstays, hwarns⟩ := warnReleased_leaf hx
        by_cases hxstate : x.state = .released
        · obtain ⟨l', hl', hcase⟩ := hwarns hxstate
          rw [hl] at hl'
          obtain rfl := Option.some.inj hl'
          rw [hstate] at hcase
          rcases hcase with hcase | ⟨hcase, -⟩
          · split at hcase <;> cases hcase
          · cases hcase
        · rw [hstays hxstate] at hl
          obtain rfl := Option.some.inj hl
          exact hxstate hstate
    · have hr := (hround k hstate).mpr hl
      obtain ⟨m, honly, hm, hbound, hend⟩ := (foldl_leaf_counted warnLeaf_leafOnly warnLeaf_queue_counted
        r.leafNumbers_nodup r).2 k (State.mem_leafNumbers_of_leaf hr)
      have hend : (warnReleased r).leaf k = (warnLeaf k m).leaf k := hend
      have hmleaf := hm.trans hr
      have hwarn : warnLeaf k m = enterLeaf k .warning m := by
        unfold warnLeaf
        rw [State.leafState_eq_some hmleaf, hstate]
      obtain ⟨l', hl', hcase⟩ := enterLeaf_warning_leaf hmleaf
      rw [(State.leafIn_iff hr).mpr hstate] at hbound
      rw [honly.store] at hcase
      refine ⟨l', by rw [hend, hwarn]; exact hl', ?_⟩
      rw [(warnReleased_leavesOnly r).store]
      refine hcase.imp id fun ⟨hfault, hfull⟩ => ⟨hfault, ?_⟩
      have hone : true.toNat = 1 := rfl
      have hqueue : r.bus.doorQueue.length + r.leafNumbers.countP (r.leafIn .released) ≤
        s.bus.doorQueue.length + s.door.leaves.length := hqueue
      omega

/-- What the outward pass of a SWEEP-OUT does at a SETTLED node before the proof tally (R69, R89, R125). -/
theorem outwardStart_started (f : SweepOut) {s : State} (h : s.consist.state = .settled) :
    OutwardStarted f s (outwardStart f s) := by
  obtain ⟨hnode, -, -, hmap, -, hlatched, htimer, hpointer, -⟩ :=
    roundPlaced_spec (duration := 2 * clampPeriod f.period) (s := s.modSweep (Sweep.latchOut f)) h
  have hmove := outwardStart_unitsMove f s
  have hstore : (outwardStart f s).store = s.store := hmove.store.trans hnode.store
  obtain ⟨hnone, hwas⟩ := outwardStart_leaves f h
  rw [hstore] at hwas
  have hsweep : (outwardStart f s).sweep.latched = (s.modSweep (Sweep.latchOut f)).sweep.latched := by
    rw [hmove.sweep, hlatched]
  have hround := congrArg Bus.roundTimer hmove.bus
  have hpoint := congrArg Bus.pointer hmove.bus
  have hlatch := congrArg Sweep.latch hsweep
  have hbits := congrArg Sweep.bits hsweep
  have hfresh := congrArg Sweep.freshness hsweep
  have hperiod := congrArg Sweep.latchedPeriod hsweep
  have hstagger := congrArg Sweep.latchedStagger hsweep
  refine ⟨hlatch, hbits, hfresh, hperiod, hstagger, Eq.trans hround htimer, Eq.trans hpoint hpointer,
    hstore, hmove.pins.trans hnode.pins, hmove.identity.trans hnode.identity,
    (congrArg Consist.activeMap hmove.consist).trans hmap, outwardStart_stands f s, hnone, hwas⟩


end Sys2Proof.Machine
end

section
/-! The return of the Heat Unit does not see the Sweep Unit but for its latched period (R156 to R161). -/

namespace Sys2Proof.Machine

open Sys2Proof

theorem modBus_modSweep (f : Bus → Bus) (w : Sweep → Sweep) (s : State) :
    (s.modSweep w).modBus f = (s.modBus f).modSweep w := rfl

theorem modHeat_modSweep (f : Heat → Heat) (w : Sweep → Sweep) (s : State) :
    (s.modSweep w).modHeat f = (s.modHeat f).modSweep w := rfl

theorem startNext_modSweep (w : Sweep → Sweep) (s : State) :
    startNext (s.modSweep w) = (startNext s).map fun t => t.modSweep w := by
  have hpoll : nextPoll (s.modSweep w) = nextPoll s := rfl
  unfold startNext
  rw [State.modSweep_bus, hpoll]
  cases startFirst [] s.bus.doorQueue with
  | some q => rfl
  | none =>
    cases startFirst [] s.bus.heatQueue with
    | some q => rfl
    | none =>
      cases nextCabTransfer s.bus with
      | some x => rfl
      | none =>
        cases startFirst [] s.bus.remoteQueue with
        | some q => rfl
        | none => cases nextPoll s <;> rfl

theorem arbitrate_modSweep (w : Sweep → Sweep) (s : State) : arbitrate (s.modSweep w) = (arbitrate s).modSweep w := by
  unfold arbitrate
  rw [State.modSweep_bus, startNext_modSweep]
  split
  · cases startNext s <;> rfl
  · rfl

theorem offerHeatWrite_modSweep (w : Sweep → Sweep) (g : Nat) (station item : Byte) (count : Nat) (s : State) :
    offerHeatWrite g station item count (s.modSweep w) = (offerHeatWrite g station item count s).modSweep w := by
  unfold offerHeatWrite
  rw [State.modSweep_bus]
  dsimp only
  rw [modBus_modSweep, arbitrate_modSweep]

theorem modGroup_modSweep (w : Sweep → Sweep) (g : Nat) (f : Group → Group) (s : State) :
    (s.modSweep w).modGroup g f = (s.modGroup g f).modSweep w := by
  unfold State.modGroup
  split <;> rfl

theorem offerGroup_modSweep (w : Sweep → Sweep) (g count : Nat) (s : State) :
    offerGroup g count (s.modSweep w) = (offerGroup g count s).modSweep w := by
  have hconfig : (s.modSweep w).groupConfig g = s.groupConfig g := rfl
  unfold offerGroup
  rw [hconfig]
  cases s.groupConfig g with
  | none => rfl
  | some c =>
    dsimp only
    rw [modGroup_modSweep, offerHeatWrite_modSweep]

theorem lowerGroup_modSweep (w : Sweep → Sweep) (g count : Nat) (s : State) :
    lowerGroup g count (s.modSweep w) = (lowerGroup g count s).modSweep w := by
  have hgroup : (s.modSweep w).group g = s.group g := rfl
  unfold lowerGroup
  rw [hgroup, offerGroup_modSweep]
  cases s.group g with
  | none => rfl
  | some x =>
    dsimp only
    split <;> rfl

theorem lowerGroups_modSweep (w : Sweep → Sweep) (counts : List Nat) (s : State) :
    lowerGroups counts (s.modSweep w) = (lowerGroups counts s).modSweep w := by
  have hnumbers : (s.modSweep w).groupNumbers = s.groupNumbers := rfl
  unfold lowerGroups
  rw [hnumbers]
  exact List.foldl_hom (fun s => s.modSweep w) (g₁ := fun s (gf : Nat × Nat) => lowerGroup gf.1 gf.2 s)
    (g₂ := fun s (gf : Nat × Nat) => lowerGroup gf.1 gf.2 s) fun s gf => lowerGroup_modSweep w gf.1 gf.2 s

theorem updateIncrease_modSweep {w : Sweep → Sweep} {s : State} (h : (w s.sweep).latchedPeriod = s.sweep.latchedPeriod)
    (fitted : List Nat) : updateIncrease fitted (s.modSweep w) = (updateIncrease fitted s).modSweep w := by
  have hincrease : (s.modSweep w).heat.increase = s.heat.increase := rfl
  have hformed : formedIncrease fitted (s.modSweep w) = formedIncrease fitted s := by
    unfold formedIncrease Sweep.usedPeriod
    rw [State.modSweep_sweep, h, State.modSweep_heat]
  cases hinc : s.heat.increase with
  | none =>
    rw [updateIncrease_absent fitted hinc, updateIncrease_absent fitted (hincrease.trans hinc), hformed]
    rfl
  | some inc =>
    cases hshort : fallsShort fitted inc.targets with
    | true =>
      rw [updateIncrease_short hinc hshort, updateIncrease_short (hincrease.trans hinc) hshort, hformed]
      rfl
    | false =>
      rw [updateIncrease_reached hinc hshort, updateIncrease_reached (hincrease.trans hinc) hshort]
      rfl

/-- A return with allotment comes out alike whatever else the Sweep Unit holds. -/
theorem allottedReturn_modSweep {w : Sweep → Sweep} {s : State} (l : HeatLatch) (r : Nat)
    (h : ∀ v, (w v).latchedPeriod = v.latchedPeriod) :
    allottedReturn l r (s.modSweep w) = ((allottedReturn l r s).1, (allottedReturn l r s).2.modSweep w) := by
  have hcounts : fittedCounts l r (s.modSweep w) = fittedCounts l r s := rfl
  have htaken : heatTaken l r (s.modSweep w) = heatTaken l r s := rfl
  have hlowered : heatLowered l r (s.modSweep w) = (heatLowered l r s).modSweep w := by
    unfold heatLowered
    rw [hcounts, htaken, modHeat_modSweep, lowerGroups_modSweep]
  rw [allottedReturn_eq, allottedReturn_eq, hcounts, htaken, hlowered, updateIncrease_modSweep (h _)]
  generalize updateIncrease (fittedCounts l r s) (heatLowered l r s) = t
  have hperiod : (t.modSweep w).sweep.usedPeriod = t.sweep.usedPeriod := by
    unfold Sweep.usedPeriod
    rw [State.modSweep_sweep, h]
  dsimp only
  rw [hperiod]
  rfl

end Sys2Proof.Machine
end

section
/-! A SWEEP-OUT at a node that is not head (R69, R70). -/

namespace Sys2Proof.Machine

open Sys2Proof

/-! ## Reading a SWEEP-OUT (R198) -/

theorem readSweepOut_length {payload : List Byte} (h : payload.length ≠ 19) : readSweepOut payload = none := by
  unfold readSweepOut
  split
  · exact absurd rfl h
  · rfl

/-- A SWEEP-OUT is read with its sequence, period, stagger step and bits, and whole where every field fits, an
allowance above 2000 as 2000. -/
theorem readSweepOut_payload {f : SweepOut} (hperiod : f.period < 65536) (hstagger : f.stagger < 65536) :
    ∃ g, readSweepOut (sweepOutPayload f) = some g ∧ g.sequence = f.sequence ∧ g.period = f.period
      ∧ g.stagger = f.stagger ∧ g.bits = f.bits ∧ g.allowance ≤ 2000
      ∧ (f.tally.Fits → f.allowance < 65536 → f.dSum < 65536 → f.wSum < 65536 →
          g = { f with allowance := min f.allowance 2000 }) := by
  obtain ⟨hstandstill, hleft, hright⟩ := flagsByte_reads f.bits.standstill f.bits.enableLeft f.bits.enableRight
  refine ⟨_, rfl, rfl, num16_byteOf hperiod, num16_byteOf hstagger, ?_, Nat.min_le_right _ _,
    fun htally hallowance hdemand hweight => ?_⟩
  · simp only [hstandstill, hleft, hright]
  · simp only [tallyOf_tallyBytes htally, num16_byteOf hperiod, num16_byteOf hstagger, num16_byteOf hdemand,
      num16_byteOf hweight, num16_byteOf hallowance, hstandstill, hleft, hright]

/-- The outward start of a SWEEP-OUT looks at its sequence, its bits, its period and its stagger step. -/
theorem outwardStart_congr {f g : SweepOut} (hsequence : g.sequence = f.sequence) (hperiod : g.period = f.period)
    (hstagger : g.stagger = f.stagger) (hbits : g.bits = f.bits) (s : State) : outwardStart g s = outwardStart f s := by
  unfold outwardStart Sweep.latchOut
  rw [hsequence, hperiod, hstagger, hbits]

/-! ## Frames handed on after quiet work -/

theorem NodeKept.carries {quiet : Prop} {s t : State} (h : NodeKept quiet s t) (p : PortId) :
    (t.port p).carries = (s.port p).carries := by
  have hlink := congrArg Port.link (h.link p)
  unfold Port.carries
  rw [show (t.port p).link = (s.port p).link from hlink]

/-- An urgent frame offered where nothing else urgent has been handed over since joins the lane. -/
theorem offerFrame_joins {q : PortId} {f : Frame} {s u : State} (hkind : isNormalKind f.kind = false)
    (hrun : LaneRun [] (s.port q) (u.port q)) (hcarries : (u.port q).carries = (s.port q).carries) :
    JoinsUrgent q f s (offerFrame q f u) := by
  refine JoinsLane.of_run fun hc hroom => ?_
  have hjoined := offer_laneRun_urgent (e := { frame := f, mark := .plain }) hkind (hcarries.trans hc)
    (hrun.length_le.trans_lt hroom)
  exact hrun.trans hjoined

theorem countGood_laneRun (p q : PortId) (s : State) :
    LaneRun [] (s.port q) ((s.modPort p Port.countGood).port q) := by
  rcases PortId.eq_or_eq_other p q with rfl | rfl
  · rw [State.modPort_port_self]
    exact .of_same (by simp) (by simp)
  · rw [State.modPort_port_other]
    exact .refl _

theorem exec_sweepOut {p : PortId} {h : Header} {payload : List Byte} {s : State}
    (ha : Accepted p 0x07#8 h payload s) :
    exec (.sweepOut p h payload) s =
      .next (finish (relaySweepOut p { kind := 0x07#8, header := h, payload := payload }
        (s.modPort p Port.countGood))) :=
  live_accepted ha (by decide) (by decide)

/-! ## The place of a node in its consist -/

theorem State.position_of_map {s t : State} (hmap : t.consist.activeMap = s.consist.activeMap)
    (hidentity : t.identity = s.identity) : t.position = s.position := by
  simp only [State.position, positionIn, hmap, hidentity]

theorem State.headPort_of_map {s t : State} (hmap : t.consist.activeMap = s.consist.activeMap)
    (hidentity : t.identity = s.identity) : t.headPort = s.headPort := by
  simp only [State.headPort, State.orientation, ownEntry, hmap, hidentity]

theorem State.tailPort_of_map {s t : State} (hmap : t.consist.activeMap = s.consist.activeMap)
    (hidentity : t.identity = s.identity) : t.tailPort = s.tailPort := by
  rw [State.tailPort, State.tailPort, State.headPort_of_map hmap hidentity]

theorem State.n_of_map {s t : State} (hmap : t.consist.activeMap = s.consist.activeMap) : t.n = s.n := by
  simp only [State.n, hmap]

/-- An urgent link-local frame as a SETTLED node builds it (R1). -/
theorem buildFrame_settled {s : State} {kind : Byte} (payload : List Byte) (h : s.consist.state = .settled)
    (hflags : laneFlags kind = 1#8) :
    buildFrame s kind 0#8 0#8 payload =
      { kind := kind, header := linkLocal s.consist.generation (byteOf s.position), payload := payload } := by
  have hsource : s.sourcePosition = byteOf s.position := if_pos (decide_eq_true h)
  rw [buildFrame, buildFrameIn, hsource, hflags]
  rfl

/-! ## The outward pass at a node that is no head -/

theorem allottedReturn_heatOnly (l : HeatLatch) (r : Nat) (s : State) : HeatOnly s (allottedReturn l r s).2 := by
  obtain ⟨inc, discards, hupdate⟩ := updateIncrease_eq (fittedCounts l r s) (heatLowered l r s)
  rw [allottedReturn_eq, hupdate]
  dsimp only
  exact (((modHeat_heatOnly _ s).trans (heatLowered_groupsOnly l r s).heatOnly).trans (modHeat_heatOnly _ _)).trans
    (modHeat_heatOnly _ _)

/-- The outward start at a SETTLED node, beside `OutwardStarted`: nothing goes on to the line but notices. -/
theorem outwardStart_follower (f : SweepOut) {s : State} (h : s.consist.state = .settled)
    (hstatus : s.consist.status ≠ .valid) :
    NodeKept True s (outwardStart f s) ∧ (outwardStart f s).consist.state = .settled
      ∧ (outwardStart f s).consist.status ≠ .valid
      ∧ (outwardStart f s).consist.generation = s.consist.generation := by
  have hround := roundStart_consist (2 * clampPeriod f.period) (s.modSweep (Sweep.latchOut f))
  obtain ⟨-, -, -, -, hgeneration, -⟩ :=
    roundPlaced_spec (duration := 2 * clampPeriod f.period) (s := s.modSweep (Sweep.latchOut f)) h
  have hover := overrunRound_consist ((s.modSweep (Sweep.latchOut f)).modBus fun b =>
    { b with roundTimer := some (2 * clampPeriod f.period) })
  have hfollower := placeCabEntry_staysFollower ((overrunRound ((s.modSweep (Sweep.latchOut f)).modBus fun b =>
    { b with roundTimer := some (2 * clampPeriod f.period) })).modBus fun b =>
      { b.age with pointer := some 0, round := .inProgress }) (by
        rw [State.modBus_consist, hover]
        exact hstatus)
  rw [State.modBus_consist, hover, ← hround, ← outwardStart_consist] at hfollower
  exact ⟨outwardStart_kept (.refl s) f fun _ hvalid => absurd hvalid hstatus, hfollower.2.trans h, hfollower.1,
    (congrArg Consist.generation (outwardStart_unitsMove f s).consist).trans hgeneration⟩

theorem sweepOutward_eq (f : SweepOut) (s : State) :
    sweepOutward f s =
      let m := outwardStart f s
      let out := heatOutward { f with tally := tallyVehicle m f.tally } m
      if out.2.position = out.2.n ∨ !(out.2.port out.2.tailPort).carries then matchedReturn (turnedRound out.1) out.2
      else offerFrame out.2.tailPort (buildFrame out.2 0x07#8 0#8 0#8 (sweepOutPayload out.1)) out.2 := rfl

/-- A matching return at a node whose Heat Unit holds a latch of its sequence (R71, R157). -/
theorem matchedReturn_allotted {f : SweepBack} {l : HeatLatch} {s : State} (h : s.heat.latch = some l)
    (hsequence : l.sequence = f.sequence) :
    matchedReturn f s =
      sendBack (sweepBackPayload { f with allowance := (allottedReturn l f.allowance s).1 })
        ((allottedReturn l f.allowance s).2.modSweep Sweep.markReturned) := by
  have hback : heatReturn f.sequence f.allowance true (s.modSweep Sweep.markReturned) =
      ((allottedReturn l f.allowance s).1, (allottedReturn l f.allowance s).2.modSweep Sweep.markReturned) := by
    rw [← allottedReturn_modSweep (w := Sweep.markReturned) l f.allowance fun _ => rfl]
    unfold heatReturn
    rw [if_pos rfl, State.modSweep_heat, h]
    exact if_pos hsequence
  rw [matchedReturn_eq, hback]

theorem heatOutward_latch (f : SweepOut) (s : State) : (heatOutward f s).2.heat.latch = some (heatLatched f s) := by
  rw [heatOutward_eq]
  exact startStagger_latch _

theorem OutwardStarted.congr {f : SweepOut} {s s' m : State} (h : OutwardStarted f s m) (hstore : s'.store = s.store)
    (hpins : s'.pins = s.pins) (hidentity : s'.identity = s.identity) (hconsist : s'.consist = s.consist)
    (hdoor : s'.door = s.door) (hbus : s'.bus = s.bus) : OutwardStarted f s' m := by
  unfold OutwardStarted State.leaf at h ⊢
  rw [hstore, hpins, hidentity, hconsist, hdoor, hbus]
  exact h

/-- The frame of a SWEEP-OUT read here, with the tally this vehicle has added itself to. -/
def SweepOut.tallied (g : SweepOut) (m : State) : SweepOut := { g with tally := tallyVehicle m g.tally }

/-- A SWEEP-BACK goes out head-ward with the place and the generation the node has in its consist. -/
theorem sendBack_settled {s u : State} (payload : List Byte) (hmap : u.consist.activeMap = s.consist.activeMap)
    (hidentity : u.identity = s.identity) (hsettled : u.consist.state = .settled)
    (hgeneration : u.consist.generation = s.consist.generation) :
    sendBack payload u =
      offerFrame s.headPort
        { kind := 0x08#8, header := linkLocal s.consist.generation (byteOf s.position), payload := payload } u := by
  unfold sendBack
  rw [buildFrame_settled payload hsettled (by decide), State.headPort_of_map hmap hidentity,
    State.position_of_map hmap hidentity, hgeneration]
  rfl

/-- A SWEEP-OUT that goes on, and one that is turned round, once the outward start has been made. -/
theorem sweepOutward_cases {g : SweepOut} {s : State} (h : s.consist.state = .settled)
    (hstatus : s.consist.status ≠ .valid) :
    let m := outwardStart g s
    let out := heatOutward (g.tallied m) m
    let header := linkLocal s.consist.generation (byteOf s.position)
    (s.position ≠ s.n → (s.port s.tailPort).carries = true →
        sweepOutward g s =
          offerFrame s.tailPort { kind := 0x07#8, header := header, payload := sweepOutPayload out.1 } out.2)
      ∧ ((s.position = s.n ∨ (s.port s.tailPort).carries = false) →
        let back := allottedReturn (heatLatched (g.tallied m) m) g.allowance out.2
        sweepOutward g s =
          offerFrame s.headPort
            { kind := 0x08#8, header := header
              payload := sweepBackPayload { sequence := g.sequence, tally := out.1.tally, allowance := back.1 } }
            (back.2.modSweep Sweep.markReturned)) := by
  intro m out header
  obtain ⟨hkept, hsettled, -, hgeneration⟩ := outwardStart_follower g h hstatus
  obtain ⟨-, -, -, -, -, -, -, -, -, -, hmap, -⟩ := outwardStart_started g h
  have honly : HeatOnly m out.2 := heatOutward_heatOnly _ m
  have hnode : NodeKept True s out.2 := heatOutward_kept hkept _
  have houtmap : out.2.consist.activeMap = s.consist.activeMap := (congrArg Consist.activeMap honly.consist).trans hmap
  have houtsettled : out.2.consist.state = .settled := (congrArg Consist.state honly.consist).trans hsettled
  have houtgeneration : out.2.consist.generation = s.consist.generation :=
    (congrArg Consist.generation honly.consist).trans hgeneration
  have hposition := State.position_of_map houtmap hnode.identity
  have hhead := State.headPort_of_map houtmap hnode.identity
  have htail := State.tailPort_of_map houtmap hnode.identity
  have hn := State.n_of_map houtmap
  have hcarries := hnode.carries s.tailPort
  have hout : sweepOutward g s =
      if s.position = s.n ∨ !(s.port s.tailPort).carries then matchedReturn (turnedRound out.1) out.2
      else offerFrame s.tailPort (buildFrame out.2 0x07#8 0#8 0#8 (sweepOutPayload out.1)) out.2 := by
    rw [← hposition, ← hn, ← hcarries, ← htail]
    exact sweepOutward_eq g s
  refine ⟨fun hmiddle hcarry => ?_, fun hturn => ?_⟩
  · rw [hout, if_neg (by simp [hmiddle, hcarry]), buildFrame_settled _ houtsettled rfl, houtgeneration, hposition]
  · intro back
    have hlatch : out.2.heat.latch = some (heatLatched (g.tallied m) m) := heatOutward_latch _ m
    have hmatched : matchedReturn (turnedRound out.1) out.2 =
        sendBack (sweepBackPayload { sequence := g.sequence, tally := out.1.tally, allowance := back.1 })
          (back.2.modSweep Sweep.markReturned) := matchedReturn_allotted hlatch rfl
    have hback : HeatOnly out.2 back.2 := allottedReturn_heatOnly _ _ _
    have hconsist : (back.2.modSweep Sweep.markReturned).consist = out.2.consist :=
      (State.modSweep_consist _ _).trans hback.consist
    have hidentity : (back.2.modSweep Sweep.markReturned).identity = s.identity :=
      (State.modSweep_identity _ _).trans (hback.identity.trans hnode.identity)
    rw [hout, if_pos (by simpa using hturn), hmatched]
    clear_value back
    generalize back.2.modSweep Sweep.markReturned = u at hconsist hidentity ⊢
    exact sendBack_settled _ (by rw [hconsist, houtmap]) hidentity (by rw [hconsist, houtsettled])
      (by rw [hconsist, houtgeneration])

theorem UnitsMove.roundTimer {s t : State} (h : UnitsMove s t) : t.bus.roundTimer = s.bus.roundTimer := by
  have hbus := congrArg Bus.roundTimer h.bus
  exact hbus

theorem EgressOnly.roundTimer {s t : State} (h : EgressOnly s t) : t.bus.roundTimer = s.bus.roundTimer := by
  rw [h.bus]

/-- Settles O28. -/
theorem sweepOutIsLatched : Obligations.SweepOutIsLatched := by
  refine ⟨fun p h payload s ha hlength => ?_, fun p h f s hperiod hstagger ha => ?_⟩
  · have hread := readSweepOut_length hlength
    rw [exec_sweepOut ha]
    refine ⟨fun hport => ?_, fun hport => ?_⟩
    · unfold relaySweepOut
      rw [State.modPort_headPort, if_neg (not_not.mpr hport), hread]
      rfl
    · unfold relaySweepOut
      rw [State.modPort_headPort, if_pos hport]
      rfl
  · obtain ⟨g, hread, hsequence, hperiod', hstagger', hbits, hallowance, hwhole⟩ :=
      readSweepOut_payload hperiod hstagger
    have hsettled : s.consist.state = .settled := ((State.settledIn_iff _ _).mp (ha.2.2.2.2 rfl)).1
    rw [exec_sweepOut ha]
    refine ⟨fun hport hstatus => ?_, fun hport hstatus => ?_, fun hport => ?_⟩
    · intro period
      have hrelay : relaySweepOut p { kind := 0x07#8, header := h, payload := sweepOutPayload f }
          (s.modPort p Port.countGood) = sweepOutward g (s.modPort p Port.countGood) := by
        unfold relaySweepOut
        rw [State.modPort_headPort, if_neg (not_not.mpr hport), hread, State.modPort_actsAsHead]
        exact if_neg (by simp [State.actsAsHead, hstatus])
      rw [hrelay]
      have hconsist : (s.modPort p Port.countGood).consist = s.consist := State.modPort_consist ..
      have hlanes := modPort_countGood_lanes p (s := s)
      have hrun := fun q => countGood_laneRun p q s
      have hposition : (s.modPort p Port.countGood).position = s.position := State.modPort_position ..
      have hhead : (s.modPort p Port.countGood).headPort = s.headPort := State.modPort_headPort ..
      have htail : (s.modPort p Port.countGood).tailPort = s.tailPort := State.modPort_tailPort ..
      have hn : (s.modPort p Port.countGood).n = s.n := State.modPort_n ..
      have hstarted : OutwardStarted f s (outwardStart f (s.modPort p Port.countGood)) :=
        (outwardStart_started f (hconsist ▸ hsettled)).congr (State.modPort_store ..).symm (State.modPort_pins ..).symm
          (State.modPort_identity ..).symm hconsist.symm (State.modPort_door ..).symm (State.modPort_bus ..).symm
      obtain ⟨hgoes, hturns⟩ := sweepOutward_cases (g := g) (s := s.modPort p Port.countGood)
        (hconsist ▸ hsettled) (hconsist ▸ hstatus)
      have hsame := outwardStart_congr hsequence hperiod' hstagger' hbits (s.modPort p Port.countGood)
      obtain ⟨hnode, hmsettled, -, hmgeneration⟩ := outwardStart_follower f
        (s := s.modPort p Port.countGood) (hconsist ▸ hsettled) (hconsist ▸ hstatus)
      rw [hposition, hn, htail, (hlanes s.tailPort).1, hsame, hconsist] at hgoes
      rw [hposition, hn, htail, (hlanes s.tailPort).1, hhead, hsame, hconsist] at hturns
      rw [hconsist] at hmgeneration
      generalize s.modPort p Port.countGood = s₁ at *
      have hoted := (heatOutward_heatWrites (g.tallied (outwardStart f s₁)) (outwardStart f s₁)).unitsMove
      have honly := heatOutward_heatOnly (g.tallied (outwardStart f s₁)) (outwardStart f s₁)
      have houtnode : NodeKept True s₁ (heatOutward (g.tallied (outwardStart f s₁)) (outwardStart f s₁)).2 :=
        heatOutward_kept hnode _
      have hlatched := heatOutward_latch (g.tallied (outwardStart f s₁)) (outwardStart f s₁)
      have hlater := fun q => (hrun q).trans (houtnode.lanes trivial q)
      have hcarries := fun q => (houtnode.carries q).trans (hlanes q).1
      generalize hm : outwardStart f s₁ = m at *
      have hfirst := hstarted
      obtain ⟨hlatch, hmbits, hfresh, hmperiod, hmstagger, htimer, -, -, -, -, hmap, -⟩ := hfirst
      have hsent : ∃ t, sweepOutward g s₁ = t
          ∧ t.sweep = { m.sweep with
              latch := some { sequence := f.sequence
                              returned := decide (s.position = s.n) || !(s.port s.tailPort).carries } }
          ∧ t.bus.roundTimer = m.bus.roundTimer ∧ t.consist = m.consist ∧ t.door = m.door
          ∧ (s.position ≠ s.n → (s.port s.tailPort).carries = true →
              t.heat = (heatOutward (g.tallied m) m).2.heat
                ∧ JoinsUrgent s.tailPort
                    { kind := 0x07#8, header := linkLocal s.consist.generation (byteOf s.position)
                      payload := sweepOutPayload (heatOutward (g.tallied m) m).1 } s t)
          ∧ ((s.position = s.n ∨ (s.port s.tailPort).carries = false) →
              let back := allottedReturn (heatLatched (g.tallied m) m) g.allowance (heatOutward (g.tallied m) m).2
              t.heat = back.2.heat ∧ back.1 + t.heat.take = g.allowance
                ∧ JoinsUrgent s.headPort
                    { kind := 0x08#8, header := linkLocal s.consist.generation (byteOf s.position)
                      payload := sweepBackPayload
                        { sequence := g.sequence, tally := (heatOutward (g.tallied m) m).1.tally, allowance := back.1 } }
                    s t) := by
        by_cases hturn : s.position = s.n ∨ (s.port s.tailPort).carries = false
        · have hreturned := hturns hturn
          obtain ⟨hsum, -, -⟩ := allottedReturn_take (l := heatLatched (g.tallied m) m) (r := g.allowance)
            (heatOutward (g.tallied m) m).2 hallowance
          have hmove := (allottedReturn_heatWrites (heatLatched (g.tallied m) m) g.allowance (heatOutward (g.tallied m) m).2).unitsMove
          have hheat := allottedReturn_heatOnly (heatLatched (g.tallied m) m) g.allowance (heatOutward (g.tallied m) m).2
          have hback : NodeKept True s₁
              (allottedReturn (heatLatched (g.tallied m) m) g.allowance (heatOutward (g.tallied m) m).2).2 :=
            allottedReturn_kept houtnode _ _
          dsimp only at hreturned
          generalize hbackeq : allottedReturn (heatLatched (g.tallied m) m) g.allowance (heatOutward (g.tallied m) m).2 =
            back at *
          have hegress := offer_egress s.headPort { frame := { kind := 0x08#8
                                                               header := linkLocal s.consist.generation (byteOf s.position)
                                                               payload := sweepBackPayload
                                                                 { sequence := g.sequence
                                                                   tally := (heatOutward (g.tallied m) m).1.tally
                                                                   allowance := back.1 } }
                                                    mark := .plain } (back.2.modSweep Sweep.markReturned)
          have hjoins := offerFrame_joins (q := s.headPort) (s := s) (u := back.2.modSweep Sweep.markReturned)
            (f := { kind := 0x08#8, header := linkLocal s.consist.generation (byteOf s.position)
                    payload := sweepBackPayload { sequence := g.sequence, tally := (heatOutward (g.tallied m) m).1.tally
                                                  allowance := back.1 } })
            rfl (by
              rw [State.modSweep_port]
              exact (hrun _).trans (hback.lanes trivial _)) (by
              rw [State.modSweep_port]
              exact (hback.carries _).trans (hlanes _).1)
          rw [hreturned]
          unfold offerFrame at hjoins ⊢
          generalize offer s.headPort _ (back.2.modSweep Sweep.markReturned) = t at *
          have hsweep : t.sweep = m.sweep.markReturned := by
            rw [hegress.sweep, State.modSweep_sweep, hmove.sweep, hoted.sweep]
          have hreturns : (decide (s.position = s.n) || !(s.port s.tailPort).carries) = true := by simpa using hturn
          refine ⟨t, rfl, ?_, ?_, ?_, ?_, fun hmiddle hcarry => absurd hturn (by simp [hmiddle, hcarry]),
            fun _ => ⟨?_, ?_, hjoins⟩⟩
          · rw [hsweep, Sweep.markReturned, hlatch, hreturns]
            rfl
          · rw [hegress.roundTimer, State.modSweep_bus, hmove.roundTimer, hoted.roundTimer]
          · rw [hegress.consist, State.modSweep_consist, hheat.consist, honly.consist]
          · rw [hegress.door, State.modSweep_door, hheat.door, honly.door]
          · rw [hegress.heat, State.modSweep_heat]
          · rw [hegress.heat, State.modSweep_heat]
            exact hsum
        · obtain ⟨hmiddle, hcarry⟩ : s.position ≠ s.n ∧ (s.port s.tailPort).carries = true := by
            rw [not_or, Bool.not_eq_false] at hturn
            exact hturn
          have hpassed := hgoes hmiddle hcarry
          have hegress := offer_egress s.tailPort
            { frame := { kind := 0x07#8, header := linkLocal s.consist.generation (byteOf s.position)
                         payload := sweepOutPayload (heatOutward (g.tallied m) m).1 }
              mark := .plain } (heatOutward (g.tallied m) m).2
          have hjoins := offerFrame_joins (q := s.tailPort) (s := s) (u := (heatOutward (g.tallied m) m).2)
            (f := { kind := 0x07#8, header := linkLocal s.consist.generation (byteOf s.position)
                    payload := sweepOutPayload (heatOutward (g.tallied m) m).1 })
            rfl (hlater _) (hcarries _)
          rw [hpassed]
          unfold offerFrame at hjoins ⊢
          generalize offer s.tailPort _ (heatOutward (g.tallied m) m).2 = t at *
          have hsweep : t.sweep = m.sweep := hegress.sweep.trans hoted.sweep
          refine ⟨t, rfl, ?_, ?_, ?_, ?_, fun _ _ => ⟨hegress.heat, hjoins⟩, fun hno => absurd hno hturn⟩
          · rw [hsweep]
            simp [hmiddle, hcarry, ← hlatch]
          · rw [hegress.roundTimer, hoted.roundTimer]
          · rw [hegress.consist, honly.consist]
          · rw [hegress.door, honly.door]
      obtain ⟨t, heq, hsweep, hround, hunit, hdoor, hpasses, hturned⟩ := hsent
      refine ⟨t, by rw [heq], by rw [hsweep], by rw [hsweep, hmbits], by rw [hsweep, hfresh], by rw [hsweep, hmperiod],
        by rw [hsweep, hmstagger], by rw [hround, htimer], by rw [hunit, hmsettled, hsettled],
        by rw [hunit, hmgeneration], by rw [hunit, hmap], fun h1 h2 h3 h4 h5 h6 h7 h8 => ?_⟩
      obtain rfl := hwhole ⟨h1, h2, h3, h4, h5⟩ h6 h7 h8
      exact ⟨hstarted, hdoor, hpasses, fun hturn => ⟨_, hlatched, hturned hturn⟩⟩
    · unfold relaySweepOut
      rw [State.modPort_headPort, if_neg (not_not.mpr hport), hread, State.modPort_actsAsHead]
      exact congrArg (fun t => Host.Outcome.next (finish t)) (if_pos (decide_eq_true hstatus))
    · unfold relaySweepOut
      rw [State.modPort_headPort, if_pos hport]
      rfl

end Sys2Proof.Machine
end

section
/-! A return without allotment, and what the head makes of a completed sweep (R72, R146, R158). -/

namespace Sys2Proof.Machine

open Sys2Proof

/-! ## A return that gives the node no allotment (R158) -/

/-- Every group is lowered to 0 in turn. -/
def shedGroups (s : State) : State := s.groupNumbers.foldl (fun s g => lowerGroup g 0 s) s

theorem unlatchedReturn_eq (s : State) :
    unlatchedReturn s =
      (discardIncrease (shedGroups (s.modHeat fun h => { h with take := 0 }))).modHeat fun h =>
        { h with unlatchedReturn := satInc h.unlatchedReturn } := rfl

theorem shedGroups_groupsOnly (s : State) : GroupsOnly s (shedGroups s) :=
  foldl_groupsOnly (key := id) (act := fun g s => lowerGroup g 0 s) (fun g s => lowerGroup_groupOnly g 0 s) _ s

/-- Every group commanded above 0 is commanded to 0 by a write of class 2, and every other is left. -/
theorem shedGroups_group {g : Nat} {x : Group} {c : GroupConfig} {s : State} (hx : s.group g = some x)
    (hc : s.groupConfig g = some c) :
    (shedGroups s).group g = some (if 0 < x.commanded then x.written 0 else x)
      ∧ (0 < x.commanded → HeatWriteStands g c 0 (shedGroups s)) := by
  have hg : g ∈ s.groupNumbers := by
    unfold State.group at hx
    split at hx
    · cases hx
    · have hmem := mem_groupNumbers hx
      rwa [show g - 1 + 1 = g by omega] at hmem
  obtain ⟨u, honly, hgroup, hend, hstands⟩ := foldl_group (key := id) (act := fun g s => lowerGroup g 0 s)
    (fun g s => lowerGroup_groupOnly g 0 s) (by simpa using s.groupNumbers_nodup) s hg
  obtain ⟨hlowered, hwrite⟩ := lowerGroup_group 0 ((honly.groupConfig g).trans hc) (Eq.trans hgroup hx)
  exact ⟨Eq.trans hend hlowered, fun hpos => hstands c 0 (hwrite hpos)⟩

/-- A return without allotment sheds every group (R158, R160, R163). -/
theorem unlatchedReturn_sheds (s : State) : ShedsAll s (unlatchedReturn s) := by
  have hgroups := fun g x c => shedGroups_group (g := g) (x := x) (c := c) (s := s.modHeat fun h => { h with take := 0 })
  have hheat := (shedGroups_groupsOnly (s.modHeat fun h => { h with take := 0 })).heat
  rw [unlatchedReturn_eq, discardIncrease_eq]
  generalize shedGroups (s.modHeat fun h => { h with take := 0 }) = t at *
  have hincrease : t.heat.increase = s.heat.increase := by rw [hheat]; rfl
  have hdiscards : t.heat.increaseDiscard = s.heat.increaseDiscard := by rw [hheat]; rfl
  refine ⟨by rw [hheat]; rfl, rfl, ?_, by rw [hheat]; rfl, by rw [hheat]; rfl, by rw [hheat]; rfl, by rw [hheat]; rfl,
    by rw [hheat]; rfl, fun g x c hx hc => ?_⟩
  · show (if t.heat.increase = none then t.heat.increaseDiscard else satInc t.heat.increaseDiscard) = _
    rw [hincrease, hdiscards]
  · obtain ⟨hgroup, hwrite⟩ := hgroups g x c hx hc
    refine ⟨fun hzero => ?_, fun hpos => ⟨?_, ?_⟩⟩
    · rw [if_neg (by omega)] at hgroup
      exact hgroup
    · rw [if_pos hpos] at hgroup
      exact hgroup
    · obtain ⟨e, he, howner, hcurrent, hop⟩ := hwrite hpos
      exact ⟨e, he, howner, hcurrent, hop⟩

/-- What a node shows of its groups, its heating and class 2 is all a return without allotment is about. -/
theorem ShedsAll.congr {s t s' t' : State} (h : ShedsAll s t) (hheat : s'.heat = s.heat) (hstore : s'.store = s.store)
    (hafter : ∃ latch, t'.heat = { t.heat with latch := latch }) (hqueue : t'.bus.heatQueue = t.bus.heatQueue) :
    ShedsAll s' t' := by
  obtain ⟨latch, hafter⟩ := hafter
  unfold ShedsAll State.group State.groupConfig at h ⊢
  rw [hheat, hstore, hafter, hqueue]
  exact h

theorem unlatchedReturn_latch (s : State) : (unlatchedReturn s).heat.latch = s.heat.latch := by
  have hheat := (shedGroups_groupsOnly (s.modHeat fun h => { h with take := 0 })).heat
  rw [unlatchedReturn_eq, discardIncrease_eq]
  generalize shedGroups (s.modHeat fun h => { h with take := 0 }) = t at *
  show t.heat.latch = _
  rw [hheat]
  rfl

/-- No latch of this sequence in the Heat Unit. -/
def NoLatchOf (sequence : Byte) (s : State) : Prop := ∀ l, s.heat.latch = some l → l.sequence ≠ sequence

/-- A matching return that finds no latch of its sequence sheds every group, and a latch of another sequence goes. -/
theorem heatReturn_unlatched {sequence : Byte} (r : Nat) {s : State} (h : NoLatchOf sequence s) :
    heatReturn sequence r true s = (r, (unlatchedReturn s).modHeat fun h => { h with latch := none }) := by
  unfold heatReturn
  rw [if_pos rfl]
  cases hlatch : s.heat.latch with
  | some l => exact if_neg (h l hlatch)
  | none =>
    have hnone := (unlatchedReturn_latch s).trans hlatch
    have hsame : (unlatchedReturn s).modHeat (fun h => { h with latch := none }) = unlatchedReturn s := by
      unfold State.modHeat
      rw [← hnone]
    rw [hsame]

theorem heatReturn_latched {sequence : Byte} (r : Nat) {l : HeatLatch} {s : State} (h : s.heat.latch = some l)
    (hsequence : l.sequence = sequence) : heatReturn sequence r true s = allottedReturn l r s := by
  unfold heatReturn
  rw [if_pos rfl, h]
  exact if_pos hsequence

/-- Any matching return leaves R as it is but for the take, and no latch. -/
theorem heatReturn_take {sequence : Byte} {r : Nat} (s : State) (hr : r ≤ 2000) :
    (heatReturn sequence r true s).1 + (heatReturn sequence r true s).2.heat.take = r
      ∧ (heatReturn sequence r true s).2.heat.latch = none := by
  by_cases h : NoLatchOf sequence s
  · rw [heatReturn_unlatched r h]
    obtain ⟨htake, -⟩ := unlatchedReturn_sheds s
    refine ⟨?_, rfl⟩
    show r + (unlatchedReturn s).heat.take = r
    rw [htake, Nat.add_zero]
  · unfold NoLatchOf at h
    push Not at h
    obtain ⟨l, hlatch, hsequence⟩ := h
    rw [heatReturn_latched r hlatch hsequence]
    obtain ⟨hsum, -, hnone⟩ := allottedReturn_take (l := l) s hr
    exact ⟨hsum, hnone⟩

/-! ## A completed sweep at the head (R72, R77, R146) -/

/-- A plain cab frame joins the cab outbound queue or is counted there. -/
theorem offerCab_plain {f : CabFrame} (s : State) (h : f.mark = .plain) :
    ∃ outbound cabDrop, offerCab f s = s.modBus (fun b => { b with outbound := outbound, cabDrop := cabDrop })
      ∧ (s.cabServed = true → s.bus.outbound.length < 16 → outbound = s.bus.outbound ++ [f]) := by
  unfold offerCab
  split
  · exact ⟨_, _, rfl, fun _ _ => rfl⟩
  · next hfull =>
    unfold cabFrameGone
    rw [h]
    exact ⟨_, _, rfl, fun hserved hroom => absurd ⟨hserved, hroom⟩ hfull⟩

/-- The report of a completed sweep (R77, section 12.3). -/
def sweepReport (s : State) (f : SweepBack) (leftover : Nat) (proven : Bool) : CabFrame where
  bytes := [0x04#8, s.consist.generation, f.sequence, if proven then 1#8 else 0#8] ++ tallyBytes f.tally ++ [byteOf s.n]
    ++ be16 leftover ++ be16 s.sweep.missed ++ [byteOf s.consist.attempts]
  mark := .plain

theorem reportBytes_completed (s : State) (f : SweepBack) (leftover : Nat) (proven : Bool) :
    reportBytes s f.sequence (if proven then .proven else .notProven) (some (f.tally, leftover)) =
      (sweepReport s f leftover proven).bytes := by
  cases proven <;> rfl

/-- A sweep that is completed at the head is the head's share, the train proof and the report, and no more. -/
theorem completeReturn_spec (f : SweepBack) (s : State) :
    let back := heatReturn f.sequence f.allowance true s
    let proven := f.tally.provesTrain s.n
    ∃ outbound cabDrop,
      completeReturn f s =
          { back.2 with door := { s.door with trainProof := proven }
                        bus := { back.2.bus with outbound := outbound, cabDrop := cabDrop } }
        ∧ (s.cabServed = true → s.bus.outbound.length < 16 →
            outbound = s.bus.outbound ++ [sweepReport s f back.1 proven]) := by
  intro back proven
  have hback : HeatWrites s back.2 := heatReturn_heatWrites ..
  have hproven : evalTrainProof f.tally back.2 = { back.2 with door := { s.door with trainProof := proven } } := by
    have hn : back.2.n = s.n := State.n_of_map (congrArg Consist.activeMap hback.consist)
    unfold evalTrainProof
    rw [hn, ← hback.door]
    rfl
  have hreport : sweepReport back.2 f back.1 proven = sweepReport s f back.1 proven := by
    unfold sweepReport State.n
    rw [hback.consist, hback.sweep]
  have hserved : back.2.cabServed = s.cabServed := by rw [State.cabServed, hback.store, State.cabServed]
  have hqueue := hback.outbound
  obtain ⟨outbound, cabDrop, hoffer, hjoins⟩ := offerCab_plain (f := sweepReport s f back.1 proven)
    { back.2 with door := { s.door with trainProof := proven } } rfl
  refine ⟨outbound, cabDrop, ?_, fun hs hroom => ?_⟩
  · rw [completeReturn_eq]
    dsimp only
    rw [show heatReturn f.sequence f.allowance true s = back from rfl, hproven]
    unfold report
    rw [reportBytes_completed]
    exact Eq.trans (congrArg (offerCab · _) hreport) hoffer
  · rw [hjoins (hserved.trans hs) (hqueue ▸ hroom)]
    exact congrArg (· ++ _) hqueue

/-! ## A SWEEP-BACK at another node (R71) -/

/-- The SWEEP-BACK a SETTLED node sends. -/
def sentBack (s : State) (payload : List Byte) : Frame where
  kind := 0x08#8
  header := linkLocal s.consist.generation (byteOf s.position)
  payload := payload

/-- A return sent on after the Heat Unit has had it: the units keep what the Heat Unit left. -/
theorem sendBack_heatWrites {s u : State} (payload : List Byte) (h : s.consist.state = .settled) (hback : HeatWrites s u) :
    EgressOnly u (sendBack payload u) ∧ JoinsUrgent s.headPort (sentBack s payload) s (sendBack payload u) := by
  have hsent := sendBack_settled (s := s) (u := u) payload (congrArg Consist.activeMap hback.consist) hback.identity
    ((congrArg Consist.state hback.consist).trans h) (congrArg Consist.generation hback.consist)
  rw [hsent]
  exact ⟨offer_egress .., (offerFrame_joinsUrgent _ _ u rfl).congr (hback.port _).symm rfl⟩

/-- A return that matches no latch passes as it came and is counted (R71, R78, R158). -/
theorem unmatchedReturn_spec (f : SweepBack) (payload : List Byte) {s : State} (h : s.consist.state = .settled) :
    let t := unmatchedReturn f payload s
    t.sweep = { s.sweep with mismatch := satInc s.sweep.mismatch } ∧ ShedsAll s t ∧ t.heat.latch = s.heat.latch
      ∧ t.door = s.door ∧ t.consist = s.consist ∧ JoinsUrgent s.headPort (sentBack s payload) s t := by
  intro t
  have hback := unlatchedReturn_heatWrites (sweepMismatch s)
  have hlatch := unlatchedReturn_latch (sweepMismatch s)
  have hsheds := unlatchedReturn_sheds (sweepMismatch s)
  have ht : t = sendBack payload (unlatchedReturn (sweepMismatch s)) := rfl
  clear_value t
  subst ht
  generalize unlatchedReturn (sweepMismatch s) = u at *
  obtain ⟨hegress, hjoins⟩ := sendBack_heatWrites (s := sweepMismatch s) payload h hback
  refine ⟨hegress.sweep.trans hback.sweep, hsheds.congr rfl rfl ⟨u.heat.latch, by rw [hegress.heat]⟩ ?_, ?_,
    hegress.door.trans hback.door, hegress.consist.trans hback.consist, hjoins⟩
  · rw [hegress.bus]
  · exact (congrArg Heat.latch hegress.heat).trans hlatch

/-- A matching return gives the node its share, or sheds all where the Heat Unit holds no latch of its sequence, and
goes on (R71, R155 to R159). -/
theorem matchedReturn_spec (f : SweepBack) {s : State} (h : s.consist.state = .settled) (hr : f.allowance ≤ 2000) :
    let u := s.modSweep Sweep.markReturned
    let t := matchedReturn f s
    t.sweep = u.sweep ∧ t.heat.latch = none ∧ t.door = s.door ∧ t.consist = s.consist
      ∧ (∀ l, s.heat.latch = some l → l.sequence = f.sequence →
          let back := allottedReturn l f.allowance u
          t.heat = back.2.heat ∧ back.1 + t.heat.take = f.allowance
            ∧ JoinsUrgent s.headPort (sentBack s (sweepBackPayload { f with allowance := back.1 })) s t)
      ∧ (NoLatchOf f.sequence s →
          ShedsAll s t ∧ JoinsUrgent s.headPort (sentBack s (sweepBackPayload f)) s t) := by
  intro u t
  have hback := heatReturn_heatWrites f.sequence f.allowance true u
  obtain ⟨hsum, hnone⟩ := heatReturn_take (sequence := f.sequence) u hr
  have hlatched := fun l => heatReturn_latched (sequence := f.sequence) f.allowance (l := l) (s := u)
  have hunlatched := heatReturn_unlatched (sequence := f.sequence) f.allowance (s := u)
  have hsheds := unlatchedReturn_sheds u
  have ht : t = sendBack (sweepBackPayload { f with allowance := (heatReturn f.sequence f.allowance true u).1 })
    (heatReturn f.sequence f.allowance true u).2 := rfl
  clear_value t
  subst ht
  generalize heatReturn f.sequence f.allowance true u = back at *
  obtain ⟨hegress, hjoins⟩ :=
    sendBack_heatWrites (s := u) (sweepBackPayload { f with allowance := back.1 }) h hback
  generalize sendBack _ back.2 = t at *
  refine ⟨hegress.sweep.trans hback.sweep, (congrArg Heat.latch hegress.heat).trans hnone,
    hegress.door.trans hback.door, hegress.consist.trans hback.consist, fun l hlatch hsequence => ?_, fun hno => ?_⟩
  · have hallotted := hlatched l hlatch hsequence
    dsimp only
    rw [← hallotted, hegress.heat]
    exact ⟨rfl, hsum, hjoins⟩
  · have hback := hunlatched hno
    subst hback
    refine ⟨hsheds.congr rfl rfl ⟨none, by rw [hegress.heat]; rfl⟩ (by rw [hegress.bus]; rfl), hjoins⟩

/-! ## A SWEEP-BACK at the head (R72, R147) -/

theorem readSweepBack_length {payload : List Byte} (h : payload.length ≠ 10) : readSweepBack payload = none := by
  unfold readSweepBack
  split
  · exact absurd rfl h
  · rfl

theorem exec_sweepBack {p : PortId} {h : Header} {payload : List Byte} {s : State}
    (ha : Accepted p 0x08#8 h payload s) :
    exec (.sweepBack p h payload) s =
      .next (finish (relaySweepBack p { kind := 0x08#8, header := h, payload := payload }
        (s.modPort p Port.countGood))) :=
  live_accepted ha (by decide) (by decide)

theorem relaySweepBack_read {p : PortId} {frame : Frame} {f : SweepBack} {s : State} (hp : p = s.tailPort)
    (hread : readSweepBack frame.payload = some f) :
    relaySweepBack p frame s =
      if s.actsAsHead then headReturn f s
      else if s.sweep.matchesReturn f.sequence then matchedReturn f s
      else unmatchedReturn f frame.payload s := by
  unfold relaySweepBack
  rw [if_neg (not_not.mpr hp), hread]

/-- The outstanding sweep comes back to the head. -/
theorem headReturn_outstanding {f : SweepBack} {s : State} (h : s.sweep.outstanding = some f.sequence)
    (hr : f.allowance ≤ 2000) :
    let t := headReturn f s
    t.sweep = { s.sweep.markReturned with outstanding := none }
      ∧ t.door = { s.door with trainProof := f.tally.provesTrain s.n } ∧ t.consist = s.consist
      ∧ (NoLatchOf f.sequence s → ShedsAll s t ∧ t.heat.latch = none)
      ∧ (s.cabServed = true → s.bus.outbound.length < 16 →
          t.bus.outbound =
            s.bus.outbound ++ [sweepReport s f (f.allowance - t.heat.take) (f.tally.provesTrain s.n)]) := by
  intro t
  let u := s.modSweep fun w => { w.markReturned with outstanding := none }
  have ht : t = completeReturn f u := if_pos h
  obtain ⟨outbound, cabDrop, hcomplete, hreport⟩ := completeReturn_spec f u
  have hback := heatReturn_heatWrites f.sequence f.allowance true u
  obtain ⟨hsum, hnone⟩ := heatReturn_take (sequence := f.sequence) u hr
  have hunlatched := heatReturn_unlatched (sequence := f.sequence) f.allowance (s := u)
  have hsheds := unlatchedReturn_sheds u
  clear_value t
  subst ht
  rw [hcomplete]
  generalize heatReturn f.sequence f.allowance true u = back at *
  refine ⟨hback.sweep, rfl, hback.consist, fun hno => ⟨?_, hnone⟩, fun hserved hroom => ?_⟩
  · have hback := hunlatched hno
    subst hback
    exact hsheds.congr rfl rfl ⟨none, rfl⟩ rfl
  · have hleft : f.allowance - back.2.heat.take = back.1 := by omega
    show outbound = s.bus.outbound ++ [sweepReport s f (f.allowance - back.2.heat.take) (f.tally.provesTrain s.n)]
    rw [hleft]
    exact hreport hserved hroom

theorem matchesReturn_eq_false {sequence : Byte} {w : Sweep}
    (h : ∀ l, w.latch = some l → l.sequence ≠ sequence ∨ l.returned = true) : w.matchesReturn sequence = false := by
  unfold Sweep.matchesReturn
  cases hlatch : w.latch with
  | none => rfl
  | some l =>
    have hmiss := h l hlatch
    simpa [or_iff_not_imp_left] using hmiss

theorem matchesReturn_fresh {sequence : Byte} {w : Sweep} (h : w.latch = some { sequence := sequence, returned := false }) :
    w.matchesReturn sequence = true := by
  unfold Sweep.matchesReturn
  rw [h]
  simp

/-- Settles O29. -/
theorem sweepBackIsTakenOrPassed : Obligations.SweepBackIsTakenOrPassed := by
  refine ⟨fun p h payload s ha hlength => ?_, fun p h f s hr hvisits hfirst hunproven hisolated hreleased ha => ?_⟩
  · have hread := readSweepBack_length hlength
    rw [exec_sweepBack ha]
    refine ⟨fun hport => ?_, fun hport => ?_⟩
    · unfold relaySweepBack
      rw [State.modPort_tailPort, if_neg (not_not.mpr hport), hread]
      rfl
    · unfold relaySweepBack
      rw [State.modPort_tailPort, if_pos hport]
      rfl
  · have hread : readSweepBack (sweepBackPayload f) = some f :=
      readSweepBack_sweepBackPayload hr ⟨hvisits, hfirst, hunproven, hisolated, hreleased⟩
    have hsettled : s.consist.state = .settled := ((State.settledIn_iff _ _).mp (ha.2.2.2.2 rfl)).1
    rw [exec_sweepBack ha]
    refine ⟨fun hport => ?_, fun hport => ?_⟩
    · unfold relaySweepBack
      rw [State.modPort_tailPort, if_pos hport]
      rfl
    rw [relaySweepBack_read (hport.trans (State.modPort_tailPort ..).symm) hread, State.modPort_actsAsHead,
      State.modPort_sweep, show s.actsAsHead = decide (s.consist.status = .valid) from rfl]
    have hsettled₁ : (s.modPort p Port.countGood).consist.state = .settled := by rwa [State.modPort_consist]
    have hsent : ∀ payload, sentBack (s.modPort p Port.countGood) payload = sentBack s payload := fun payload => by
      rw [sentBack, State.modPort_consist, State.modPort_position, sentBack]
    have hjoins : ∀ {frame : Frame} {t : State}, JoinsUrgent (s.modPort p Port.countGood).headPort frame
        (s.modPort p Port.countGood) t → JoinsUrgent s.headPort frame s t := fun {frame t} hj => by
      rw [State.modPort_headPort] at hj
      exact JoinsLane.of_lane hj (modPort_countGood_lanes p _ s).1 (modPort_countGood_lanes p _ s).2
    refine ⟨fun hstatus hout => ?_, fun hstatus hout => ?_, fun hstatus hlatch => ?_, fun hstatus hlatch => ?_⟩
    · have hhead := headReturn_outstanding (f := f) (s := s.modPort p Port.countGood)
        (by rw [State.modPort_sweep]; exact hout) hr
      rw [if_pos (decide_eq_true hstatus)]
      generalize headReturn f (s.modPort p Port.countGood) = t at hhead ⊢
      obtain ⟨hsweep, hdoor, hconsist, hno, hreport⟩ := hhead
      simp only [State.modPort_sweep, State.modPort_door, State.modPort_consist, State.modPort_bus, State.modPort_n]
        at hsweep hdoor hconsist hreport
      refine ⟨t, rfl, by rw [hsweep], by rw [hsweep]; rfl, by rw [hsweep]; rfl, by rw [hdoor]; rfl, by rw [hdoor], hconsist,
        fun hlatch => ?_, fun hserved hroom => ?_⟩
      · obtain ⟨hsheds, hnone⟩ := hno (by unfold NoLatchOf; rw [State.modPort_heat]; exact hlatch)
        exact ⟨hsheds.congr (State.modPort_heat ..).symm (State.modPort_store ..).symm ⟨_, rfl⟩ rfl, hnone⟩
      · have hjoined := hreport (by rw [State.cabServed, State.modPort_store]; exact hserved) hroom
        rw [hjoined, sweepReport, State.modPort_consist, State.modPort_n, State.modPort_sweep, hdoor]
    · rw [if_pos (decide_eq_true hstatus)]
      unfold headReturn
      rw [if_neg (by rw [State.modPort_sweep]; exact hout), ← State.modPort_sweep p Port.countGood s,
        ← State.modPort_door p Port.countGood s]
      rfl
    · rw [if_neg (by simpa using hstatus), matchesReturn_eq_false hlatch]
      have hspec := unmatchedReturn_spec f (sweepBackPayload f) hsettled₁
      dsimp only at hspec ⊢
      generalize unmatchedReturn f (sweepBackPayload f) (s.modPort p Port.countGood) = t at hspec ⊢
      obtain ⟨hsweep, hsheds, hkept, hdoor, hconsist, hjoined⟩ := hspec
      rw [State.modPort_sweep] at hsweep
      rw [State.modPort_heat] at hkept
      rw [State.modPort_door] at hdoor
      rw [State.modPort_consist] at hconsist
      refine ⟨t, rfl, hsweep, hsheds.congr (State.modPort_heat ..).symm (State.modPort_store ..).symm ⟨_, rfl⟩ rfl,
        hkept, hdoor, hconsist, ?_⟩
      have hlane := hjoins hjoined
      rw [hsent] at hlane
      exact hlane
    · rw [if_neg (by simpa using hstatus), if_pos (matchesReturn_fresh hlatch)]
      intro u
      have hspec := matchedReturn_spec f hsettled₁ hr
      dsimp only at hspec
      generalize matchedReturn f (s.modPort p Port.countGood) = t at hspec ⊢
      obtain ⟨hsweep, hnone, hdoor, hconsist, hlatched, hno⟩ := hspec
      rw [State.modSweep_sweep, State.modPort_sweep, Sweep.markReturned, hlatch] at hsweep
      rw [State.modPort_door] at hdoor
      rw [State.modPort_consist] at hconsist
      refine ⟨t, rfl, hsweep, hnone, hdoor, hconsist, fun l hl hsequence => ?_, fun hmiss => ?_⟩
      · obtain ⟨hheat, hsum, hjoined⟩ := hlatched l (by rw [State.modPort_heat]; exact hl) hsequence
        have hlane := hjoins hjoined
        rw [hsent] at hlane
        exact ⟨hheat, hsum, hlane⟩
      · obtain ⟨hsheds, hjoined⟩ := hno (by unfold NoLatchOf; rw [State.modPort_heat]; exact hmiss)
        have hlane := hjoins hjoined
        rw [hsent] at hlane
        exact ⟨hsheds.congr (State.modPort_heat ..).symm (State.modPort_store ..).symm ⟨_, rfl⟩ rfl, hlane⟩

end Sys2Proof.Machine
end

section
/-! A round start at the head: with its cab station it keeps its lead, or it has lost it (R89, R95, R99). -/

namespace Sys2Proof.Machine

open Sys2Proof

theorem cabLost_status (s : State) : (cabLost s).consist.status ≠ .valid := by
  have hdropped : ((setClaims false false (s.modBus fun b => { b with cabState := .lost })).modConsist fun c =>
      { c with status := .none }).consist.status ≠ .valid := show ClaimStatus.none ≠ .valid by decide
  unfold cabLost
  dsimp only
  rw [(raise_egress _ _ _ _).consist]
  show (dropClaims (s.modBus fun b => { b with cabState := .lost })).consist.status ≠ .valid
  unfold dropClaims
  dsimp only
  split
  · rw [loseValidity_status]
    exact hdropped
  · exact hdropped

/-- The outcome of a cab service moves the bus alone, or the lead is gone. -/
theorem takeCabOutcome_cases (t : CabTally) (s : State) :
    BusOnly s (takeCabOutcome t s) ∨ (takeCabOutcome t s).consist.status ≠ .valid := by
  unfold takeCabOutcome
  dsimp only
  split
  · exact .inl (.refl s)
  · split
    · exact .inl (.modBus _ s)
    · split
      · split
        · exact .inr (cabLost_status _)
        · exact .inl (.modBus _ s)
      · exact .inl (.refl s)

theorem endCabEntry_cases (s : State) : BusOnly s (endCabEntry s) ∨ (endCabEntry s).consist.status ≠ .valid := by
  unfold endCabEntry
  cases s.bus.cab with
  | none => exact .inl (.refl s)
  | some c =>
    have hended : BusOnly s (s.modBus fun b => { b with cab := none }) := .modBus _ s
    dsimp only
    split
    · exact .inl (hended.trans (.modBus _ _))
    · exact (takeCabOutcome_cases c.tally _).imp_left hended.trans

theorem placeCabEntry_cases (s : State) :
    BusOnly s (placeCabEntry s) ∨ (placeCabEntry s).consist.status ≠ .valid := by
  rw [placeCabEntry_consist]
  refine (endCabEntry_cases s).imp_left fun h => ?_
  unfold placeCabEntry
  dsimp only
  split
  · exact h.trans (.modBus _ _)
  · exact h

/-- What the loss of a cab station is decided by. -/
def Bus.cabSide (b : Bus) : Option CabEntry × Nat × CabState := (b.cab, b.silence, b.cabState)

theorem Bus.detachPoll_cabSide (use : PollUse) (b : Bus) : (b.detachPoll use).cabSide = b.cabSide := by
  unfold Bus.detachPoll
  split <;> rfl

/-- Nothing of the consist, the sweep and the line has changed. -/
structure HeadKept (s t : State) : Prop where
  consist : t.consist = s.consist
  sweep : t.sweep = s.sweep
  relay : t.relay = s.relay
  lp1 : t.lp1 = s.lp1
  lp2 : t.lp2 = s.lp2

theorem HeadKept.trans {s t u : State} (h : HeadKept s t) (k : HeadKept t u) : HeadKept s u :=
  ⟨k.consist.trans h.consist, k.sweep.trans h.sweep, k.relay.trans h.relay, k.lp1.trans h.lp1, k.lp2.trans h.lp2⟩

theorem HeadKept.port {s t : State} (h : HeadKept s t) (p : PortId) : t.port p = s.port p := by
  cases p
  · exact h.lp1
  · exact h.lp2

theorem BusOnly.headKept {s t : State} (h : BusOnly s t) : HeadKept s t := by
  unfold BusOnly at h
  rw [h]
  exact ⟨rfl, rfl, rfl, rfl, rfl⟩

theorem UnitsMove.headKept {s t : State} (h : UnitsMove s t) (hvalid : s.consist.status = .valid) : HeadKept s t := by
  obtain ⟨hrelay, hlp1, hlp2⟩ := h.line hvalid
  exact ⟨h.consist, h.sweep, hrelay, hlp1, hlp2⟩

theorem overrunRound_cabSide (s : State) :
    ∃ f : Bus → Bus, (f s.bus).cabSide = s.bus.cabSide
      ∧ (overrunRound s = s.modBus f ∨ ∃ n, overrunRound s = raise .roundOverrun 0#8 n (s.modBus f)) := by
  have hdetached := s.bus.detachPoll_cabSide .overrun
  unfold overrunRound
  split
  · dsimp only
    split
    · exact ⟨fun b => { b.detachPoll .overrun with
        overruns := satInc b.overruns, overrunHoldoff := some Config.overrunHoldoffMs }, hdetached, .inr ⟨_, rfl⟩⟩
    · exact ⟨fun b => { b.detachPoll .overrun with overruns := satInc b.overruns }, hdetached, .inl rfl⟩
  · exact ⟨id, rfl, .inl rfl⟩

/-- A round that ends as an overrun leaves the head what it leads by (R91). -/
theorem overrunRound_head {s : State} (hvalid : s.consist.status = .valid) :
    HeadKept s (overrunRound s) ∧ (overrunRound s).bus.cabSide = s.bus.cabSide
      ∧ (overrunRound s).cabServed = s.cabServed := by
  obtain ⟨f, hf, heq | ⟨n, heq⟩⟩ := overrunRound_cabSide s
  · rw [heq]
    exact ⟨⟨rfl, rfl, rfl, rfl, rfl⟩, hf, rfl⟩
  · have hraised := raise_unitsMove .roundOverrun 0#8 n (s.modBus f)
    rw [← heq] at hraised
    have hside := congrArg Bus.cabSide hraised.bus
    refine ⟨HeadKept.trans (t := s.modBus f) ⟨rfl, rfl, rfl, rfl, rfl⟩ (hraised.headKept hvalid), Eq.trans hside hf, ?_⟩
    rw [State.cabServed, hraised.store]
    rfl

theorem CabHeld.congr {s t : State} (h : CabHeld s) (hside : t.bus.cabSide = s.bus.cabSide)
    (hserved : t.cabServed = s.cabServed) : CabHeld t := by
  simp only [Bus.cabSide, Prod.mk.injEq] at hside
  obtain ⟨hcab, hsilence, hstate⟩ := hside
  unfold CabHeld
  rw [hserved, hcab, hsilence, hstate]
  exact h

/-- A head that keeps its cab station, or that still leads after the round start, has kept the consist, the sweep and
the line. -/
theorem roundPlaced_headKept {duration : Nat} {s : State} (hvalid : s.consist.status = .valid)
    (h : CabHeld s ∨ (roundPlaced duration s).consist.status = .valid) : HeadKept s (roundPlaced duration s) := by
  obtain ⟨hover, hside, hserved⟩ := overrunRound_head (s := s.modBus fun b => { b with roundTimer := some duration }) hvalid
  have hu : roundPlaced duration s = arbitrate (finishRound (placeCabEntry
      ((overrunRound (s.modBus fun b => { b with roundTimer := some duration })).modBus fun b =>
        { b.age with pointer := some 0, round := .inProgress }))) := rfl
  rw [hu] at h ⊢
  generalize overrunRound (s.modBus fun b => { b with roundTimer := some duration }) = o at *
  have hlast : BusOnly (placeCabEntry (o.modBus fun b => { b.age with pointer := some 0, round := .inProgress })) _ :=
    (finishRound_busOnly _).trans (arbitrate_busOnly _)
  have hplaced : BusOnly (o.modBus fun b => { b.age with pointer := some 0, round := .inProgress })
      (placeCabEntry (o.modBus fun b => { b.age with pointer := some 0, round := .inProgress })) := by
    rcases h with hheld | hkept
    · exact placeCabEntry_busOnly (hheld.congr (t := o.modBus fun b =>
        { b.age with pointer := some 0, round := .inProgress }) hside hserved)
    · rw [hlast.consist] at hkept
      exact (placeCabEntry_cases _).resolve_right (not_not.mpr hkept)
  exact HeadKept.trans (t := o.modBus fun b => { b.age with pointer := some 0, round := .inProgress })
    ⟨hover.consist, hover.sweep, hover.relay, hover.lp1, hover.lp2⟩ (hplaced.trans hlast).headKept

/-- The outward start at a head, by the same token. -/
theorem outwardStart_headKept {f : SweepOut} {s : State} (hvalid : s.consist.status = .valid)
    (h : CabHeld s ∨ (outwardStart f s).consist.status = .valid) :
    HeadKept (s.modSweep (Sweep.latchOut f)) (outwardStart f s) := by
  have hmove := outwardStart_unitsMove f s
  have hplaced : HeadKept (s.modSweep (Sweep.latchOut f))
      (roundPlaced (2 * clampPeriod f.period) (s.modSweep (Sweep.latchOut f))) :=
    roundPlaced_headKept hvalid (h.imp id fun hkept => by rwa [hmove.consist] at hkept)
  exact hplaced.trans (hmove.headKept ((congrArg Consist.status hplaced.consist).trans hvalid))

end Sys2Proof.Machine
end

section
/-! The period timer, the launch and the local sweep (R66 to R68, R73). -/

namespace Sys2Proof.Machine

open Sys2Proof

theorem State.confirmedHead_iff (s : State) :
    s.confirmedHead = true ↔ s.consist.status = .valid ∧ s.consist.state = .settled := by
  simp [State.confirmedHead, State.actsAsHead, State.isSettled]

/-- The report of a missed sweep (R68, R77). -/
def missedReport (s : State) (sequence : Byte) : CabFrame where
  bytes := [0x04#8, s.consist.generation, sequence, 2#8] ++ List.replicate 7 0#8 ++ [byteOf s.n, 0#8, 0#8]
    ++ be16 s.sweep.missed ++ [byteOf s.consist.attempts]
  mark := .plain

/-- An outstanding sweep is missed (R68, R147). -/
theorem missSweep_spec (q : Byte) (s : State) :
    let missed : Sweep := { s.sweep.markReturned with missed := satInc s.sweep.missed, outstanding := none }
    ∃ outbound cabDrop,
      missSweep q s =
          { s with sweep := missed, door := { s.door with trainProof := false }
                   bus := { s.bus with outbound := outbound, cabDrop := cabDrop } }
        ∧ (s.cabServed = true → s.bus.outbound.length < 16 →
            outbound = s.bus.outbound ++ [missedReport { s with sweep := missed } q]) :=
  offerCab_plain (f := missedReport { s with sweep := { s.sweep.markReturned with
      missed := satInc s.sweep.missed, outstanding := none } } q)
    { s with sweep := { s.sweep.markReturned with missed := satInc s.sweep.missed, outstanding := none }
             door := { s.door with trainProof := false } } rfl

theorem exec_periodTimerRunout {s : State} (hpower : s.powered = true) (hrunning : s.sweep.periodTimer ≠ none) :
    exec .periodTimerRunout s =
      .next (finish (if s.confirmedHead then periodRunsOut s
        else { s with sweep := { s.sweep with periodTimer := none } })) := by
  rw [show exec .periodTimerRunout s = live periodEnds s from rfl, live_powered _ s hpower]
  unfold periodEnds onlyIf
  rw [if_pos (Option.isSome_iff_ne_none.mpr hrunning)]
  rfl

/-! ## The launch (R66, R67, R73) -/

theorem processOutward_built (s : State) :
    processOutward (builtSweep s) (useSequence s) =
      let m := outwardStart (builtSweep s) (useSequence s)
      heatOutward ((builtSweep s).tallied m) m := rfl

/-- The state a launch has when the head has made its own outward pass, and the frame as updated by it. -/
def launched (s : State) : SweepOut × State := processOutward (builtSweep s) (useSequence s)

theorem launch_lost {s : State} (h : (launched s).2.confirmedHead = false) : launch s = (launched s).2 := by
  have hlost := ne_true_of_eq_false h
  unfold launch
  split
  · exact if_neg hlost
  · exact if_neg hlost

theorem launch_frames {s : State} (h : (launched s).2.confirmedHead = true) (hn : s.n ≠ 1) :
    launch s =
      (offerFrame (launched s).2.tailPort
        (buildFrame (launched s).2 0x07#8 0#8 0#8 (sweepOutPayload (launched s).1)) (launched s).2).modSweep fun w =>
          { w with outstanding := some s.sweep.nextSequence, periodTimer := some s.sweep.period } := by
  unfold launch
  rw [if_neg hn]
  exact if_pos h

theorem launch_local {s : State} (h : (launched s).2.confirmedHead = true) (hn : s.n = 1) :
    launch s =
      (completeReturn (turnedRound (launched s).1) (launched s).2).modSweep fun w =>
        { w with periodTimer := some s.sweep.period } := by
  unfold launch
  rw [if_pos hn]
  exact if_pos h

/-- The head's own outward pass at a launch: where it keeps its cab station, or still leads after it, the consist, the
line and the Sweep Unit stand but for what it has latched (R67, R69). -/
theorem launchStart_headKept {s : State} (hvalid : s.consist.status = .valid)
    (h : CabHeld s ∨ (outwardStart (builtSweep s) (useSequence s)).consist.status = .valid) :
    HeadKept ((useSequence s).modSweep (Sweep.latchOut (builtSweep s))) (outwardStart (builtSweep s) (useSequence s)) :=
  outwardStart_headKept (s := useSequence s) hvalid h

/-- A launch whose round start costs the head its lead is abandoned; any other launches the sweep, with frames at N above 1. -/
theorem launch_spec {s : State} (hhead : s.confirmedHead = true) :
    let built := builtSweep s
    let m := outwardStart built (useSequence s)
    let out := heatOutward { built with tally := tallyVehicle m built.tally } m
    let t := launch s
    (m.confirmedHead = false → t = out.2)
      ∧ (m.confirmedHead = true → s.n ≠ 1 →
          t.sweep = { m.sweep with
              outstanding := some s.sweep.nextSequence, periodTimer := some s.sweep.period }
            ∧ t.heat = out.2.heat ∧ t.door = m.door ∧ t.consist = s.consist
            ∧ JoinsUrgent s.tailPort
                { kind := 0x07#8, header := linkLocal s.consist.generation (byteOf s.position)
                  payload := sweepOutPayload out.1 } s t
            ∧ ((s.port s.tailPort).carries = false → t.relay.noRoute = satInc m.relay.noRoute)) := by
  intro built m out t
  have hout : launched s = out := rfl
  have hwrites : HeatWrites m out.2 := heatOutward_heatWrites ..
  have hsame : out.2.confirmedHead = m.confirmedHead := by
    rw [State.confirmedHead, State.actsAsHead, State.isSettled, hwrites.consist]
    rfl
  obtain ⟨hvalid, hsettled⟩ := s.confirmedHead_iff.mp hhead
  refine ⟨fun hlost => launch_lost (hout ▸ hsame.trans hlost), fun hleads hn => ?_⟩
  have hkept := launchStart_headKept hvalid (.inr (m.confirmedHead_iff.mp hleads).1)
  have ht : t = _ := launch_frames (hout ▸ hsame.trans hleads) hn
  have hconsist : out.2.consist = s.consist := hwrites.consist.trans hkept.consist
  have hidentity : out.2.identity = s.identity := hwrites.identity.trans (outwardStart_kept (quiet := False) (.refl _) built
    False.elim).identity
  have hport : out.2.port s.tailPort = s.port s.tailPort := (hwrites.port _).trans (hkept.port _)
  have hmap := congrArg Consist.activeMap hconsist
  rw [hout, State.tailPort_of_map hmap hidentity,
    buildFrame_settled _ ((congrArg Consist.state hconsist).trans hsettled) (by decide), hconsist,
    State.position_of_map hmap hidentity] at ht
  clear_value t
  subst ht
  generalize hframe : Frame.mk 0x07#8 _ (sweepOutPayload out.1) = frame at *
  have hkind : frame.kind = 0x07#8 := by rw [← hframe]
  have hegress : EgressOnly out.2 (offerFrame s.tailPort frame out.2) := offer_egress ..
  have hjoins := (offerFrame_joinsUrgent s.tailPort frame out.2 (by rw [hkind]; decide)).congr
    (s' := s) (t' := offerFrame s.tailPort frame out.2) hport.symm rfl
  have hnoRoute := fun hc => offer_noRoute s.tailPort { frame := frame, mark := .plain } out.2 (hport ▸ hc)
    (by rw [hkind]; exact fun h => absurd h.2 (by decide)) rfl
  unfold offerFrame at hegress hjoins ⊢
  refine ⟨?_, hegress.heat, hegress.door.trans hwrites.door, hegress.consist.trans hconsist, hjoins.congr rfl ?_,
    fun hc => ?_⟩
  · rw [State.modSweep_sweep, hegress.sweep, hwrites.sweep]
  · rw [State.modSweep_port]
  · rw [State.modSweep_relay, hnoRoute hc, State.modRelay_relay, hwrites.relay]

/-- The return of a local sweep is completed at the head, with R = B (R73). -/
theorem localSweep_spec {s : State} (hhead : s.confirmedHead = true) (hn : s.n = 1)
    (hleads : (outwardStart (builtSweep s) (useSequence s)).confirmedHead = true) :
    let built := builtSweep s
    let m := outwardStart built (useSequence s)
    let out := heatOutward { built with tally := tallyVehicle m built.tally } m
    let t := launch s
    ∃ l, out.2.heat.latch = some l ∧
      let back := allottedReturn l s.heat.allowance out.2
      let proven := out.1.tally.provesTrain 1
      t.sweep = { m.sweep with periodTimer := some s.sweep.period }
        ∧ t.heat = back.2.heat ∧ t.consist = s.consist ∧ t.lp1 = m.lp1 ∧ t.lp2 = m.lp2
        ∧ t.door = { m.door with trainProof := proven }
        ∧ (s.cabServed = true → m.bus.outbound.length < 16 →
            t.bus.outbound = m.bus.outbound ++
              [{ bytes := [0x04#8, s.consist.generation, s.sweep.nextSequence, if proven then 1#8 else 0#8]
                    ++ tallyBytes out.1.tally ++ [1#8] ++ be16 back.1 ++ be16 s.sweep.missed
                    ++ [byteOf s.consist.attempts]
                 mark := .plain }]) := by
  intro built m out t
  have hout : launched s = out := rfl
  have hwrites : HeatWrites m out.2 := heatOutward_heatWrites ..
  have hlatch : out.2.heat.latch = some (heatLatched (built.tallied m) m) := heatOutward_latch _ m
  have hsequence : (heatLatched (built.tallied m) m).sequence = (turnedRound out.1).sequence := rfl
  have hbuilt : (turnedRound out.1).sequence = s.sweep.nextSequence ∧ (turnedRound out.1).allowance = s.heat.allowance
      ∧ (turnedRound out.1).tally = out.1.tally := ⟨rfl, rfl, rfl⟩
  have hsame : out.2.confirmedHead = m.confirmedHead := by
    rw [State.confirmedHead, State.actsAsHead, State.isSettled, hwrites.consist]
    rfl
  obtain ⟨hvalid, hsettled⟩ := s.confirmedHead_iff.mp hhead
  have hkept := launchStart_headKept hvalid (.inr (m.confirmedHead_iff.mp hleads).1)
  have hmissed : out.2.sweep.missed = s.sweep.missed := by
    rw [hwrites.sweep]
    have hsweep := congrArg Sweep.missed hkept.sweep
    exact hsweep
  have hconsist : out.2.consist = s.consist := hwrites.consist.trans hkept.consist
  have hstarted := outwardStart_kept (quiet := False) (.refl _) built (s := useSequence s) False.elim
  have hserved : out.2.cabServed = s.cabServed := by
    rw [State.cabServed, hwrites.store, hstarted.store]
    rfl
  have hn' : out.2.n = 1 := (State.n_of_map (congrArg Consist.activeMap hconsist)).trans hn
  have ht : t = _ := launch_local (hout ▸ hsame.trans hleads) hn
  rw [hout] at ht
  obtain ⟨outbound, cabDrop, hcomplete, hreport⟩ := completeReturn_spec (turnedRound out.1) out.2
  rw [heatReturn_latched _ hlatch hsequence, hbuilt.2.1] at hcomplete hreport
  have hback : HeatWrites out.2 (allottedReturn (heatLatched (built.tallied m) m) s.heat.allowance out.2).2 :=
    allottedReturn_heatWrites ..
  rw [hcomplete] at ht
  refine ⟨_, hlatch, ?_⟩
  clear_value t
  subst ht
  generalize allottedReturn (heatLatched (built.tallied m) m) s.heat.allowance out.2 = back at *
  have hproven : (turnedRound out.1).tally.provesTrain out.2.n = out.1.tally.provesTrain 1 := by
    rw [hn', hbuilt.2.2]
  rw [hproven] at hreport ⊢
  refine ⟨?_, rfl, hback.consist.trans hconsist, ?_, ?_, ?_, fun hs hroom => ?_⟩
  · rw [← hwrites.sweep, ← hback.sweep]
    rfl
  · exact (hback.port .lp1).trans (hwrites.port .lp1)
  · exact (hback.port .lp2).trans (hwrites.port .lp2)
  · rw [← hwrites.door]
    rfl
  · have hjoined := hreport (hserved.trans hs) (hwrites.outbound ▸ hroom)
    rw [hwrites.outbound, sweepReport, hconsist, hbuilt.1, hbuilt.2.2, hn', hmissed] at hjoined
    exact hjoined

/-- Settles O30. -/
theorem periodRunOutLaunchesWhatR67Builds : Obligations.PeriodRunOutLaunchesWhatR67Builds := by
  refine ⟨fun s hpower hrunning => ?_, fun s => ⟨rfl, ?_⟩, fun s hhead => ?_, fun s => rfl⟩
  · intro stopped
    rw [exec_periodTimerRunout hpower hrunning]
    refine ⟨fun hhead hnone => ?_, fun q hhead hq hn => ?_, fun hlost => ?_⟩
    · rw [if_pos hhead]
      have hruns : periodRunsOut s = launch stopped := by
        unfold periodRunsOut
        dsimp only
        cases hout : s.sweep.outstanding with
        | none =>
          rw [State.modSweep_sweep, hout]
          rfl
        | some q =>
          have hn : s.n = 1 := hnone.resolve_left (by simp [hout])
          rw [State.modSweep_sweep, hout]
          exact congrArg launch (if_pos hn)
      rw [hruns]
    · obtain ⟨outbound, cabDrop, hmiss, hreport⟩ := missSweep_spec q stopped
      have hruns : periodRunsOut s = launch (missSweep q stopped) := by
        unfold periodRunsOut
        dsimp only
        rw [State.modSweep_sweep, hq]
        exact congrArg launch (if_neg (Nat.ne_of_gt hn))
      rw [if_pos hhead, hruns]
      refine ⟨missSweep q stopped, rfl, ?_⟩
      rw [hmiss]
      exact ⟨rfl, rfl, rfl, rfl, hreport⟩
    · rw [if_neg (ne_true_of_eq_false hlost)]
  · show (s.sweep.nextSequence + 1#8).toNat = _
    rw [BitVec.toNat_add]
    rfl
  · intro built m out t
    obtain ⟨hvalid, hsettled⟩ := s.confirmedHead_iff.mp hhead
    obtain ⟨hlost, hframes⟩ := launch_spec hhead
    have hlocal := localSweep_spec hhead
    have hkept := launchStart_headKept hvalid
    have hwrites : HeatWrites m out.2 := heatOutward_heatWrites ..
    have hstarted : OutwardStarted built s m :=
      (outwardStart_started built (s := useSequence s) hsettled).congr rfl rfl rfl rfl rfl rfl
    refine ⟨hstarted, ?_, fun hcab => ?_, hlost, hframes, fun hleads hn => ?_⟩
    · cases hleads : m.confirmedHead with
      | false => exact (congrArg (fun t : State => t.door.leaves) (hlost hleads)).trans (congrArg Door.leaves hwrites.door)
      | true =>
        by_cases hn : s.n = 1
        · obtain ⟨_, -, -, -, -, -, -, hdoor, -⟩ := hlocal hn hleads
          have hleaves := congrArg Door.leaves hdoor
          exact hleaves
        · obtain ⟨-, -, hdoor, -⟩ := hframes hleads hn
          exact congrArg Door.leaves hdoor
    · have hm := hkept (.inl hcab)
      have hconsist : m.consist = s.consist := hm.consist
      refine ⟨m.confirmedHead_iff.mpr (by rw [hconsist]; exact ⟨hvalid, hsettled⟩), hconsist, hm.relay, ?_⟩
      have hsweep : m.sweep = ((useSequence s).modSweep (Sweep.latchOut built)).sweep := hm.sweep
      rw [hsweep]
      rfl
    · obtain ⟨l, hlatch, hsweep, hheat, hconsist, hlp1, hlp2, hdoor, hreport⟩ := hlocal hn hleads
      refine ⟨l, hlatch, hsweep, hheat, hconsist, hlp1, hlp2, congrArg Door.trainProof hdoor, fun hs hroom => ?_⟩
      rw [congrArg Door.trainProof hdoor]
      exact hreport hs hroom

end Sys2Proof.Machine
end

section
/-! The coach bus arbiter: which transaction it starts (R85, R90), and how an attempt starts (R82, R83). -/

namespace Sys2Proof.Machine

open Sys2Proof

/-! ## The oldest eligible entry of a queue (R85) -/

theorem QueueEntry.inRetryWait_iff (e : QueueEntry) : e.inRetryWait = true ↔ ∃ left, e.phase = .retryWait left := by
  unfold QueueEntry.inRetryWait
  cases e.phase <;> simp

/-- The addresses held back once a stretch of the queue has been passed over. -/
def heldAfter (held : List (Byte × Byte)) : List QueueEntry → List (Byte × Byte)
  | [] => held
  | e :: rest => heldAfter (if e.inRetryWait then e.op.address :: held else held) rest

theorem mem_heldAfter {a : Byte × Byte} {q : List QueueEntry} {held : List (Byte × Byte)} :
    a ∈ heldAfter held q ↔ a ∈ held ∨ ∃ x ∈ q, (∃ left, x.phase = .retryWait left) ∧ x.op.address = a := by
  induction q generalizing held with
  | nil => simp [heldAfter]
  | cons e rest ih =>
    rw [heldAfter, ih, List.exists_mem_cons_iff, ← e.inRetryWait_iff]
    by_cases hwait : e.inRetryWait = true
    · rw [if_pos hwait, List.mem_cons]
      simp only [hwait, true_and]
      constructor
      · rintro ((h | h) | h)
        · exact .inr (.inl h.symm)
        · exact .inl h
        · exact .inr (.inr h)
      · rintro (h | h | h)
        · exact .inl (.inr h)
        · exact .inl (.inl h.symm)
        · exact .inr h
    · rw [if_neg hwait]
      simp [hwait]

/-- Entries that do not wait, or are held back, are passed over. -/
theorem startFirst_passes {front : List QueueEntry} {held : List (Byte × Byte)} (rest : List QueueEntry)
    (h : ∀ before e after, front = before ++ e :: after → e.phase ≠ .waiting ∨ e.op.address ∈ heldAfter held before) :
    startFirst held (front ++ rest) =
      (startFirst (heldAfter held front) rest).map fun q => front.foldr behindWalk q := by
  induction front generalizing held with
  | nil => exact Option.map_id.symm ▸ rfl
  | cons x front ih =>
    have hx : ¬(x.phase = .waiting ∧ x.op.address ∉ held) := by
      rintro ⟨hwaits, hfree⟩
      exact (h [] x front rfl).elim (absurd hwaits) hfree
    have htail := ih (held := if x.inRetryWait then x.op.address :: held else held) fun before e after hfront =>
      h (x :: before) e after (by rw [hfront]; rfl)
    rw [List.cons_append, startFirst, if_neg hx, htail, Option.map_map]
    rfl

theorem startFirst_eligible {e : QueueEntry} {back : List QueueEntry} {held : List (Byte × Byte)}
    (hwaits : e.phase = .waiting) (hfree : e.op.address ∉ held) :
    startFirst held (e :: back) = some (e.started :: back) := if_pos ⟨hwaits, hfree⟩

/-- Put back before an entry that is no walk in flight, the entries passed over stand as they stood. -/
theorem foldr_behindWalk_of_not_walking {front : List QueueEntry} {e : QueueEntry} {back : List QueueEntry}
    (hfront : ∀ x ∈ front, x.walking = false) (he : e.walking = false) :
    front.foldr behindWalk (e :: back) = front ++ e :: back := by
  induction front with
  | nil => rfl
  | cons x front ih =>
    rw [List.foldr_cons, ih fun y hy => hfront y (List.mem_cons_of_mem x hy)]
    cases front with
    | nil => exact if_neg (by simp [he])
    | cons y front => exact if_neg (by simp [hfront y])

theorem foldr_behindWalk_of_inFlight {front : List QueueEntry} (q : List QueueEntry)
    (hfront : ∀ x ∈ front, x.phase = .inFlight) : front.foldr behindWalk q = front ++ q := by
  induction front with
  | nil => rfl
  | cons x front ih =>
    have hx := hfront x List.mem_cons_self
    rw [List.foldr_cons, ih fun y hy => hfront y (List.mem_cons_of_mem x hy)]
    unfold behindWalk
    split
    · next hnil => rw [List.cons_append, hnil]
    · next y rest hcons =>
      rw [if_neg (by simp [hx]), List.cons_append, hcons]

/-- A walk in flight takes the front. -/
theorem foldr_behindWalk_of_walking {front : List QueueEntry} {e : QueueEntry} {back : List QueueEntry}
    (hfront : ∀ x ∈ front, x.phase ≠ .inFlight) (he : e.walking = true) :
    front.foldr behindWalk (e :: back) = e :: front ++ back := by
  induction front with
  | nil => rfl
  | cons x front ih =>
    rw [List.foldr_cons, ih fun y hy => hfront y (List.mem_cons_of_mem x hy)]
    exact if_pos ⟨he, hfront x List.mem_cons_self⟩

theorem walking_eq_false {e : QueueEntry} (h : e.phase ≠ .inFlight) : e.walking = false := by
  unfold QueueEntry.walking
  split
  · exact decide_eq_false h
  · rfl

theorem started_walking_eq_false {e : QueueEntry} (h : ∀ next last started roster, e.op ≠ .walk next last started roster) :
    e.started.walking = false := by
  unfold QueueEntry.walking QueueEntry.started
  cases hop : e.op with
  | walk next last started roster => exact absurd hop (h _ _ _ _)
  | read | write => rfl

theorem started_walking {e : QueueEntry} (h : ∃ next last started roster, e.op = .walk next last started roster) :
    e.started.walking = true := by
  obtain ⟨next, last, started, roster, hop⟩ := h
  unfold QueueEntry.walking QueueEntry.started
  rw [hop]
  rfl

theorem QueueEntry.started_op {e : QueueEntry} (h : ∀ next last started roster, e.op ≠ .walk next last started roster) :
    e.started.op = e.op := by
  unfold QueueEntry.started
  cases hop : e.op with
  | walk next last started roster => exact absurd hop (h _ _ _ _)
  | read | write => rfl

theorem QueueEntry.started_persist_first {e : QueueEntry} {left : Nat} (hmode : e.mode = .persist left)
    (hpersist : e.persist = .unstarted) : e.started.persist = .running left := by
  unfold QueueEntry.started
  rw [hmode, hpersist]

theorem QueueEntry.started_persist_later {e : QueueEntry} (h : (∀ left, e.mode ≠ .persist left) ∨ e.persist ≠ .unstarted) :
    e.started.persist = e.persist := by
  unfold QueueEntry.started
  cases hmode : e.mode with
  | persist left =>
    cases hpersist : e.persist with
    | unstarted => exact absurd hpersist (h.resolve_left fun hnone => hnone left hmode)
    | running | expired => rfl
  | once | accept => rfl

/-- An attempt that starts puts an entry that is no walk in flight, the persist timeout starting at the first. -/
theorem QueueEntry.started_of_not_walk {e : QueueEntry}
    (h : ∀ next last started roster, e.op ≠ .walk next last started roster) :
    (∀ left, e.mode = .persist left → e.persist = .unstarted →
        e.started = { e with phase := .inFlight, persist := .running left })
      ∧ (((∀ left, e.mode ≠ .persist left) ∨ e.persist ≠ .unstarted) → e.started = { e with phase := .inFlight }) := by
  have hfields : e.started = { e with phase := .inFlight, persist := e.started.persist, op := e.started.op } := rfl
  rw [e.started_op h] at hfields
  refine ⟨fun left hmode hpersist => ?_, fun hnone => ?_⟩
  · rw [hfields, QueueEntry.started_persist_first hmode hpersist]
  · rw [hfields, QueueEntry.started_persist_later hnone]

/-! ## The transaction the idle bus goes to (R85) -/

theorem nextPoll_some {s : State} {i : Nat} {e : PollEntry} (hround : s.bus.round = .inProgress)
    (hretry : s.bus.pollRetry = none) (hpointer : s.bus.pointer = some i) (he : s.store.content.polls[i]? = some e) :
    nextPoll s = some (e, i + 1) := by
  unfold nextPoll
  rw [if_pos ⟨hround, hretry⟩, hpointer]
  dsimp only
  rw [he]
  rfl

theorem nextPoll_none {s : State} (h : s.bus.round ≠ .inProgress ∨ s.bus.pollRetry ≠ none ∨ s.bus.pointer = none
    ∨ ∃ i, s.bus.pointer = some i ∧ s.store.content.polls.length ≤ i) : nextPoll s = none := by
  unfold nextPoll
  rcases h with h | h | h | ⟨i, hpointer, hend⟩
  · exact if_neg fun hc => h hc.1
  · exact if_neg fun hc => h hc.2
  · rw [h]
    exact ite_self _
  · rw [hpointer]
    dsimp only
    rw [List.getElem?_eq_none hend]
    exact ite_self _

/-- Settles O43. -/
theorem arbiterTakesTheClassesInOrder : Obligations.ArbiterTakesTheClassesInOrder := by
  refine ⟨fun s => ⟨fun f hf => if_neg (by simp [hf]), fun hidle => ?_, fun hcab => ?_, fun c hcab => ?_⟩, ?_,
    fun e => ⟨QueueEntry.started_of_not_walk, fun next last started roster hop hmode => ?_⟩⟩
  · have harbiter : arbitrate s = (startNext s).getD s := if_pos hidle
    rw [harbiter]
    unfold startNext
    refine ⟨fun q hdoor => by rw [hdoor]; rfl, fun hdoor => ?_⟩
    rw [hdoor]
    refine ⟨fun q hheat => by rw [hheat]; rfl, fun hheat => ?_⟩
    rw [hheat]
    refine ⟨fun c hcab => by rw [hcab]; rfl, fun hcab => ?_⟩
    rw [hcab]
    refine ⟨fun q hremote => by rw [hremote]; rfl, fun hremote => ?_⟩
    rw [hremote]
    refine ⟨fun i e hround hretry hpointer he => ?_, fun hnone => ?_⟩
    · rw [nextPoll_some hround hretry hpointer he]
      have hpersist : pollPersistAt e s.bus.pollPersist =
          if e.mode = .persist ∧ s.bus.pollPersist = .unstarted then .running 50 else s.bus.pollPersist := by
        unfold pollPersistAt
        cases e.mode <;> cases s.bus.pollPersist <;> rfl
      rw [← hpersist]
      rfl
    · rw [nextPoll_none hnone]
      rfl
  · unfold nextCabTransfer
    rw [hcab]
  · unfold nextCabTransfer
    rw [hcab]
    refine ⟨fun hread => ?_, fun hwrite hsome => ?_, fun hwrite hnone => ?_⟩
    · exact if_neg (ne_true_of_eq_false hread)
    · exact (if_pos hwrite).trans (if_neg hsome)
    · exact (if_pos hwrite).trans (if_pos hnone)
  · intro Held NoneEligible
    have hpasses : ∀ front rest, NoneEligible front → startFirst [] (front ++ rest) =
        (startFirst (heldAfter [] front) rest).map fun q => front.foldr behindWalk q := fun front rest hnone =>
      startFirst_passes rest fun before e after hfront => (hnone before e after hfront).imp id fun hheld =>
        mem_heldAfter.mpr (.inr hheld)
    refine ⟨fun q hnone => by simpa [startFirst] using hpasses q [] hnone, fun front back e hnone hwaits hfree => ?_⟩
    have hstart : startFirst [] (front ++ e :: back) = some (front.foldr behindWalk (e.started :: back)) := by
      rw [hpasses front _ hnone, startFirst_eligible hwaits fun hheld =>
        hfree ((mem_heldAfter.mp hheld).resolve_left List.not_mem_nil)]
      rfl
    rw [hstart]
    exact ⟨fun hfront => congrArg some (foldr_behindWalk_of_inFlight _ hfront),
      fun hfront hop => congrArg some (foldr_behindWalk_of_not_walking (fun x hx => walking_eq_false (hfront x hx))
        (started_walking_eq_false hop)),
      fun hfront hop => congrArg some (foldr_behindWalk_of_walking hfront (started_walking hop))⟩
  · unfold QueueEntry.started
    rw [hop, hmode]

end Sys2Proof.Machine
end

section
/-! A transaction in flight is not disturbed by what the Door and Heat Units do at a round start (R85, R94). -/

namespace Sys2Proof.Machine

open Sys2Proof

/-- A transaction in flight stays in flight. -/
def FlightHeld (s t : State) : Prop := s.bus.flight ≠ none → t.bus.flight = s.bus.flight

namespace FlightHeld

theorem refl (s : State) : FlightHeld s s := fun _ => rfl

theorem of_eq {s t : State} (h : t.bus.flight = s.bus.flight) : FlightHeld s t := fun _ => h

theorem trans {s t u : State} (h : FlightHeld s t) (k : FlightHeld t u) : FlightHeld s u := fun hs =>
  (k (by rw [h hs]; exact hs)).trans (h hs)

theorem of_egress {s t : State} (h : EgressOnly s t) : FlightHeld s t := of_eq (by rw [h.bus])

theorem ite {c : Prop} [Decidable c] {s t u : State} (ht : FlightHeld s t) (hu : FlightHeld s u) :
    FlightHeld s (if c then t else u) := by
  split
  · exact ht
  · exact hu

theorem modBus {s : State} {f : Bus → Bus} (h : (f s.bus).flight = s.bus.flight) : FlightHeld s (s.modBus f) := of_eq h

theorem modDoor (f : Door → Door) (s : State) : FlightHeld s (s.modDoor f) := of_eq rfl

theorem modHeat (f : Heat → Heat) (s : State) : FlightHeld s (s.modHeat f) := of_eq rfl

theorem foldl {α : Type} {f : State → α → State} (hf : ∀ s a, FlightHeld s (f s a)) (l : List α) (s : State) :
    FlightHeld s (l.foldl f s) := by
  induction l generalizing s with
  | nil => exact refl s
  | cons a rest ih => exact (hf s a).trans (ih _)

end FlightHeld

theorem arbitrate_flightHeld (s : State) : FlightHeld s (arbitrate s) := fun h => by rw [arbitrate_busy s h]

theorem raise_flightHeld (kind : NoticeKind) (subject : Byte) (value : Nat) (s : State) :
    FlightHeld s (raise kind subject value s) := .of_egress (raise_egress _ _ _ _)

theorem offerDoorWrite_flightHeld (k : Nat) (station item command : Byte) (s : State) :
    FlightHeld s (offerDoorWrite k station item command s).1 := by
  unfold offerDoorWrite
  dsimp only
  split
  · exact (FlightHeld.modBus rfl).trans (arbitrate_flightHeld _)
  · split
    · exact (FlightHeld.modBus rfl).trans (arbitrate_flightHeld _)
    · exact .refl s

theorem offerHeatWrite_flightHeld (g : Nat) (station item : Byte) (count : Nat) (s : State) :
    FlightHeld s (offerHeatWrite g station item count s) := (FlightHeld.modBus rfl).trans (arbitrate_flightHeld _)

theorem modLeaf_flightHeld (k : Nat) (f : Leaf → Leaf) (s : State) : FlightHeld s (s.modLeaf k f) :=
  .ite (.refl s) (.of_eq rfl)

theorem evalVehicleProof_flightHeld (s : State) : FlightHeld s (evalVehicleProof s) := by
  unfold evalVehicleProof
  exact .modDoor _ s

theorem supersedeLeaf_flightHeld (k : Nat) (s : State) : FlightHeld s (supersedeLeaf k s) := .modBus rfl

theorem enterFault_flightHeld (k value : Nat) (s : State) : FlightHeld s (enterFault k value s) := by
  unfold enterFault
  exact ((((modLeaf_flightHeld k _ s).trans (supersedeLeaf_flightHeld k _)).trans (.modDoor _ _)).trans
    (evalVehicleProof_flightHeld _)).trans (raise_flightHeld _ _ _ _)

theorem enterLeaf_flightHeld (k : Nat) (st : LeafState) (s : State) : FlightHeld s (enterLeaf k st s) := by
  unfold enterLeaf
  dsimp only
  have hentered : FlightHeld s (evalVehicleProof (supersedeLeaf k
      (s.modLeaf k (Leaf.entered s.store.content (enteredState s.store.content st))))) :=
    ((modLeaf_flightHeld k _ s).trans (supersedeLeaf_flightHeld k _)).trans (evalVehicleProof_flightHeld _)
  split
  · split
    · exact (hentered.trans (offerDoorWrite_flightHeld k _ _ _ _)).trans (enterFault_flightHeld k _ _)
    · exact hentered.trans (offerDoorWrite_flightHeld k _ _ _ _)
  · exact hentered

theorem closeFailed_flightHeld (k : Nat) (s : State) : FlightHeld s (closeFailed k s) := by
  unfold closeFailed
  split
  · exact .refl s
  · exact .ite (enterFault_flightHeld k _ s) ((modLeaf_flightHeld k _ s).trans (enterLeaf_flightHeld k _ _))

theorem actOnStatus_flightHeld (k : Nat) (fromRead : Bool) (l : Leaf) (status : LeafStatus) (s : State) :
    FlightHeld s (actOnStatus k fromRead l status s) := by
  unfold actOnStatus
  cases l.state with
  | start =>
    unfold firstStatus
    cases status with
    | closedLocked | isolatedLocked | isolatedOpen => exact enterLeaf_flightHeld k _ s
    | opened | obstructed => exact (modLeaf_flightHeld k _ s).trans (enterLeaf_flightHeld k _ _)
  | closed =>
    cases status with
    | opened | obstructed => exact enterFault_flightHeld k _ s
    | _ => exact .refl s
  | closing =>
    refine .ite ?_ (.refl s)
    cases status with
    | closedLocked => exact enterLeaf_flightHeld k _ s
    | obstructed => exact closeFailed_flightHeld k s
    | _ => exact .refl s
  | fault => exact .ite (enterLeaf_flightHeld k _ s) (.refl s)
  | _ => exact .refl s

theorem leafStatusTold_flightHeld (k : Nat) (fromRead : Bool) (s : State) :
    FlightHeld s (leafStatusTold k fromRead s) := by
  unfold leafStatusTold
  dsimp only
  split
  · exact (evalVehicleProof_flightHeld s).trans (actOnStatus_flightHeld k fromRead _ _ _)
  · exact evalVehicleProof_flightHeld s

theorem doorRoundStart_flightHeld (s : State) : FlightHeld s (doorRoundStart s) :=
  (evalVehicleProof_flightHeld s).trans (.foldl (fun s k => leafStatusTold_flightHeld k false s) _ _)

theorem modGroup_flightHeld (g : Nat) (f : Group → Group) (s : State) : FlightHeld s (s.modGroup g f) :=
  .ite (.refl s) (.of_eq rfl)

theorem offerGroup_flightHeld (g count : Nat) (s : State) : FlightHeld s (offerGroup g count s) := by
  unfold offerGroup
  split
  · exact .refl s
  · exact (modGroup_flightHeld g _ s).trans (offerHeatWrite_flightHeld g _ _ _ _)

theorem discardIncrease_flightHeld (s : State) : FlightHeld s (discardIncrease s) := by
  rw [discardIncrease_eq]
  exact .of_eq rfl

theorem faultGroup_flightHeld (g : Nat) (cause : GroupFault) (s : State) : FlightHeld s (faultGroup g cause s) := by
  unfold faultGroup
  exact ((((modGroup_flightHeld g _ s).trans (offerGroup_flightHeld g 0 _)).trans (discardIncrease_flightHeld _)).trans
    (.modHeat _ _)).trans (raise_flightHeld _ _ _ _)

theorem groupRoundStart_flightHeld (g : Nat) (s : State) : FlightHeld s (groupRoundStart g s) := by
  unfold groupRoundStart
  split
  · exact .refl s
  · dsimp only
    exact .ite (offerGroup_flightHeld g 0 s)
      (.ite ((modGroup_flightHeld g _ s).trans (faultGroup_flightHeld g _ _)) (modGroup_flightHeld g _ s))

theorem heatRoundStart_flightHeld (s : State) : FlightHeld s (heatRoundStart s) :=
  .foldl (fun s g => groupRoundStart_flightHeld g s) _ s

end Sys2Proof.Machine
end

section
/-! The Heat Unit at a round start: group fault and the comparison of the feedback (R94, R167, R168). -/

namespace Sys2Proof.Machine

open Sys2Proof

/-- A group in group fault, commanded to 0. -/
def Group.faulted (cause : GroupFault) : Group where
  commanded := 0
  settled := false
  mismatch := 0
  fault := some cause

theorem modGroup_groupOnly (g : Nat) (f : Group → Group) (s : State) : GroupOnly g s (s.modGroup g f) := by
  refine ⟨State.modGroup_groupsOnly g f s, fun j hj => ⟨?_, fun c count h => h.congr ?_⟩⟩
  · rw [State.modGroup_group, if_neg hj]
  · unfold State.modGroup
    split <;> rfl

theorem GroupOnly.trans {g : Nat} {s t u : State} (h : GroupOnly g s t) (k : GroupOnly g t u) : GroupOnly g s u :=
  ⟨h.1.trans k.1, fun j hj => ⟨(k.2 j hj).1.trans (h.2 j hj).1, fun c count hs =>
    (k.2 j hj).2 c count ((h.2 j hj).2 c count hs)⟩⟩

/-- A group that goes into group fault is written to 0, the pending increase goes, and GROUP-FAULT is raised (R168). -/
theorem faultGroup_eq (g : Nat) (cause : GroupFault) (s : State) :
    let u := offerGroup g 0 (s.modGroup g fun x => { x with fault := some cause })
    GroupOnly g s u
      ∧ ∃ discards, faultGroup g cause s =
          raise .groupFault (byteOf g) (groupFaultCode cause)
            { u with heat := { s.heat with
                groups := u.heat.groups, increase := none, increaseDiscard := discards
                groupFaults := satInc s.heat.groupFaults } } := by
  intro u
  have honly : GroupOnly g s u := (modGroup_groupOnly g _ s).trans (offerGroup_groupOnly g 0 _)
  refine ⟨honly, if s.heat.increase = none then s.heat.increaseDiscard else satInc s.heat.increaseDiscard, ?_⟩
  · have hfault : faultGroup g cause s = raise .groupFault (byteOf g) (groupFaultCode cause)
        ((discardIncrease u).modHeat fun h => { h with groupFaults := satInc h.groupFaults }) := rfl
    rw [hfault, discardIncrease_eq]
    have hheat := honly.1.heat
    clear_value u
    have hincrease : u.heat.increase = s.heat.increase := by rw [hheat]
    have hdiscards : u.heat.increaseDiscard = s.heat.increaseDiscard := by rw [hheat]
    have hfaults : u.heat.groupFaults = s.heat.groupFaults := by rw [hheat]
    refine congrArg (raise _ _ _) ?_
    unfold State.modHeat
    dsimp only
    rw [hincrease, hdiscards, hfaults, hheat]

/-- What a group in group fault shows. -/
theorem faultGroup_spec {g : Nat} {x : Group} {c : GroupConfig} {s : State} (cause : GroupFault)
    (hx : s.group g = some x) (hc : s.groupConfig g = some c) :
    let t := faultGroup g cause s
    t.group g = some (Group.faulted cause) ∧ HeatWriteStands g c 0 t ∧ t.heat.increase = none
      ∧ t.heat.groupFaults = satInc s.heat.groupFaults ∧ t.heat.take = s.heat.take := by
  obtain ⟨-, discards, hfault⟩ := faultGroup_eq g cause s
  have hconfig := ((modGroup_groupOnly g (fun x => { x with fault := some cause }) s).1.groupConfig g).trans hc
  obtain ⟨hgroup, hstands⟩ := offerGroup_written (s := s.modGroup g fun x => { x with fault := some cause }) 0 hconfig
  rw [State.modGroup_group, if_pos rfl, hx] at hgroup
  generalize offerGroup g 0 (s.modGroup g fun x => { x with fault := some cause }) = u at *
  have hegress := raise_egress .groupFault (byteOf g) (groupFaultCode cause)
    { u with heat := { s.heat with
        groups := u.heat.groups, increase := none, increaseDiscard := discards
        groupFaults := satInc s.heat.groupFaults } }
  rw [← hfault] at hegress
  refine ⟨?_, hstands.congr (by rw [hegress.bus]), by rw [hegress.heat], by rw [hegress.heat], by rw [hegress.heat]⟩
  unfold State.group at hgroup ⊢
  rw [hegress.heat]
  exact hgroup

/-- Of the groups only `g` has been told of the round; a write that stood for another one still does, and no increase
is pending that was not. -/
structure GroupTold (g : Nat) (s t : State) : Prop where
  units : UnitsMove s t
  count : t.heat.groups.length = s.heat.groups.length
  others : ∀ j ≠ g, t.group j = s.group j ∧ ∀ c count, HeatWriteStands j c count s → HeatWriteStands j c count t
  increase : s.heat.increase = none → t.heat.increase = none

theorem GroupOnly.told {g : Nat} {s t : State} (h : GroupOnly g s t) (hunits : UnitsMove s t) : GroupTold g s t :=
  ⟨hunits, h.1.2, h.2, fun hs => by rw [h.1.heat]; exact hs⟩

theorem faultGroup_told (g : Nat) (cause : GroupFault) (s : State) : GroupTold g s (faultGroup g cause s) := by
  obtain ⟨honly, discards, hfault⟩ := faultGroup_eq g cause s
  have hunits := faultGroup_unitsMove g cause s
  generalize offerGroup g 0 (s.modGroup g fun x => { x with fault := some cause }) = u at *
  have hegress := raise_egress .groupFault (byteOf g) (groupFaultCode cause)
    { u with heat := { s.heat with
        groups := u.heat.groups, increase := none, increaseDiscard := discards
        groupFaults := satInc s.heat.groupFaults } }
  rw [← hfault] at hegress
  refine ⟨hunits, by rw [hegress.heat]; exact honly.1.2, fun j hj => ⟨?_, fun c count h => ?_⟩, fun _ => by rw [hegress.heat]⟩
  · have hother := (honly.2 j hj).1
    unfold State.group at hother ⊢
    rw [hegress.heat]
    exact hother
  · exact ((honly.2 j hj).2 c count h).congr (by rw [hegress.bus])

theorem groupRoundStart_told (g : Nat) (s : State) : GroupTold g s (groupRoundStart g s) := by
  have hunits := groupRoundStart_unitsMove g s
  unfold groupRoundStart at hunits ⊢
  split
  · exact (GroupOnly.refl g s).told (.refl s)
  · next x hx =>
    rw [hx] at hunits
    dsimp only at hunits ⊢
    split
    · exact (offerGroup_groupOnly g 0 s).told (offerGroup_heatWrites g 0 s).unitsMove
    · have hmod : GroupTold g s (s.modGroup g fun y =>
          { y with mismatch := comparedMismatch x (s.freshValue (.groupFeedback g)) }) :=
        (modGroup_groupOnly g _ s).told (modGroup_heatWrites g _ s).unitsMove
      split
      · have hfault := faultGroup_told g .feedback (s.modGroup g fun y =>
          { y with mismatch := comparedMismatch x (s.freshValue (.groupFeedback g)) })
        exact ⟨hmod.units.trans hfault.units, hfault.count.trans hmod.count, fun j hj =>
          ⟨(hfault.others j hj).1.trans (hmod.others j hj).1, fun c count h =>
            (hfault.others j hj).2 c count ((hmod.others j hj).2 c count h)⟩,
          fun h => hfault.increase (hmod.increase h)⟩
      · exact hmod

theorem UnitsMove.freshValue {s t : State} (h : UnitsMove s t) (d : PollDest) : t.freshValue d = s.freshValue d := by
  unfold State.freshValue State.record
  rw [Bus.records_of_rest h.bus]

/-- After the groups have been told in turn a group shows what its own turn made of it. -/
theorem foldl_groupRoundStart {l : List Nat} (hnodup : l.Nodup) {g : Nat} (hg : g ∈ l) (s : State) :
    ∃ u, UnitsMove s u ∧ u.group g = s.group g
      ∧ (l.foldl (fun s g => groupRoundStart g s) s).group g = (groupRoundStart g u).group g
      ∧ (∀ c count, HeatWriteStands g c count (groupRoundStart g u) →
          HeatWriteStands g c count (l.foldl (fun s g => groupRoundStart g s) s))
      ∧ ((groupRoundStart g u).heat.increase = none → (l.foldl (fun s g => groupRoundStart g s) s).heat.increase = none) := by
  have hlater : ∀ (l : List Nat) (s : State), g ∉ l →
      (l.foldl (fun s g => groupRoundStart g s) s).group g = s.group g
        ∧ (∀ c count, HeatWriteStands g c count s → HeatWriteStands g c count (l.foldl (fun s g => groupRoundStart g s) s))
        ∧ (s.heat.increase = none → (l.foldl (fun s g => groupRoundStart g s) s).heat.increase = none) := by
    intro l
    induction l with
    | nil => exact fun s _ => ⟨rfl, fun _ _ h => h, fun h => h⟩
    | cons a rest ih =>
      intro s hnot
      rw [List.mem_cons, not_or] at hnot
      have htold := groupRoundStart_told a s
      obtain ⟨hgroup, hstands, hincrease⟩ := ih (groupRoundStart a s) hnot.2
      exact ⟨hgroup.trans (htold.others g hnot.1).1, fun c count h => hstands c count ((htold.others g hnot.1).2 c count h),
        fun h => hincrease (htold.increase h)⟩
  induction l generalizing s with
  | nil => cases hg
  | cons a rest ih =>
    rw [List.nodup_cons] at hnodup
    by_cases ha : g = a
    · subst ha
      exact ⟨s, .refl s, rfl, hlater rest _ hnodup.1⟩
    · have htold := groupRoundStart_told a s
      obtain ⟨u, hunits, hgroup, hend⟩ := ih hnodup.2 ((List.mem_cons.mp hg).resolve_left ha) (groupRoundStart a s)
      exact ⟨u, htold.units.trans hunits, hgroup.trans (htold.others g ha).1, hend⟩

theorem UnitsMove.groupConfig {s t : State} (h : UnitsMove s t) (g : Nat) : t.groupConfig g = s.groupConfig g := by
  unfold State.groupConfig
  rw [h.store]

/-- What a round start makes of one group (R94, R167, R168). -/
theorem heatRoundStart_group {g : Nat} {x : Group} {c : GroupConfig} {s : State} (hx : s.group g = some x)
    (hc : s.groupConfig g = some c) :
    let t := heatRoundStart s
    let m := comparedMismatch x (s.freshValue (.groupFeedback g))
    let Zero (fault : GroupFault) : Prop := t.group g = some (Group.faulted fault) ∧ HeatWriteStands g c 0 t
    (∀ why, x.fault = some why → Zero why)
      ∧ (x.fault = none → m < 3 → t.group g = some { x with mismatch := m })
      ∧ (x.fault = none → 3 ≤ m → Zero .feedback ∧ t.heat.increase = none) := by
  intro t m Zero
  have hg : g ∈ s.groupNumbers := by
    unfold State.group at hx
    split at hx
    · cases hx
    · have hmem := mem_groupNumbers hx
      rwa [show g - 1 + 1 = g by omega] at hmem
  obtain ⟨u, hunits, hgroup, hend, hstands, hincrease⟩ := foldl_groupRoundStart s.groupNumbers_nodup hg s
  have hxu : u.group g = some x := hgroup.trans hx
  have hcu : u.groupConfig g = some c := (hunits.groupConfig g).trans hc
  have hend : t.group g = (groupRoundStart g u).group g := hend
  have hstands : ∀ c count, HeatWriteStands g c count (groupRoundStart g u) → HeatWriteStands g c count t := hstands
  have hincrease : (groupRoundStart g u).heat.increase = none → t.heat.increase = none := hincrease
  have hturn : groupRoundStart g u =
      if x.fault ≠ none then offerGroup g 0 u
      else if 3 ≤ m then faultGroup g .feedback (u.modGroup g fun y => { y with mismatch := m })
      else u.modGroup g fun y => { y with mismatch := m } := by
    unfold groupRoundStart
    rw [hxu]
    dsimp only
    rw [hunits.freshValue]
    rfl
  have hmod : (u.modGroup g fun y => { y with mismatch := m }).group g = some { x with mismatch := m } := by
    rw [State.modGroup_group, if_pos rfl, hxu]
    rfl
  rw [hturn] at hend hstands hincrease
  refine ⟨fun why hwhy => ?_, fun hnone hm => ?_, fun hnone hm => ?_⟩
  · rw [if_pos (by simp [hwhy])] at hend hstands
    obtain ⟨hwritten, hqueued⟩ := offerGroup_written 0 hcu
    refine ⟨?_, hstands c 0 hqueued⟩
    rw [hend, hwritten, hxu, Group.faulted, ← hwhy]
    rfl
  · rw [if_neg (by simp [hnone]), if_neg (by omega)] at hend
    exact hend.trans hmod
  · rw [if_neg (by simp [hnone]), if_pos hm] at hend hstands hincrease
    obtain ⟨hfaulted, hqueued, hgone, -⟩ := faultGroup_spec .feedback hmod
      (((modGroup_groupOnly g (fun y => { y with mismatch := m }) u).1.groupConfig g).trans hcu)
    exact ⟨⟨hend.trans hfaulted, hstands c 0 hqueued⟩, hincrease hgone⟩

end Sys2Proof.Machine
end

section
/-! A round start in any consist state: the record, the groups and the bus but for its cab service stay what they were
(R89 to R92, R95, R99). -/

namespace Sys2Proof.Machine

open Sys2Proof

/-- The bus but for what the loss of the cab station moves. -/
def Bus.lossApart (b : Bus) : Bus := { b with silence := 0, cabState := .lost, outbound := [], cabDrop := 0 }

/-- Neither the record, nor a group, nor the bus but for what the loss of the cab station moves has changed. -/
structure CabStep (s t : State) : Prop where
  groups : t.heat.groups = s.heat.groups
  store : t.store = s.store
  bus : t.bus.lossApart = s.bus.lossApart

namespace CabStep

theorem refl (s : State) : CabStep s s := ⟨rfl, rfl, rfl⟩

theorem trans {s t u : State} (h : CabStep s t) (k : CabStep t u) : CabStep s u :=
  ⟨k.groups.trans h.groups, k.store.trans h.store, k.bus.trans h.bus⟩

theorem of_egress {s t : State} (h : EgressOnly s t) : CabStep s t :=
  ⟨by rw [h.heat], h.store, by rw [h.bus]; rfl⟩

theorem of_bus {s t : State} (hgroups : t.heat.groups = s.heat.groups) (hstore : t.store = s.store)
    (hbus : t.bus = s.bus) : CabStep s t := ⟨hgroups, hstore, by rw [hbus]⟩

theorem modConsist (f : Consist → Consist) (s : State) : CabStep s (s.modConsist f) := ⟨rfl, rfl, rfl⟩

theorem modBus {s : State} {f : Bus → Bus} (h : (f s.bus).lossApart = s.bus.lossApart) : CabStep s (s.modBus f) :=
  ⟨rfl, rfl, h⟩

theorem ite {c : Prop} [Decidable c] {s t u : State} (ht : CabStep s t) (hu : CabStep s u) :
    CabStep s (if c then t else u) := by
  split
  · exact ht
  · exact hu

end CabStep

theorem stopSweeping_cabStep (s : State) : CabStep s (stopSweeping s) := ⟨rfl, rfl, rfl⟩

theorem setConsistState_cabStep (st : ConsistState) (s : State) : CabStep s (setConsistState st s) := by
  unfold setConsistState
  exact .ite ((CabStep.modConsist _ s).trans (stopSweeping_cabStep _)) (.modConsist _ s)

theorem setGeneration_cabStep (g : Byte) (s : State) : CabStep s (setGeneration g s) := by
  unfold setGeneration heatGenerationChanged
  dsimp only
  rw [discardIncrease_eq]
  exact .ite (.refl s) ⟨rfl, rfl, rfl⟩

theorem enterUnknown_cabStep (s : State) : CabStep s (enterUnknown s) := by
  have hgeneration : CabStep s (setGeneration 0#8 ((setConsistState .unknown s).modConsist fun c =>
      { c with activeMap := [], wait := .stopped })) :=
    ((setConsistState_cabStep .unknown s).trans (.modConsist _ _)).trans (setGeneration_cabStep _ _)
  unfold enterUnknown
  exact .ite (hgeneration.trans ⟨rfl, rfl, rfl⟩) hgeneration

theorem changeEffect_cabStep (s : State) : CabStep s (changeEffect s) := by
  unfold changeEffect
  dsimp only
  split
  · exact (setConsistState_cabStep _ s).trans (.modConsist _ _)
  · exact .modConsist _ s
  · exact .modConsist _ s
  · exact .refl s

theorem announceChange_cabStep (s : State) : CabStep s (announceChange s) := by
  have hentered : CabStep s (ownChangeEntered s) := ⟨rfl, rfl, rfl⟩
  exact hentered.trans (.of_egress (announceChange_egress s))

theorem leaveCensus_cabStep (s : State) : CabStep s (leaveCensus s) := by
  have hended : CabStep s (s.modConsist fun c => { c with pendingMap := none, holdTimer := none, rollTimer := none }) :=
    .modConsist _ s
  unfold leaveCensus
  dsimp only
  split
  · exact hended.trans (setConsistState_cabStep _ _)
  · exact (hended.trans (setConsistState_cabStep _ _)).trans (.modConsist _ _)
  · exact hended.trans (enterUnknown_cabStep _)
  · exact hended

theorem loseValidity_cabStep (s : State) : CabStep s (loseValidity s) := by
  unfold loseValidity
  extract_lets counting s1 s2 s3 s4
  have h2 : CabStep s s2 := ⟨rfl, rfl, rfl⟩
  have h3 : CabStep s s3 := .ite (h2.trans (.modConsist _ s2)) h2
  have h4 : CabStep s s4 := (h3.trans (announceChange_cabStep _)).trans (changeEffect_cabStep _)
  exact .ite (h4.trans (leaveCensus_cabStep _)) h4

theorem dropClaims_cabStep (s : State) : CabStep s (dropClaims s) := by
  have hcleared : CabStep s ((setClaims false false s).modConsist fun c => { c with status := .none }) := by
    unfold setClaims
    exact CabStep.trans (.ite (.refl s) (.modConsist _ s)) (.modConsist _ _)
  unfold dropClaims
  exact .ite (hcleared.trans (loseValidity_cabStep _)) hcleared

theorem cabLost_cabStep (s : State) : CabStep s (cabLost s) := by
  have hlost : CabStep s (s.modBus fun b => { b with cabState := .lost }) := .modBus rfl
  have hcleared : ∀ t, CabStep t (clearRequestBits t) := fun _ => ⟨rfl, rfl, rfl⟩
  unfold cabLost
  exact ((hlost.trans (dropClaims_cabStep _)).trans (hcleared _)).trans (.of_egress (raise_egress _ _ _ _))

theorem takeCabOutcome_cabStep (t : CabTally) (s : State) : CabStep s (takeCabOutcome t s) := by
  have hsilent : CabStep s (s.modBus fun b => { b with silence := satInc8 b.silence }) := .modBus rfl
  unfold takeCabOutcome
  exact .ite (.refl s) (.ite (.modBus rfl) (.ite (.ite (hsilent.trans (cabLost_cabStep _)) hsilent) (.refl s)))

/-- The end of the cab service in class 3: a transfer in flight runs on outside the class with its tally (R95). -/
theorem endCabEntry_spec (s : State) :
    let t := endCabEntry s
    t.heat.groups = s.heat.groups ∧ t.store = s.store ∧ t.bus.cabApart = s.bus.cabApart ∧ t.bus.cab = none
      ∧ ∀ transfer c, s.bus.flight = some (.cab transfer none) → s.bus.cab = some c →
          t.bus.flight = some (.cab transfer (some c.tally)) := by
  intro t
  unfold t endCabEntry
  cases hcab : s.bus.cab with
  | none => exact ⟨rfl, rfl, rfl, hcab, fun _ _ _ h => by cases h⟩
  | some c =>
    dsimp only [State.modBus]
    split
    · next transfer hflight =>
      refine ⟨rfl, rfl, rfl, rfl, fun transfer' c' hf hc => ?_⟩
      cases hc
      cases hflight.symm.trans hf
      rfl
    · next hother =>
      have hstep := takeCabOutcome_cabStep c.tally { s with bus := { s.bus with cab := none } }
      have hapart := congrArg Bus.cabApart hstep.bus
      have hcab' := congrArg Bus.cab hstep.bus
      exact ⟨hstep.groups, hstep.store, hapart, hcab', fun transfer c' hf _ => absurd hf (hother transfer)⟩

theorem placeCabEntry_spec (s : State) :
    let t := placeCabEntry s
    t.heat.groups = s.heat.groups ∧ t.store = s.store ∧ t.bus.cabApart = s.bus.cabApart
      ∧ t.bus.cab = (if s.cabServed then some CabEntry.fresh else none)
      ∧ ∀ transfer c, s.bus.flight = some (.cab transfer none) → s.bus.cab = some c →
          t.bus.flight = some (.cab transfer (some c.tally)) := by
  intro t
  obtain ⟨hgroups, hstore, hapart, hcab, hflight⟩ := endCabEntry_spec s
  have hserved : (endCabEntry s).cabServed = s.cabServed := by rw [State.cabServed, hstore, State.cabServed]
  unfold t placeCabEntry
  dsimp only
  rw [hserved]
  split
  · exact ⟨hgroups, hstore, hapart, rfl, hflight⟩
  · exact ⟨hgroups, hstore, hapart, hcab, hflight⟩

/-- What an overrun leaves of the bus (R91): it detaches no cab transfer, and is counted where entries were left to
poll. -/
def OverrunLeaves (s : State) (b : Bus) : Prop :=
  b.overrunApart = s.bus.overrunApart ∧ b.cab = s.bus.cab
    ∧ b.overruns = (if s.bus.round = .inProgress ∧ pointerPastEnd s = false then satInc s.bus.overruns
        else s.bus.overruns)
    ∧ ∀ transfer, s.bus.flight = some (.cab transfer none) → b.flight = some (.cab transfer none)

theorem overrunRound_leaves (s : State) :
    ∃ f : Bus → Bus, OverrunLeaves s (f s.bus)
      ∧ (overrunRound s = s.modBus f ∨ ∃ n, overrunRound s = raise .roundOverrun 0#8 n (s.modBus f)) := by
  have hdetached := s.bus.detachPoll_apart .overrun
  have hside := congrArg Prod.fst (s.bus.detachPoll_cabSide .overrun)
  have hflight : ∀ transfer, s.bus.flight = some (.cab transfer none) →
      (s.bus.detachPoll .overrun).flight = some (.cab transfer none) := fun transfer h => by
    unfold Bus.detachPoll
    rw [h]
  unfold overrunRound OverrunLeaves
  split
  · dsimp only
    split
    · exact ⟨fun b => { b.detachPoll .overrun with
        overruns := satInc b.overruns, overrunHoldoff := some Config.overrunHoldoffMs },
        ⟨hdetached, hside, rfl, hflight⟩, .inr ⟨_, rfl⟩⟩
    · exact ⟨fun b => { b.detachPoll .overrun with overruns := satInc b.overruns },
        ⟨hdetached, hside, rfl, hflight⟩, .inl rfl⟩
  · exact ⟨id, ⟨rfl, rfl, rfl, fun _ h => h⟩, .inl rfl⟩

theorem overrunRound_bus (s : State) :
    (overrunRound s).heat.groups = s.heat.groups ∧ (overrunRound s).store = s.store
      ∧ OverrunLeaves s (overrunRound s).bus := by
  obtain ⟨f, hf, heq | ⟨n, heq⟩⟩ := overrunRound_leaves s
  · rw [heq]
    exact ⟨rfl, rfl, hf⟩
  · have hegress := raise_egress .roundOverrun 0#8 n (s.modBus f)
    rw [← heq] at hegress
    refine ⟨congrArg Heat.groups hegress.heat, hegress.store, ?_⟩
    rw [hegress.bus]
    exact hf

/-- A round start up to where the units are told of it, in any consist state (R89 to R92, R95). -/
theorem roundPlaced_bus (duration : Nat) (s : State) :
    let u := roundPlaced duration s
    u.heat.groups = s.heat.groups ∧ u.store = s.store ∧ u.bus.roundTimer = some duration ∧ u.bus.pointer = some 0
      ∧ u.bus.records = s.bus.age.records ∧ (s.store.content.polls ≠ [] → u.bus.round = .inProgress)
      ∧ u.bus.overruns = (if s.bus.round = .inProgress ∧ pointerPastEnd s = false then satInc s.bus.overruns
          else s.bus.overruns)
      ∧ u.bus.cab = (if s.cabServed then some CabEntry.fresh else none)
      ∧ ∀ transfer c, s.bus.flight = some (.cab transfer none) → s.bus.cab = some c →
          u.bus.flight = some (.cab transfer (some c.tally)) := by
  intro u
  obtain ⟨hgroups, hstore, hapart, hcab, hoverruns, hflight⟩ :=
    overrunRound_bus (s.modBus fun b => { b with roundTimer := some duration })
  have hu : u = arbitrate (finishRound (placeCabEntry
      ((overrunRound (s.modBus fun b => { b with roundTimer := some duration })).modBus fun b =>
        { b.age with pointer := some 0, round := .inProgress }))) := rfl
  clear_value u
  generalize overrunRound (s.modBus fun b => { b with roundTimer := some duration }) = o at *
  obtain ⟨hgroups', hstore', hapart', hcab', hflight'⟩ :=
    placeCabEntry_spec (o.modBus fun b => { b.age with pointer := some 0, round := .inProgress })
  generalize placeCabEntry (o.modBus fun b => { b.age with pointer := some 0, round := .inProgress }) = c at *
  have honly : BusOnly c u := by
    rw [hu]
    exact (finishRound_busOnly c).trans (arbitrate_busOnly _)
  obtain ⟨-, -, -, hrest⟩ := arbitrate_bus (finishRound c)
  obtain ⟨r, hround⟩ := finishRound_bus c
  rw [← hu, hround] at hrest
  have htimer := congrArg Bus.roundTimer hrest
  have hpointer := congrArg Bus.pointer hrest
  have hrecords := congrArg Bus.records hrest
  have hcounted := congrArg Bus.overruns hrest
  have hentry := congrArg Bus.cab hrest
  have htimer' := congrArg Bus.roundTimer hapart'
  have hpointer' := congrArg Bus.pointer hapart'
  have hrecords' := congrArg Bus.records hapart'
  have hcounted' := congrArg Bus.overruns hapart'
  have htimer'' := congrArg Bus.roundTimer hapart
  have hrecords'' : o.bus.records = s.bus.records := by
    have hkept := congrArg Bus.records hapart
    exact hkept
  have hstore'' : c.store = s.store := hstore'.trans hstore
  have hserved : (o.modBus fun b => { b.age with pointer := some 0, round := .inProgress }).cabServed = s.cabServed := by
    show o.cabServed = _
    rw [State.cabServed, hstore]
    rfl
  refine ⟨by rw [honly.heat, hgroups']; exact hgroups, honly.store.trans hstore'',
    htimer.trans (Eq.trans htimer' htimer''), hpointer.trans hpointer', ?_, fun hpolls => ?_, ?_, ?_, fun transfer e hf hc => ?_⟩
  · refine hrecords.trans (Eq.trans hrecords' ?_)
    show o.bus.records.map _ = s.bus.records.map _
    rw [hrecords'']
  · have hinProgress : c.bus.round = .inProgress := by
      have hkept := congrArg Bus.round hapart'
      exact hkept
    have hpast : pointerPastEnd c = false := by
      have hfirst : c.bus.pointer = some 0 := hpointer'
      unfold pointerPastEnd
      rw [hfirst, hstore'']
      simpa using hpolls
    have hstays : finishRound c = c := if_neg (by simp [hpast])
    rw [hstays] at hround
    have hr : c.bus.round = r := congrArg Bus.round hround
    have hkept := congrArg Bus.round hrest
    exact hkept.trans (hr.symm.trans hinProgress)
  · exact hcounted.trans (Eq.trans hcounted' hoverruns)
  · rw [← hserved]
    exact hentry.trans hcab'
  · have hflying : c.bus.flight = some (.cab transfer (some e.tally)) :=
      hflight' transfer e (hflight transfer hf) (hcab.trans hc)
    have hbusy : (finishRound c).bus.flight = some (.cab transfer (some e.tally)) := by
      rw [hround]
      exact hflying
    rw [hu, arbitrate_busy _ (by rw [hbusy]; exact Option.some_ne_none _)]
    exact hbusy

/-- The mismatch count by the feedback a group has (R167). -/
theorem comparedMismatch_unfit {x : Group} {feedback : Option (List Byte)}
    (h : x.settled = false ∨ feedback = none ∨ feedback = some []) : comparedMismatch x feedback = x.mismatch := by
  unfold comparedMismatch
  rcases h with h | h | h
  · rw [h]
  · rw [h]
    cases x.settled <;> rfl
  · rw [h]
    cases x.settled <;> rfl

/-- A round start makes every record one older, so that a value is fresh where it was of age 1 at most before (R92). -/
theorem record_aged {s t : State} (h : t.bus.records = s.bus.age.records) (d : PollDest) :
    t.record d = (s.record d).map fun r => { r with age := satInc8 r.age } := by
  unfold State.record
  rw [h]
  exact find_record_map (g := fun r => { r with age := satInc8 r.age }) (fun _ => rfl) d s.bus.records

theorem freshValue_aged {s t : State} (h : t.bus.records = s.bus.age.records) (d : PollDest) :
    (∀ r, s.record d = some r → r.age ≤ 1 → t.freshValue d = r.value)
      ∧ ((∀ r, s.record d = some r → 1 < r.age ∨ r.value = none) → t.freshValue d = none) := by
  unfold State.freshValue
  rw [record_aged h]
  refine ⟨fun r hr hage => ?_, fun hstale => ?_⟩
  · rw [hr]
    have hfresh : satInc8 r.age ≤ 2 := by
      simp only [satInc8]
      omega
    exact if_pos hfresh
  · cases hr : s.record d with
    | none => rfl
    | some r =>
      rcases hstale r hr with hage | hvalue
      · have hold : ¬satInc8 r.age ≤ 2 := by
          simp only [satInc8]
          omega
        exact if_neg hold
      · exact (congrArg (ite _ · none) hvalue).trans (ite_self _)

theorem exec_roundTimerRunout {s : State} (hpower : s.powered = true) (hrunning : s.bus.roundTimer ≠ none) :
    exec .roundTimerRunout s = .next (finish (roundStart 100 s)) := by
  rw [show exec .roundTimerRunout s = live roundTimerEnds s from rfl, live_powered _ s hpower]
  unfold roundTimerEnds onlyIf
  rw [if_pos (Option.isSome_iff_ne_none.mpr hrunning)]
  rfl

/-- Settles O44. -/
theorem roundStartAgesRecords : Obligations.RoundStartAgesRecords := by
  intro s hpower hrunning
  refine ⟨⟨_, exec_roundTimerRunout hpower hrunning, ?_⟩, live_powered overrunHoldoffEnds s hpower⟩
  obtain ⟨hgroups, hstore, htimer, hpointer, hrecords, hround, hoverruns, hcab, hflight⟩ := roundPlaced_bus 100 s
  have hdoors := doorRoundStart_unitsMove (roundPlaced 100 s)
  have hdoorHeat := (doorRoundStart_leavesOnly (roundPlaced 100 s)).heat
  have hheld := (doorRoundStart_flightHeld (roundPlaced 100 s)).trans (heatRoundStart_flightHeld _)
  have hunits := hdoors.trans (heatRoundStart_unitsMove (doorRoundStart (roundPlaced 100 s)))
  have hegress := finish_egress (roundStart 100 s)
  rw [roundStart_eq] at hegress ⊢
  have hgroup := fun g x c => heatRoundStart_group (g := g) (x := x) (c := c) (s := doorRoundStart (roundPlaced 100 s))
  have hfresh := fun d => freshValue_aged (s := s) (t := roundPlaced 100 s) hrecords d
  generalize roundPlaced 100 s = u at *
  have hfreshSame := fun d => hdoors.freshValue d
  have hconfigSame := fun g => hdoors.groupConfig g
  generalize doorRoundStart u = v at *
  generalize heatRoundStart v = w at *
  have hbus : ∀ {α : Type} (f : Bus → α), (∀ b : Bus, ∀ o d, f { b with outbound := o, cabDrop := d } = f b) →
      f (finish w).bus = f w.bus := fun f hf => by
    rw [hegress.bus]
    exact hf _ _ _
  have htimer' := congrArg Bus.roundTimer hunits.bus
  have hpointer' := congrArg Bus.pointer hunits.bus
  have hround' := congrArg Bus.round hunits.bus
  have hoverruns' := congrArg Bus.overruns hunits.bus
  have hcab' := congrArg Bus.cab hunits.bus
  have hpast : ∀ i, s.bus.pointer = some i → (pointerPastEnd s = false ↔ i < s.store.content.polls.length) := by
    intro i hi
    unfold pointerPastEnd
    rw [hi]
    simp
  refine ⟨(hbus Bus.roundTimer fun _ _ _ => rfl).trans (Eq.trans htimer' htimer),
    (hbus Bus.pointer fun _ _ _ => rfl).trans (Eq.trans hpointer' hpointer),
    (hbus Bus.records fun _ _ _ => rfl).trans ((Bus.records_of_rest hunits.bus).trans hrecords),
    fun hpolls => (hbus Bus.round fun _ _ _ => rfl).trans (Eq.trans hround' (hround hpolls)), fun i hin hi => ?_,
    fun hnot => ?_, hegress.store.trans (hunits.store.trans hstore),
    (hbus Bus.cab fun _ _ _ => rfl).trans (Eq.trans hcab' hcab), fun transfer c hf hc => ?_, fun g x c hx hc => ?_⟩
  · refine (hbus Bus.overruns fun _ _ _ => rfl).trans (Eq.trans hoverruns' (hoverruns.trans ?_))
    simp only [hin, true_and, hpast i hi]
  · refine (hbus Bus.overruns fun _ _ _ => rfl).trans (Eq.trans hoverruns' (hoverruns.trans ?_))
    rw [if_neg fun h => hnot h.1]
  · have hflying := hflight transfer c hf hc
    refine (hbus Bus.flight fun _ _ _ => rfl).trans ((hheld ?_).trans hflying)
    rw [hflying]
    exact Option.some_ne_none _
  · have hsame : ∀ j, (finish w).group j = w.group j := fun j => by
      unfold State.group
      rw [hegress.heat]
    have hqueue : (finish w).bus.heatQueue = w.bus.heatQueue := hbus Bus.heatQueue fun _ _ _ => rfl
    have hxv : v.group g = some x := by
      unfold State.group at hx ⊢
      rw [hdoorHeat, hgroups]
      exact hx
    have hcv : v.groupConfig g = some c := by
      rw [hconfigSame]
      unfold State.groupConfig at hc ⊢
      rw [hstore]
      exact hc
    obtain ⟨hfaulty, hless, hthree⟩ := hgroup g x c hxv hcv
    rw [hfreshSame] at hless hthree
    obtain ⟨hread, hstale⟩ := hfresh (.groupFeedback g)
    rw [hsame]
    have hzero : ∀ fault, w.group g = some (Group.faulted fault) ∧ HeatWriteStands g c 0 w →
        w.group g = some (Group.faulted fault) ∧ HeatWriteStands g c 0 (finish w) := fun fault h =>
      ⟨h.1, h.2.congr hqueue⟩
    refine ⟨fun why hwhy => hzero why (hfaulty why hwhy), fun hnone hmismatch hunfit => ?_,
      fun r b more hnone hsettled hr hage hvalue => ?_⟩
    · have hkept : comparedMismatch x (u.freshValue (.groupFeedback g)) = x.mismatch :=
        comparedMismatch_unfit (hunfit.imp id fun h => .inl (hstale h))
      rw [hkept] at hless
      exact hless hnone hmismatch
    · have hcompared : comparedMismatch x (u.freshValue (.groupFeedback g)) =
          if b.toNat = x.commanded then 0 else x.mismatch + 1 := by
        unfold comparedMismatch
        rw [hread r hr hage, hsettled, hvalue]
      rw [hcompared] at hless hthree
      refine ⟨fun heq => ?_, fun hne hlow => ?_, fun hne hhigh => ?_⟩
      · rw [if_pos heq] at hless
        exact hless hnone (by decide)
      · rw [if_neg hne] at hless
        exact hless hnone (by omega)
      · rw [if_neg hne] at hthree
        obtain ⟨hfault, hgone⟩ := hthree hnone (by omega)
        exact ⟨hzero .feedback hfault, (congrArg Heat.increase hegress.heat).trans hgone⟩

end Sys2Proof.Machine
end

section
/-! How a poll read ends (R80 to R82, R90, R92, R93). -/

namespace Sys2Proof.Machine

open Sys2Proof

/-- The records after a poll result. -/
def PollResult.applied (p : PollResult) (e : PollEntry) (rs : List StatusRecord) : List StatusRecord :=
  rs.map fun r => if r.dest = e.dest then p.apply r else r

/-- A poll result is applied to the records; of the rest of the bus nothing moves (R92 to R94). -/
theorem applyPoll_rest (e : PollEntry) (number : Nat) (p : PollResult) (s : State) :
    (applyPoll e number p s).bus.rest = { s.bus with records := p.applied e s.bus.records }.rest := by
  have hchange : ∀ data, EgressOnly s (stationChange e number data s) := fun data => by
    unfold stationChange
    split
    · split
      · split
        · exact raise_egress _ _ _ s
        · exact .refl s
      · exact .refl s
    · exact .refl s
  have htold : ∀ d fromRead t, UnitsMove t (tellPollOwner d fromRead t) := fun d fromRead t => by
    unfold tellPollOwner
    cases d with
    | leafStatus k => exact leafStatusTold_unitsMove k fromRead t
    | _ => exact .refl t
  have hrecords : ∀ t, EgressOnly s t →
      (t.modBus fun b => { b with records := p.applied e b.records }).bus.rest =
        { s.bus with records := p.applied e s.bus.records }.rest := fun t ht => by
    rw [State.modBus_bus, ht.bus]
    rfl
  unfold applyPoll
  cases p with
  | value data => exact (htold _ _ _).bus.trans (hrecords _ (hchange data))
  | kept | withdrawn => exact (htold _ _ _).bus.trans (hrecords _ (.refl s))

/-- The pointer past the entry that has ended (R90). -/
theorem advancePointer_eq {i : Nat} {s : State} (h : s.bus.pointer = some i) :
    advancePointer s =
      { s with bus := { s.bus with
          pointer := some (i + 1), pollRetry := none, pollPersist := .unstarted
          round :=
            if s.bus.round = .inProgress ∧ s.store.content.polls.length ≤ i + 1 ∧ s.bus.cab = none then .finished
            else s.bus.round } } := by
  have hmoved : (s.modBus fun b => { b with
      pointer := b.pointer.map (· + 1), pollRetry := none, pollPersist := .unstarted }) =
      { s with bus := { s.bus with pointer := some (i + 1), pollRetry := none, pollPersist := .unstarted } } := by
    unfold State.modBus
    dsimp only
    rw [h]
    rfl
  unfold advancePointer
  rw [hmoved]
  unfold finishRound pointerPastEnd
  dsimp only
  by_cases hend : s.bus.round = .inProgress ∧ s.store.content.polls.length ≤ i + 1 ∧ s.bus.cab = none
  · rw [if_pos hend, if_pos (by simpa using hend)]
    rfl
  · rw [if_neg hend, if_neg (by simpa using hend)]

/-- What the coach bus shows of a poll read that has ended (R90, R92, R101). -/
structure PollShows (pointer : Nat) (records : List StatusRecord) (noAnswer notReady timeouts : Nat) (b : Bus) : Prop where
  pointer : b.pointer = some pointer
  records : b.records = records
  noAnswer : b.noAnswer = noAnswer
  notReady : b.notReady = notReady
  timeouts : b.persistTimeouts = timeouts

theorem PollShows.of_rest {pointer noAnswer notReady timeouts : Nat} {records : List StatusRecord} {a b : Bus}
    (h : PollShows pointer records noAnswer notReady timeouts a) (hrest : b.rest = a.rest) :
    PollShows pointer records noAnswer notReady timeouts b := by
  have hpointer := congrArg Bus.pointer hrest
  have hrecords := congrArg Bus.records hrest
  have hnoAnswer := congrArg Bus.noAnswer hrest
  have hnotReady := congrArg Bus.notReady hrest
  have htimeouts := congrArg Bus.persistTimeouts hrest
  exact ⟨Eq.trans hpointer h.pointer, Eq.trans hrecords h.records, Eq.trans hnoAnswer h.noAnswer,
    Eq.trans hnotReady h.notReady, Eq.trans htimeouts h.timeouts⟩

/-- While the poll entry is in a retry wait no poll read starts, so its persist timeout stays (R90). -/
theorem arbitrate_pollPersist {s : State} (h : s.bus.pollRetry ≠ none) :
    (arbitrate s).bus.pollPersist = s.bus.pollPersist := by
  have hpoll : nextPoll s = none := nextPoll_none (.inr (.inl h))
  unfold arbitrate
  split
  · unfold startNext
    rw [hpoll]
    cases startFirst [] s.bus.doorQueue with
    | some q => rfl
    | none =>
      cases startFirst [] s.bus.heatQueue with
      | some q => rfl
      | none =>
        cases nextCabTransfer s.bus with
        | some c => rfl
        | none => cases startFirst [] s.bus.remoteQueue <;> rfl
  · rfl

theorem finish_rest (s : State) : (finish s).bus.rest = s.bus.rest := by
  rw [(finish_egress s).bus]
  rfl

/-- A poll read that ends with a result: the record, the pointer past the entry, and a persist timeout counted. -/
theorem pollEnds_result {e : PollEntry} {i : Nat} {a : Attempt} {p : PollResult} {s : State}
    (hpointer : s.bus.pointer = some i) (hverdict : pollVerdict e s.bus.pollPersist a = some p) :
    let t := finish (arbitrate (pollEnds e (i + 1) .current a (s.modBus (Bus.landed a))))
    PollShows (i + 1) (p.applied e s.bus.records) (s.bus.landed a).noAnswer (s.bus.landed a).notReady
        (if e.mode = .persist ∧ p = .withdrawn then satInc s.bus.persistTimeouts else s.bus.persistTimeouts) t.bus
      ∧ t.bus.pollRetry = none := by
  intro t
  have hpersist : (s.modBus (Bus.landed a)).bus.pollPersist = s.bus.pollPersist := by cases a <;> rfl
  have hends : pollEnds e (i + 1) .current a (s.modBus (Bus.landed a)) =
      applyPoll e (i + 1) p (advancePointer (countPollTimeout e p (s.modBus (Bus.landed a)))) := by
    unfold pollEnds
    dsimp only
    rw [hpersist, hverdict]
  have hcounted : countPollTimeout e p (s.modBus (Bus.landed a)) =
      s.modBus fun b => { b.landed a with
        persistTimeouts := if e.mode = .persist ∧ p = .withdrawn then satInc b.persistTimeouts else b.persistTimeouts } := by
    unfold countPollTimeout countTimeout
    split
    · cases a <;> rfl
    · cases a <;> rfl
  have hpointer' : (countPollTimeout e p (s.modBus (Bus.landed a))).bus.pointer = some i := by
    rw [hcounted, State.modBus_bus]
    cases a <;> exact hpointer
  have hrest : t.bus.rest = ({ (advancePointer (countPollTimeout e p (s.modBus (Bus.landed a)))).bus with
      records := p.applied e (advancePointer (countPollTimeout e p (s.modBus (Bus.landed a)))).bus.records } : Bus).rest := by
    refine (finish_rest _).trans ((arbitrate_unitsMove _).bus.trans ?_)
    rw [hends]
    exact applyPoll_rest ..
  rw [advancePointer_eq hpointer', hcounted] at hrest
  clear_value t
  refine ⟨PollShows.of_rest ⟨rfl, ?_, ?_, ?_, rfl⟩ hrest, ?_⟩
  · cases a <;> rfl
  · rfl
  · rfl
  · have hretry := congrArg Bus.pollRetry hrest
    exact hretry

/-- A poll read that waits for its next attempt: pointer, records and its persist timeout as they were (R82). -/
theorem pollEnds_waits {e : PollEntry} {i : Nat} {a : Attempt} {s : State} (hpointer : s.bus.pointer = some i)
    (hverdict : pollVerdict e s.bus.pollPersist a = none) :
    let t := finish (arbitrate (pollEnds e (i + 1) .current a (s.modBus (Bus.landed a))))
    PollShows i s.bus.records (s.bus.landed a).noAnswer (s.bus.landed a).notReady s.bus.persistTimeouts t.bus
      ∧ t.bus.pollRetry = some 2 ∧ t.bus.pollPersist = s.bus.pollPersist := by
  intro t
  have hpersist : (s.modBus (Bus.landed a)).bus.pollPersist = s.bus.pollPersist := by cases a <;> rfl
  have hends : pollEnds e (i + 1) .current a (s.modBus (Bus.landed a)) =
      s.modBus fun b => { b.landed a with pollRetry := some 2 } := by
    unfold pollEnds
    dsimp only
    rw [hpersist, hverdict]
    rfl
  have hrest : t.bus.rest = ({ s.bus.landed a with pollRetry := some 2 } : Bus).rest := by
    refine (finish_rest _).trans ((arbitrate_unitsMove _).bus.trans ?_)
    rw [hends, State.modBus_bus]
  have hkept : t.bus.pollPersist = s.bus.pollPersist := by
    have hfinish := finish_egress (arbitrate (pollEnds e (i + 1) .current a (s.modBus (Bus.landed a))))
    have hstarts := arbitrate_pollPersist (s := s.modBus fun b => { b.landed a with pollRetry := some 2 })
      (Option.some_ne_none 2)
    rw [← hends] at hstarts
    have hbus := congrArg Bus.pollPersist hfinish.bus
    refine Eq.trans hbus (hstarts.trans ?_)
    rw [hends]
    exact hpersist
  clear_value t
  refine ⟨PollShows.of_rest (a := { s.bus.landed a with pollRetry := some 2 }) ⟨?_, ?_, rfl, rfl, ?_⟩ hrest, ?_, hkept⟩
  · cases a <;> exact hpointer
  · cases a <;> rfl
  · cases a <;> rfl
  · have hretry := congrArg Bus.pollRetry hrest
    exact hretry

theorem exec_busReplyTimeout_poll {e : PollEntry} {n : Nat} {use : PollUse} {s : State} (hpower : s.powered = true)
    (hflight : s.bus.flight = some (.poll e n use)) :
    exec .busReplyTimeout s =
      .next (finish (arbitrate (pollEnds e n use .noAnswer (s.modBus (Bus.landed .noAnswer))))) := by
  rw [show exec .busReplyTimeout s = live replyTimesOut s from rfl, live_powered _ s hpower, replyTimesOut, hflight]
  exact congrArg (fun t => Host.Outcome.next (finish t)) (attemptEnds_eq _ _ _)

/-- An answer that is not valid for the poll read in flight is ignored (R80). -/
theorem exec_busAnswer_ignored {e : PollEntry} {n : Nat} {use : PollUse} {station item : Byte} {ready : Bool}
    {data : List Byte} {s : State} (hpower : s.powered = true) (hflight : s.bus.flight = some (.poll e n use))
    (h : (station ≠ e.station ∨ item ≠ e.item) ∨ ready = true ∧ (data = [] ∨ 16 < data.length)) :
    exec (.busAnswer station item ready data) s = .next (finish s) := by
  rw [show exec (.busAnswer station item ready data) s = live (stationAnswers station item ready data) s from rfl,
    live_powered _ s hpower, stationAnswers, hflight]
  refine congrArg (fun t => Host.Outcome.next (finish t)) (if_neg ?_)
  have hvalid : answerValid (.poll e n use) station item ready data s =
      (decide (station = e.station) && decide (item = e.item)
        && (!(true && ready) || decide (1 ≤ data.length ∧ data.length ≤ 16))) := rfl
  rw [hvalid]
  simp only [Bool.true_and, Bool.and_eq_true, Bool.or_eq_true, Bool.not_eq_true', decide_eq_true_eq, not_and, not_or]
  rintro ⟨hstation, hitem⟩
  obtain ⟨hready, hdata⟩ := h.resolve_left (by simp [hstation, hitem])
  refine ⟨by simp [hready], fun hone => ?_⟩
  rcases hdata with hdata | hdata
  · rw [hdata] at hone
    exact absurd hone (by decide)
  · omega

/-- A notice-on-change read (R93): the notice, where a value held is replaced by another, comes before the record takes
the data. -/
theorem pollEnds_noticeOnChange {e : PollEntry} {i : Nat} {data : List Byte} {held : StatusRecord} {s : State}
    (hpointer : s.bus.pointer = some i) (hdest : e.dest = .noticeOnChange) (hheld : s.record .noticeOnChange = some held) :
    let u := advancePointer (s.modBus (Bus.landed (.done data)))
    pollEnds e (i + 1) .current (.done data) (s.modBus (Bus.landed (.done data))) =
      (match held.value with
        | some old => if old ≠ data then raise .stationChange (byteOf (i + 1)) (data.headD 0#8).toNat u else u
        | none => u).modBus fun b => { b with records := (PollResult.value data).applied e b.records } := by
  intro u
  have hcount : countPollTimeout e (.value data) (s.modBus (Bus.landed (.done data))) =
      s.modBus (Bus.landed (.done data)) := if_neg fun h => nomatch h.2
  have hrecord : u.record .noticeOnChange = some held := by
    have hrecords : u.bus.records = s.bus.records := by
      have hmoved := advancePointer_eq (i := i) (s := s.modBus (Bus.landed (.done data))) hpointer
      exact (congrArg (fun t : State => t.bus.records) hmoved).trans rfl
    unfold State.record at hheld ⊢
    rw [hrecords, hheld]
  have hverdict : pollVerdict e (s.modBus (Bus.landed (.done data))).bus.pollPersist (.done data) = some (.value data) := rfl
  unfold pollEnds
  dsimp only
  rw [hverdict]
  dsimp only
  rw [hcount]
  unfold applyPoll stationChange
  rw [hdest]
  dsimp only
  rw [show advancePointer (s.modBus (Bus.landed (.done data))) = u from rfl, hrecord]
  unfold PollResult.applied
  rw [hdest]
  rfl

/-- Settles O41. -/
theorem pollReadEnds : Obligations.PollReadEnds := by
  intro e i s hpower hflight hpointer
  have hwithdrawn : PollResult.applied .withdrawn e s.bus.records =
      s.bus.records.map fun r => if r.dest = e.dest then { r with age := 255 } else r := rfl
  have hkept : PollResult.applied .kept e s.bus.records = s.bus.records := by
    unfold PollResult.applied PollResult.apply
    simp
  have hresult := fun a p => pollEnds_result (e := e) (a := a) (p := p) hpointer
  have hwaits := fun a => pollEnds_waits (e := e) (a := a) hpointer
  intro withdrawn took Ends Waits moved once silent expired
  have hends : ∀ {c : Instr} {a : Attempt} {p : PollResult},
      exec c s = .next (finish (arbitrate (pollEnds e (i + 1) .current a (s.modBus (Bus.landed a))))) →
      pollVerdict e s.bus.pollPersist a = some p →
      Ends c (p.applied e s.bus.records) (i + 1) (s.bus.landed a).noAnswer (s.bus.landed a).notReady
        (if e.mode = .persist ∧ p = .withdrawn then satInc s.bus.persistTimeouts else s.bus.persistTimeouts) moved := by
    intro c a p hexec hverdict
    obtain ⟨hshows, hretry⟩ := hresult a p hverdict
    exact ⟨_, hexec, hshows.pointer, hshows.records, hshows.noAnswer, hshows.notReady, hshows.timeouts, hretry⟩
  have hretries : ∀ {c : Instr} {a : Attempt},
      exec c s = .next (finish (arbitrate (pollEnds e (i + 1) .current a (s.modBus (Bus.landed a))))) →
      pollVerdict e s.bus.pollPersist a = none →
      Ends c s.bus.records i (s.bus.landed a).noAnswer (s.bus.landed a).notReady s.bus.persistTimeouts Waits := by
    intro c a hexec hverdict
    obtain ⟨hshows, hretry, hpersist⟩ := hwaits a hverdict
    exact ⟨_, hexec, hshows.pointer, hshows.records, hshows.noAnswer, hshows.notReady, hshows.timeouts, hretry, hpersist⟩
  have htimeout := exec_busReplyTimeout_poll hpower hflight
  have hbusy : ∀ data, exec (.busAnswer e.station e.item false data) s =
      .next (finish (arbitrate (pollEnds e (i + 1) .current .notReady (s.modBus (Bus.landed .notReady))))) := fun data =>
    exec_busAnswer_poll (ready := false) hpower hflight (fun h => nomatch h)
  have hdone : ∀ data, 1 ≤ data.length → data.length ≤ 16 → exec (.busAnswer e.station e.item true data) s =
      .next (finish (arbitrate (pollEnds e (i + 1) .current (.done data) (s.modBus (Bus.landed (.done data)))))) :=
    fun data hone hsixteen => exec_busAnswer_poll (ready := true) hpower hflight fun _ => ⟨hone, hsixteen⟩
  refine ⟨fun data hone hsixteen => ?_, fun station item ready data hother =>
    exec_busAnswer_ignored hpower hflight (.inl hother), fun data hdata =>
    exec_busAnswer_ignored hpower hflight (.inr ⟨rfl, hdata⟩), fun data => ⟨fun hmode => ?_, fun hmode => ?_,
    fun hmode hleft => ?_, fun hmode hleft => ?_⟩, fun hmode => ?_, fun hmode hleft => ?_, fun hmode hleft => ?_,
    fun data held hdest hone hsixteen hheld => ?_⟩
  · have hready := hends (hdone data hone hsixteen) (p := .value data) rfl
    rw [if_neg fun h => nomatch h.2] at hready
    exact hready
  · have hready := hends (hbusy data) (p := .withdrawn) (by simp [pollVerdict, hmode])
    rw [if_neg (by simp [hmode])] at hready
    exact hready
  · have hready := hends (hbusy data) (p := .kept) (by simp [pollVerdict, hmode])
    rw [if_neg (by simp [hmode]), hkept] at hready
    exact hready
  · exact hretries (hbusy data) (by simp [pollVerdict, hmode, hleft])
  · have hready := hends (hbusy data) (p := .withdrawn) (by simp [pollVerdict, hmode, hleft])
    rw [if_pos ⟨hmode, rfl⟩] at hready
    exact hready
  · have hready := hends htimeout (p := .withdrawn) (by unfold pollVerdict; cases hm : e.mode <;> simp_all)
    rw [if_neg (by simp [hmode])] at hready
    exact hready
  · exact hretries htimeout (by simp [pollVerdict, hmode, hleft])
  · have hready := hends htimeout (p := .withdrawn) (by simp [pollVerdict, hmode, hleft])
    rw [if_pos ⟨hmode, rfl⟩] at hready
    exact hready
  · intro u records
    have hexec := hdone data hone hsixteen
    have hu : advancePointer (s.modBus (Bus.landed (.done data))) = u := advancePointer_eq (i := i) hpointer
    rw [pollEnds_noticeOnChange hpointer hdest hheld, hu] at hexec
    refine ⟨fun ⟨old, hold, hne⟩ => ?_, fun hsame => ?_⟩
    · rw [hold] at hexec
      dsimp only at hexec
      rw [if_pos hne] at hexec
      exact hexec
    · rcases hsame with hnone | hsame
      · rw [hnone] at hexec
        exact hexec
      · rw [hsame] at hexec
        dsimp only at hexec
        rw [if_neg (not_not.mpr rfl)] at hexec
        exact hexec

end Sys2Proof.Machine
end

section
/-! The retries of a PERSIST transaction, its persist timeout, and what its outcome does to its owner (R82, R87, R133,
R160, R166). -/

namespace Sys2Proof.Machine

open Sys2Proof

/-! ## A queue around one of its entries -/

theorem takeInFlight_split {front back : List QueueEntry} {e : QueueEntry} (he : e.phase = .inFlight)
    (hfront : ∀ x ∈ front, x.phase ≠ .inFlight) : takeInFlight (front ++ e :: back) = some (e, front.length) := by
  induction front with
  | nil => exact if_pos he
  | cons x front ih =>
    rw [List.cons_append, takeInFlight, if_neg (hfront x List.mem_cons_self),
      ih fun y hy => hfront y (List.mem_cons_of_mem x hy)]
    rfl

/-- The node with this queue of a class. -/
def State.holding (s : State) (cls : QueueClass) (q : List QueueEntry) (b : Bus) : State :=
  { s with bus := b.withQueue cls q }

theorem removeEntry_split {cls : QueueClass} {front back : List QueueEntry} {e : QueueEntry} {s : State} {b : Bus}
    (hqueue : b.queue cls = front ++ e :: back) :
    removeEntry cls front.length { s with bus := b } = s.holding cls (front ++ back) b := by
  unfold removeEntry State.modBus
  dsimp only
  rw [hqueue, eraseIdx_append_length]
  rfl

theorem changeEntry_split {cls : QueueClass} {front back : List QueueEntry} {e : QueueEntry} (f : QueueEntry → QueueEntry)
    {s : State} {b : Bus} (hqueue : b.queue cls = front ++ e :: back) :
    changeEntry cls front.length f { s with bus := b } = s.holding cls (front ++ f e :: back) b := by
  unfold changeEntry State.modBus
  dsimp only
  rw [hqueue, modify_append_length]
  rfl

theorem getElem?_split (front back : List QueueEntry) (e : QueueEntry) :
    (front ++ e :: back)[front.length]? = some e := by simp

/-- A transaction that ends TIMEOUT is counted, leaves its queue, and its owner is told (R82, R84). -/
theorem endEntry_timeout {cls : QueueClass} {front back : List QueueEntry} {e : QueueEntry} {s : State} {b : Bus}
    (hqueue : b.queue cls = front ++ e :: back) :
    endEntry cls front.length e .timeout { s with bus := b } =
      tellOwner e .timeout
        (s.holding cls (front ++ back) { b with persistTimeouts := satInc b.persistTimeouts }) := by
  have hcounted : ({ b with persistTimeouts := satInc b.persistTimeouts } : Bus).queue cls = front ++ e :: back := by
    rw [← hqueue]
    cases cls <;> rfl
  unfold endEntry countTimeout
  exact congrArg (tellOwner e .timeout) (removeEntry_split (s := s) hcounted)

theorem endEntry_done {cls : QueueClass} {front back : List QueueEntry} {e : QueueEntry} {data : List Byte} {s : State}
    {b : Bus} (hqueue : b.queue cls = front ++ e :: back) :
    endEntry cls front.length e (.done data) { s with bus := b } =
      tellOwner e (.done data) (s.holding cls (front ++ back) b) := by
  unfold endEntry
  exact congrArg (tellOwner e (.done data)) (removeEntry_split (s := s) hqueue)

/-! ## The end of an attempt of a queued transaction (R80 to R82) -/

/-- No walk. -/
def BusOp.single (op : BusOp) : Prop := ∀ next last started roster, op ≠ .walk next last started roster

theorem entryEnds_done {cls : QueueClass} {place : Nat} {e : QueueEntry} {data : List Byte} {s : State}
    (hop : e.op.single) : entryEnds cls place e (.done data) s = endEntry cls place e (.done data) s := by
  unfold entryEnds
  cases h : e.op with
  | walk next last started roster => exact absurd h (hop _ _ _ _)
  | read | write => rfl

theorem entryEnds_fails {cls : QueueClass} {place n : Nat} {e : QueueEntry} {a : Attempt} {s : State}
    (hop : e.op.single) (hmode : e.mode = .persist n) (ha : ∀ data, a ≠ .done data) :
    entryEnds cls place e a s = persistFails cls place e s := by
  unfold entryEnds
  rw [hmode]
  cases h : e.op with
  | walk next last started roster => exact absurd h (hop _ _ _ _)
  | read | write =>
    cases a with
    | done data => exact absurd rfl (ha data)
    | notReady | noAnswer => rfl

theorem attemptEnds_queue {cls : QueueClass} {front back : List QueueEntry} {e : QueueEntry} {s : State} (a : Attempt)
    (hqueue : s.bus.queue cls = front ++ e :: back) (he : e.phase = .inFlight)
    (hfront : ∀ x ∈ front, x.phase ≠ .inFlight) :
    attemptEnds (.queue cls) a s =
      arbitrate (entryEnds cls front.length e a { s with bus := s.bus.landed a }) := by
  rw [attemptEnds_eq]
  dsimp only
  rw [State.modBus_bus, Bus.landed_queue, hqueue, takeInFlight_split he hfront]
  rfl

/-- An attempt that is not answered READY leaves the entry in a retry wait, or ends it TIMEOUT (R82). -/
theorem attemptEnds_fails {cls : QueueClass} {front back : List QueueEntry} {e : QueueEntry} {n : Nat} {a : Attempt}
    {s : State} (hqueue : s.bus.queue cls = front ++ e :: back) (he : e.phase = .inFlight)
    (hfront : ∀ x ∈ front, x.phase ≠ .inFlight) (hop : e.op.single) (hmode : e.mode = .persist n)
    (ha : ∀ data, a ≠ .done data) :
    (e.persist ≠ .expired → attemptEnds (.queue cls) a s =
        arbitrate (s.holding cls (front ++ { e with phase := .retryWait 2 } :: back) (s.bus.landed a)))
      ∧ (e.persist = .expired → attemptEnds (.queue cls) a s =
        arbitrate (tellOwner e .timeout (s.holding cls (front ++ back)
          { s.bus.landed a with persistTimeouts := satInc (s.bus.landed a).persistTimeouts }))) := by
  have hlanded : (s.bus.landed a).queue cls = front ++ e :: back := (Bus.landed_queue ..).trans hqueue
  rw [attemptEnds_queue a hqueue he hfront, entryEnds_fails hop hmode ha]
  unfold persistFails
  refine ⟨fun hleft => ?_, fun hexpired => ?_⟩
  · rw [if_neg hleft]
    exact congrArg arbitrate (changeEntry_split _ hlanded)
  · rw [if_pos hexpired]
    exact congrArg arbitrate (endEntry_timeout hlanded)

theorem answerValid_queue {cls : QueueClass} {front back : List QueueEntry} {e : QueueEntry} {ready : Bool}
    {data : List Byte} {s : State} (hqueue : s.bus.queue cls = front ++ e :: back) (he : e.phase = .inFlight)
    (hfront : ∀ x ∈ front, x.phase ≠ .inFlight)
    (hdata : ready = true → (1 ≤ data.length ∧ data.length ≤ 16) ∨ ∃ station item bytes, e.op = .write station item bytes) :
    answerValid (.queue cls) e.op.address.1 e.op.address.2 ready data s = true := by
  unfold answerValid flightAddress
  dsimp only
  rw [hqueue, takeInFlight_split he hfront]
  cases ready with
  | false => simp
  | true =>
    rcases hdata rfl with hlength | ⟨station, item, bytes, hop⟩
    · simp [hlength]
    · simp [hop]

theorem toFront_of_not_walks {e : QueueEntry} {q : List QueueEntry}
    (h : ∀ x, q.head? = some x → ¬∃ next last roster, x.op = .walk next last true roster) : toFront e q = e :: q := by
  cases q with
  | nil => rfl
  | cons x rest =>
    have hx := h x rfl
    unfold toFront
    dsimp only
    split
    · next next last roster hop => exact absurd ⟨next, last, roster, hop⟩ hx
    · rfl

theorem toFront_of_walks {e x : QueueEntry} {rest : List QueueEntry}
    (h : ∃ next last roster, x.op = .walk next last true roster) : toFront e (x :: rest) = x :: e :: rest := by
  obtain ⟨next, last, roster, hop⟩ := h
  unfold toFront
  dsimp only
  rw [hop]

/-! ## Heat writes that wait (R87, R160) -/

theorem replaceWaiting_first {o : Owner} {new old : QueueEntry} {front back : List QueueEntry}
    (hfront : ∀ x ∈ front, x.waitsFor o = false) (hold : old.waitsFor o = true) :
    replaceWaiting o new (front ++ old :: back) = some (front ++ new :: back.filter fun x => !x.waitsFor o) := by
  induction front with
  | nil => exact if_pos hold
  | cons x front ih =>
    rw [List.cons_append, replaceWaiting, if_neg (by rw [hfront x List.mem_cons_self]; decide),
      ih fun y hy => hfront y (List.mem_cons_of_mem x hy)]
    rfl

theorem replaceWaiting_eq_none {o : Owner} {new : QueueEntry} {q : List QueueEntry} (h : ∀ x ∈ q, x.waitsFor o = false) :
    replaceWaiting o new q = none := by
  induction q with
  | nil => rfl
  | cons x rest ih =>
    rw [replaceWaiting, if_neg (by rw [h x List.mem_cons_self]; decide), ih fun y hy => h y (List.mem_cons_of_mem x hy)]
    rfl

/-- Superseding an entry does not change whether it waits. -/
theorem waitsFor_superseded (o : Owner) (x : QueueEntry) :
    (if x.owner = o then { x with current := false } else x).waitsFor o = x.waitsFor o := by
  split <;> rfl

theorem supersede_waitsFor {o : Owner} {q : List QueueEntry} (h : ∀ x ∈ q, x.waitsFor o = false) :
    ∀ x ∈ supersede o q, x.waitsFor o = false := by
  intro y hy
  obtain ⟨x, hx, rfl⟩ := List.mem_map.mp hy
  exact (waitsFor_superseded o x).trans (h x hx)

theorem supersede_filter (o : Owner) (q : List QueueEntry) :
    (supersede o q).filter (fun x => !x.waitsFor o) = supersede o (q.filter fun x => !x.waitsFor o) := by
  unfold supersede
  rw [List.filter_map]
  refine congrArg (List.map _) (List.filter_congr fun x _ => ?_)
  exact congrArg (!·) (waitsFor_superseded o x)

/-! ## What an outcome does to its owner (R133, R166) -/

theorem tellOwner_orphan {e : QueueEntry} (outcome : BusOutcome) (s : State) (h : e.owner = .orphan) :
    tellOwner e outcome s = s := by
  unfold tellOwner
  rw [h]

theorem State.modLeaf_doorOnly (k : Nat) (f : Leaf → Leaf) (s : State) : { s.modLeaf k f with door := s.door } = s := by
  unfold State.modLeaf
  split <;> rfl

theorem doorWriteDone_spec {k : Nat} {l : Leaf} (current : Bool) {s : State} (hl : s.leaf k = some l) :
    let t := doorWriteDone k current s
    t.leaf k = some (if current = true ∧ l.state = .closing then { l with closeMark := true } else l)
      ∧ (∀ j, j ≠ k → t.leaf j = s.leaf j) ∧ { t with door := s.door } = s := by
  have hstate : s.leafState k = some .closing ↔ l.state = .closing := by
    unfold State.leafState
    rw [hl]
    simp
  unfold doorWriteDone
  dsimp only
  by_cases h : current = true ∧ l.state = .closing
  · obtain ⟨-, -, -, -, -, -, -, -, hothers, -⟩ := State.modLeaf_leafOnly k (fun l => { l with closeMark := true }) s
    rw [if_pos h, if_pos ⟨h.1, hstate.mpr h.2⟩]
    refine ⟨?_, hothers, State.modLeaf_doorOnly k _ s⟩
    rw [State.modLeaf_leaf, hl]
    rfl
  · rw [if_neg h, if_neg fun hc => h ⟨hc.1, hstate.mp hc.2⟩]
    exact ⟨hl, fun _ _ => rfl, rfl⟩

theorem doorWriteFailed_apart {k : Nat} {l : Leaf} {s : State} (hl : s.leaf k = some l)
    (h : l.state = .fault ∨ l.state = .isolated) : doorWriteFailed k s = s := by
  unfold doorWriteFailed State.leafState
  rw [hl]
  rcases h with h | h <;> simp [h]

theorem doorWriteFailed_faults {k : Nat} {l : Leaf} {s : State} (hl : s.leaf k = some l) (hfault : l.state ≠ .fault)
    (hisolated : l.state ≠ .isolated) : doorWriteFailed k s = enterFault k writeFailedCode s := by
  unfold doorWriteFailed State.leafState
  rw [hl]
  cases h : l.state <;> simp_all

theorem enterFault_faults (k value : Nat) (s : State) :
    (enterFault k value s).door.leafFaults = satInc s.door.leafFaults := by
  unfold enterFault
  rw [(raise_egress _ _ _ _).door]
  unfold State.modLeaf
  split <;> rfl

theorem tellOwner_leaf {e : QueueEntry} {k : Nat} {l : Leaf} {s : State} (data : List Byte) (howner : e.owner = .leaf k)
    (hl : s.leaf k = some l) :
    (let t := tellOwner e (.done data) s
     t.leaf k = some (if e.current = true ∧ l.state = .closing then { l with closeMark := true } else l)
       ∧ (∀ j, j ≠ k → t.leaf j = s.leaf j) ∧ { t with door := s.door } = s)
      ∧ ((l.state = .fault ∨ l.state = .isolated) → tellOwner e .timeout s = s)
      ∧ (l.state ≠ .fault → l.state ≠ .isolated →
          let t := tellOwner e .timeout s
          t.leaf k = some { l with state := .fault, timer := none }
            ∧ (∀ j, j ≠ k → t.leaf j = s.leaf j)
            ∧ t.door.leafFaults = satInc s.door.leafFaults ∧ t.consist = s.consist ∧ t.heat = s.heat) := by
  have hdone : tellOwner e (.done data) s = doorWriteDone k e.current s := by unfold tellOwner; rw [howner]
  have htimeout : tellOwner e .timeout s = doorWriteFailed k s := by unfold tellOwner; rw [howner]
  rw [hdone, htimeout]
  refine ⟨doorWriteDone_spec e.current hl, doorWriteFailed_apart hl, fun hfault hisolated => ?_⟩
  rw [doorWriteFailed_faults hl hfault hisolated]
  obtain ⟨-, -, -, hconsist, -, hheat, -, -, hothers, -⟩ := enterFault_leafOnly k writeFailedCode s
  exact ⟨by rw [enterFault_leaf, hl]; rfl, hothers, enterFault_faults k _ s, hconsist, hheat⟩

theorem tellOwner_group {e : QueueEntry} {g : Nat} {x : Group} {c : GroupConfig} {s : State} (data : List Byte)
    (howner : e.owner = .group g) (hx : s.group g = some x) (hc : s.groupConfig g = some c) :
    (e.current = false → tellOwner e (.done data) s = s)
      ∧ (e.current = true →
          let t := tellOwner e (.done data) s
          t.group g = some { x with settled := true }
            ∧ (∀ j, j ≠ g → t.group j = s.group j) ∧ { t with heat := s.heat } = s)
      ∧ (x.fault ≠ none → tellOwner e .timeout s = s)
      ∧ (x.fault = none →
          let t := tellOwner e .timeout s
          t.group g = some (Group.faulted .writeFailed)
            ∧ (∀ j, j ≠ g → t.group j = s.group j) ∧ t.heat.increase = none
            ∧ t.heat.groupFaults = satInc s.heat.groupFaults ∧ t.heat.take = s.heat.take
            ∧ HeatWriteStands g c 0 t) := by
  have hdone : tellOwner e (.done data) s = heatWriteDone g e.current s := by unfold tellOwner; rw [howner]
  have htimeout : tellOwner e .timeout s = if x.fault = none then faultGroup g .writeFailed s else s := by
    unfold tellOwner heatWriteFailed
    rw [howner]
    dsimp only
    rw [hx]
  rw [hdone, htimeout]
  unfold heatWriteDone
  refine ⟨fun hold => if_neg (ne_true_of_eq_false hold), fun hlatest => ?_, fun hfault => if_neg hfault, fun hnone => ?_⟩
  · rw [if_pos hlatest]
    have hgroup := fun j => State.modGroup_group g j (fun y => { y with settled := true }) s
    refine ⟨?_, fun j hj => by rw [hgroup, if_neg hj], ?_⟩
    · rw [hgroup, if_pos rfl, hx]
      rfl
    · unfold State.modGroup
      split <;> rfl
  · rw [if_pos hnone]
    obtain ⟨hgroup, hstands, hincrease, hfaults, htake⟩ := faultGroup_spec .writeFailed hx hc
    exact ⟨hgroup, fun j hj => ((faultGroup_told g .writeFailed s).others j hj).1, hincrease, hfaults, htake, hstands⟩

/-! ## The poll entry (R82, R90, R92) -/

/-- The persist timeout of the poll entry running out while it waits ends it (R82, R92). -/
theorem pollPersistEnds_waiting {left i : Nat} {e : PollEntry} {s : State} (hleft : s.bus.pollPersist = .running left)
    (hidle : ∀ x number use, s.bus.flight ≠ some (.poll x number use)) (hpointer : s.bus.pointer = some i)
    (he : s.store.content.polls[i]? = some e) :
    pollPersistEnds s = arbitrate (applyPoll e (i + 1) .withdrawn (advancePointer (countTimeout s))) := by
  have hflight : pollInFlight s = false := by
    unfold pollInFlight
    split
    · next x number use hf => exact absurd hf (hidle x number use)
    · rfl
  have hfound : (s.bus.pointer.bind fun i => (s.store.content.polls[i]?).map fun e => (e, i + 1)) = some (e, i + 1) := by
    rw [hpointer]
    exact congrArg (Option.map _) he
  unfold pollPersistEnds
  rw [if_neg (by rw [hleft]; simp [Persist.isRunning]), if_neg (by rw [hflight]; decide), hfound]

/-- Settles O42. -/
theorem persistWriteRetries : Obligations.PersistWriteRetries := by
  refine ⟨fun c cls front back e n s hclass hpower hqueue hmode hop => ?_, fun place s hpower => ?_,
    fun e data s => ⟨fun howner => ⟨tellOwner_orphan _ s howner, tellOwner_orphan _ s howner⟩,
      fun k l howner hl => tellOwner_leaf data howner hl, fun g x c howner hx hc => tellOwner_group data howner hx hc⟩,
    fun g station item count s hbusy => ?_⟩
  · have hcls : classQueue c = some cls := by
      simp only [List.mem_cons, Prod.mk.injEq, List.not_mem_nil, or_false] at hclass
      obtain ⟨rfl, rfl⟩ | ⟨rfl, rfl⟩ | ⟨rfl, rfl⟩ := hclass <;> rfl
    intro holding timedOut answered
    refine ⟨fun hflight hphase hfront => ?_, fun wait hphase => ?_, fun left hleft => ?_⟩
    · intro idle silent busy retried
      have htimeout : exec .busReplyTimeout s = .next (finish (attemptEnds (.queue cls) .noAnswer s)) := by
        rw [show exec .busReplyTimeout s = live replyTimesOut s from rfl, live_powered _ s hpower, replyTimesOut, hflight]
      have hanswered : ∀ ready data,
          (ready = true → (1 ≤ data.length ∧ data.length ≤ 16) ∨ ∃ station item bytes, e.op = .write station item bytes) →
          exec (answered ready data) s =
            .next (finish (attemptEnds (.queue cls) (if ready then .done data else .notReady) s)) := fun ready data hdata => by
        rw [show exec (answered ready data) s =
          live (stationAnswers e.op.address.1 e.op.address.2 ready data) s from rfl, live_powered _ s hpower,
          stationAnswers, hflight]
        exact congrArg (fun t => Host.Outcome.next (finish t))
          (if_pos (answerValid_queue hqueue hphase hfront hdata))
      obtain ⟨hsilent, hsilentLast⟩ := attemptEnds_fails (a := .noAnswer) hqueue hphase hfront hop hmode fun _ h => nomatch h
      obtain ⟨hbusy, hbusyLast⟩ := attemptEnds_fails (a := .notReady) hqueue hphase hfront hop hmode fun _ h => nomatch h
      refine ⟨fun hmore => ⟨?_, fun data => ?_⟩, fun hlast => ⟨?_, fun data => ?_⟩, fun data hdata => ?_⟩
      · rw [htimeout, hsilent hmore]
        rfl
      · rw [hanswered false data fun h => nomatch h]
        exact congrArg (fun t => Host.Outcome.next (finish t)) (hbusy hmore)
      · rw [htimeout, hsilentLast hlast]
        rfl
      · rw [hanswered false data fun h => nomatch h]
        exact congrArg (fun t => Host.Outcome.next (finish t)) (hbusyLast hlast)
      · rw [hanswered true data fun _ => hdata, if_pos rfl, attemptEnds_queue _ hqueue hphase hfront, entryEnds_done hop]
        exact congrArg (fun t => Host.Outcome.next (finish (arbitrate t)))
          (endEntry_done (s := s) ((Bus.landed_queue ..).trans hqueue))
    · intro ready Walks
      have hends : exec (.retryWaitEnd c front.length) s =
          .next (finish (arbitrate (holding (toFront ready (front ++ back)) s.bus))) := by
        rw [show exec (.retryWaitEnd c front.length) s = live (retryEnds c front.length) s from rfl,
          live_powered _ s hpower, retryEnds, hcls]
        dsimp only
        rw [entryRetryEnds, hqueue, getElem?_split]
        have hwait : e.inRetryWait = true := e.inRetryWait_iff.mpr ⟨wait, hphase⟩
        refine congrArg (fun t => Host.Outcome.next (finish t)) ((if_pos hwait).trans (congrArg arbitrate ?_))
        unfold State.modBus
        dsimp only
        rw [hqueue, eraseIdx_append_length]
      rw [hends]
      refine ⟨fun hnone => ?_, fun x rest hrest hwalks => ?_⟩
      · rw [toFront_of_not_walks hnone]
      · rw [hrest, toFront_of_walks hwalks]
    · have hends : exec (.persistTimeout c front.length) s =
          .next (finish (if e.phase = .inFlight then
              changeEntry cls front.length (fun e => { e with persist := .expired }) s
            else arbitrate (endEntry cls front.length e .timeout s))) := by
        rw [show exec (.persistTimeout c front.length) s = live (persistEnds c front.length) s from rfl,
          live_powered _ s hpower, persistEnds, hcls]
        dsimp only
        rw [entryPersistEnds, hqueue, getElem?_split]
        exact congrArg (fun t => Host.Outcome.next (finish t)) (if_neg (by rw [hleft]; simp [Persist.isRunning]))
      rw [hends]
      refine ⟨fun hwaits => ?_, fun hflies => ?_⟩
      · rw [if_neg hwaits]
        exact congrArg (fun t => Host.Outcome.next (finish (arbitrate t))) (endEntry_timeout (s := s) hqueue)
      · rw [if_pos hflies]
        exact congrArg (fun t => Host.Outcome.next (finish t)) (changeEntry_split (s := s) _ hqueue)
  · refine ⟨fun hretry => ?_, fun left e number use hleft hflight => ?_, fun left i e hleft hidle hpointer he => ?_⟩
    · rw [show exec (.retryWaitEnd .poll place) s = live (retryEnds .poll place) s from rfl, live_powered _ s hpower]
      exact congrArg (fun t => Host.Outcome.next (finish t)) (if_pos (Option.isSome_iff_ne_none.mpr hretry))
    · rw [show exec (.persistTimeout .poll place) s = live (persistEnds .poll place) s from rfl, live_powered _ s hpower]
      have hin : pollInFlight s = true := by
        unfold pollInFlight
        rw [hflight]
      exact congrArg (fun t => Host.Outcome.next (finish t))
        ((if_neg (by rw [hleft]; simp [Persist.isRunning])).trans (if_pos hin))
    · refine ⟨_, (live_powered (persistEnds .poll place) s hpower).trans
        (congrArg (fun t => Host.Outcome.next (finish t)) (pollPersistEnds_waiting hleft hidle hpointer he)), ?_⟩
      have hrest := (finish_rest (arbitrate (applyPoll e (i + 1) .withdrawn (advancePointer (countTimeout s))))).trans
        ((arbitrate_unitsMove _).bus.trans (applyPoll_rest ..))
      have hmoved := advancePointer_eq (s := countTimeout s) hpointer
      generalize advancePointer (countTimeout s) = v at hrest hmoved ⊢
      generalize finish (arbitrate (applyPoll e (i + 1) .withdrawn v)) = t at hrest ⊢
      have hend := congrArg Bus.pointer hrest
      have htimeouts := congrArg Bus.persistTimeouts hrest
      have hrecords := congrArg Bus.records hrest
      subst hmoved
      exact ⟨hend, htimeouts, hrecords⟩
  · intro new waits older queued
    have hwaits : ∀ x : QueueEntry, x.waitsFor (.group g) = true ↔ waits x := fun x => by
      simp [QueueEntry.waitsFor, waits]
    have hnot : ∀ {q : List QueueEntry}, (∀ x ∈ q, ¬waits x) → ∀ x ∈ q, x.waitsFor (.group g) = false := fun h x hx =>
      Bool.eq_false_iff.mpr fun hw => h x hx ((hwaits x).mp hw)
    have hoffer : offerHeatWrite g station item count s =
        queued ((replaceWaiting (.group g) new (supersede (.group g) s.bus.heatQueue)).getD
          (supersede (.group g) s.bus.heatQueue ++ [new])) := arbitrate_busy _ hbusy
    rw [hoffer]
    refine ⟨fun hnone => ?_, fun front old back hsplit hold hfront => ?_⟩
    · rw [replaceWaiting_eq_none (supersede_waitsFor (hnot hnone))]
      rfl
    · have hsuperseded : supersede (.group g) s.bus.heatQueue =
          supersede (.group g) front
            ++ (if old.owner = .group g then { old with current := false } else old) :: supersede (.group g) back := by
        rw [hsplit]
        exact List.map_append
      rw [hsuperseded, replaceWaiting_first (supersede_waitsFor (hnot hfront))
        ((waitsFor_superseded _ old).trans ((hwaits old).mpr hold)), supersede_filter]
      have hkeep : ∀ x : QueueEntry, (!x.waitsFor (.group g)) =
          (decide (x.owner ≠ .group g) || decide (x.phase = .inFlight)) := fun x => by
        simp [QueueEntry.waitsFor]
      simp only [hkeep]
      rfl

end Sys2Proof.Machine
end

section
/-! Where an answer goes, and what a delivered REQUEST, REPLY or NOTICE does (R97, R104, R109, R110, R198). -/

namespace Sys2Proof.Machine

open Sys2Proof

/-! ## A frame or cab frame that is lost (R196) -/

/-- The reply of a RESET-NODE is lost while the reset is pending: the reset is due. -/
def State.replyLost (mark : Mark) (s : State) : State :=
  if mark = .resetReply ∧ s.req.resetPending = true then { s with req := { s.req with resetDue := true } } else s

theorem resetReplyGone_eq (s : State) : (if Mark.resetReply = .resetReply then resetReplyGone s else s) =
    s.replyLost .resetReply := by
  unfold State.replyLost resetReplyGone
  rw [if_pos rfl]
  cases hp : s.req.resetPending with
  | true =>
    have hdue : (s.req.resetDue || s.req.resetPending) = true := by rw [hp, Bool.or_true]
    rw [if_pos ⟨rfl, rfl⟩]
    exact congrArg (fun due => { s with req := { s.req with resetDue := due } }) hdue
  | false =>
    have hdue : (s.req.resetDue || s.req.resetPending) = s.req.resetDue := by rw [hp, Bool.or_false]
    rw [if_neg (by simp)]
    exact congrArg (fun due => { s with req := { s.req with resetDue := due } }) hdue

theorem resetReplyGone_replyLost (mark : Mark) (s : State) :
    (if mark = .resetReply then resetReplyGone s else s) = s.replyLost mark := by
  cases mark with
  | resetReply => exact resetReplyGone_eq s
  | plain | testAccept => rfl

theorem cabFrameGone_eq (f : CabFrame) (s : State) : cabFrameGone f s = s.replyLost f.mark :=
  resetReplyGone_replyLost f.mark s

theorem laneFrameGone_replyLost {e : LaneEntry} (p : PortId) (s : State) (h : e.mark ≠ .testAccept) :
    laneFrameGone p e s = s.replyLost e.mark := by
  rw [← resetReplyGone_replyLost]
  unfold laneFrameGone
  cases hmark : e.mark with
  | testAccept => exact absurd hmark h
  | plain | resetReply => rfl

/-- A cab frame joins the queue where it is served and has room, else it is dropped and counted (R97). -/
theorem offerCab_cases (f : CabFrame) (s : State) :
    ((s.cabServed = true ∧ s.bus.outbound.length < 16) →
        offerCab f s = { s with bus := { s.bus with outbound := s.bus.outbound ++ [f] } })
      ∧ (¬(s.cabServed = true ∧ s.bus.outbound.length < 16) →
        offerCab f s = State.replyLost f.mark { s with bus := { s.bus with cabDrop := satInc s.bus.cabDrop } }) := by
  refine ⟨fun h => if_pos h, fun h => ?_⟩
  rw [← cabFrameGone_eq]
  exact if_neg h

/-! ## The reply over the line (R12, R109) -/

/-- The REPLY a SETTLED node originates. -/
def replyFrame (s : State) (destination tag : Byte) (st : Status) (payload : List Byte) : Frame where
  kind := 0x0C#8
  header := { generation := s.consist.generation, flags := 0#8, destination := destination
              source := byteOf s.position, tag := tag }
  payload := statusCode st :: payload

theorem originateReply_unsettled {destination tag : Byte} {st : Status} {payload : List Byte} {mark : Mark} {s : State}
    (h : s.consist.state ≠ .settled) (hmark : mark ≠ .testAccept) :
    originateReply destination tag st payload mark s =
      State.replyLost mark { s with relay := { s.relay with noRoute := satInc s.relay.noRoute } } := by
  have hunsettled : s.isSettled = false := decide_eq_false h
  unfold originateReply
  dsimp only
  rw [hunsettled, if_pos (by decide)]
  unfold noRoute
  exact laneFrameGone_replyLost _ _ hmark

theorem originateReply_settled {destination tag : Byte} {st : Status} {payload : List Byte} {mark : Mark} {s : State}
    (h : s.consist.state = .settled) :
    originateReply destination tag st payload mark s =
      if destination.toNat = s.position then
        offerCabReply tag (statusCode st) (byteOf s.position) payload mark s
      else route { frame := replyFrame s destination tag st payload, mark := mark } s := by
  have hsettled : s.isSettled = true := decide_eq_true h
  have hsource : s.sourcePosition = byteOf s.position := if_pos hsettled
  have hframe : buildFrame s Config.kindReply destination tag (statusCode st :: payload) =
      replyFrame s destination tag st payload := by
    unfold buildFrame buildFrameIn replyFrame
    rw [hsource]
    rfl
  have hown : s.settledIn s.consist.generation = true := (State.settledIn_iff _ _).mpr ⟨h, rfl⟩
  unfold originateReply
  dsimp only
  rw [hsettled, if_neg (by decide), hframe]
  refine if_congr Iff.rfl ?_ rfl
  unfold deliverReply replyFrame
  exact if_pos hown

theorem byteOf_of_toNat {b : Byte} {n : Nat} (h : b.toNat = n) : byteOf n = b := by
  have hlt : n < 256 := h ▸ b.isLt
  exact BitVec.eq_of_toNat_eq ((byteOf_toNat hlt).trans h.symm)

/-! ## Requests as bytes (R187) -/

/-- A command that a node executes as a request of this source, within the envelope of requests. -/
def RequestOf (src : ReqSource) (i : Instr) : Prop :=
  ∃ body, ∀ s, exec i s = live (envelope src body) s ∧ perform i s = envelope src body s

/-- What a request was read as, if a command, has a property. -/
def ReadRequest.Reads (P : Instr → Prop) (r : ReadRequest) : Prop := ∀ i, r = .command i → P i

theorem reads_command {P : Instr → Prop} {i : Instr} (h : P i) : (ReadRequest.command i).Reads P := fun _ hi => by
  cases hi
  exact h

theorem reads_malformed {P : Instr → Prop} : ReadRequest.malformed.Reads P := fun _ h => nomatch h

theorem noFields_reads {P : Instr → Prop} {i : Instr} {fields : List Byte} (h : P i) : (noFields i fields).Reads P := by
  unfold noFields
  split
  · exact reads_command h
  · exact reads_malformed

theorem oneByte_reads {P : Instr → Prop} {make : Byte → Instr} {fields : List Byte} (h : ∀ b, P (make b)) :
    (oneByte make fields).Reads P := by
  unfold oneByte
  split
  · exact reads_command (h _)
  · exact reads_malformed

theorem readLinkTest_reads (src : ReqSource) (fields : List Byte) : (readLinkTest src fields).Reads (RequestOf src) := by
  unfold readLinkTest
  split
  · exact reads_command ⟨_, fun _ => ⟨rfl, rfl⟩⟩
  · exact reads_malformed

theorem readLead_reads (src : ReqSource) (fields : List Byte) : (readLead src fields).Reads (RequestOf src) := by
  unfold readLead
  split
  · split
    · exact reads_command ⟨_, fun _ => ⟨rfl, rfl⟩⟩
    · split
      · exact reads_command ⟨_, fun _ => ⟨rfl, rfl⟩⟩
      · exact reads_malformed
  · exact reads_malformed

theorem readTrainState_reads (src : ReqSource) (fields : List Byte) :
    (readTrainState src fields).Reads (RequestOf src) := by
  unfold readTrainState
  split
  · split
    · exact reads_command ⟨_, fun _ => ⟨rfl, rfl⟩⟩
    · exact reads_malformed
  · exact reads_malformed

theorem readAliasWrite_reads (src : ReqSource) (fields : List Byte) :
    (readAliasWrite src fields).Reads (RequestOf src) := by
  unfold readAliasWrite
  split
  · split
    · exact reads_command ⟨_, fun _ => ⟨rfl, rfl⟩⟩
    · exact reads_malformed
  · split
    · exact reads_command ⟨_, fun _ => ⟨rfl, rfl⟩⟩
    · exact reads_malformed
  · exact reads_malformed

theorem readRemote_reads (src : ReqSource) (fields : List Byte) : (readRemote src fields).Reads (RequestOf src) := by
  unfold readRemote
  dsimp only
  split
  · split
    · split
      · exact reads_malformed
      · split
        · split
          · exact reads_command ⟨_, fun _ => ⟨rfl, rfl⟩⟩
          · exact reads_command ⟨_, fun _ => ⟨rfl, rfl⟩⟩
        · split
          · exact reads_command ⟨_, fun _ => ⟨rfl, rfl⟩⟩
          · split
            · split
              · exact reads_malformed
              · exact reads_command ⟨_, fun _ => ⟨rfl, rfl⟩⟩
            · exact reads_malformed
    · exact reads_malformed
  · exact reads_malformed

theorem readDoorRelease_reads (src : ReqSource) (fields : List Byte) :
    (readDoorRelease src fields).Reads (RequestOf src) := by
  unfold readDoorRelease
  split
  · exact reads_command ⟨_, fun _ => ⟨rfl, rfl⟩⟩
  · exact reads_malformed

theorem readAllowance_reads (src : ReqSource) (fields : List Byte) :
    (readAllowance src fields).Reads (RequestOf src) := by
  unfold readAllowance
  split
  · split
    · exact reads_command ⟨_, fun _ => ⟨rfl, rfl⟩⟩
    · exact reads_malformed
  · exact reads_malformed

theorem readEdit_reads (src : ReqSource) (fields : List Byte) : (readEdit src fields).Reads (RequestOf src) := by
  unfold readEdit
  split
  · split
    · exact reads_command ⟨_, fun _ => ⟨rfl, rfl⟩⟩
    · exact reads_malformed
  · exact reads_malformed

theorem readRecordRead_reads (src : ReqSource) (fields : List Byte) :
    (readRecordRead src fields).Reads (RequestOf src) := by
  unfold readRecordRead
  split
  · exact reads_command ⟨_, fun _ => ⟨rfl, rfl⟩⟩
  · exact reads_malformed

/-- Every command the bytes of a request stand for is a request of its source. -/
theorem readRequest_reads (src : ReqSource) (kind : Byte) (fields : List Byte) :
    (readRequest src kind fields).Reads (RequestOf src) := by
  unfold readRequest
  split
  case h_11 => exact readLinkTest_reads src fields
  case h_13 => exact readLead_reads src fields
  case h_15 => exact readTrainState_reads src fields
  case h_16 => exact readAliasWrite_reads src fields
  case h_19 => exact readRemote_reads src fields
  case h_20 => exact readDoorRelease_reads src fields
  case h_24 => exact readAllowance_reads src fields
  case h_26 => exact readEdit_reads src fields
  case h_28 => exact readRecordRead_reads src fields
  case h_31 => exact fun _ h => nomatch h
  case h_1 | h_2 | h_4 | h_5 | h_6 | h_8 | h_14 | h_27 | h_29 => exact noFields_reads ⟨_, fun _ => ⟨rfl, rfl⟩⟩
  all_goals exact oneByte_reads fun _ => ⟨_, fun _ => ⟨rfl, rfl⟩⟩

theorem readRequest_unknown (src : ReqSource) {kind : Byte} (fields : List Byte) (h : kind = 0#8 ∨ 30 < kind.toNat) :
    readRequest src kind fields = .unknownKind := by
  have hrange : kind.toNat = 0 ∨ 30 < kind.toNat := h.imp (fun h => by rw [h]; rfl) id
  unfold readRequest
  split
  case h_31 => rfl
  all_goals omega

/-- The envelope at a node with no reset pending, for a request with a source (R109, R187, R195). -/
theorem envelope_taken {src : ReqSource} (body : Option Arm → State → State) {s : State}
    (hpending : s.req.resetPending = false) (hsrc : ∀ g t, src ≠ .line 0#8 g t) :
    envelope src body s = body s.req.arm s.armCleared := by
  unfold envelope
  split
  · exact absurd rfl (hsrc _ _)
  · exact if_neg (ne_true_of_eq_false hpending)

/-- Settles O45. -/
theorem answersGoBackToTheSource : Obligations.AnswersGoBackToTheSource := by
  refine ⟨fun tag st payload mark s hmark => ?_, fun h s => ?_⟩
  · intro room lost queued refused
    have hcab := fun position => offerCab_cases
      { bytes := [0x02#8, tag, statusCode st, position] ++ payload, mark := mark } s
    refine ⟨(hcab 0#8).1, (hcab 0#8).2, fun position generation => ?_⟩
    intro answered
    refine ⟨fun hstate => originateReply_unsettled hstate hmark, fun hstate hother => ?_, fun hstate hown => ?_⟩
    · exact (originateReply_settled hstate).trans (if_neg hother)
    · have hanswered : answered =
          offerCab { bytes := [0x02#8, tag, statusCode st, position] ++ payload, mark := mark } s := by
        refine ((originateReply_settled hstate).trans (if_pos hown)).trans ?_
        rw [byteOf_of_toNat hown]
        rfl
      rw [hanswered]
      exact hcab position
  · intro delivered dropped discarded src
    refine ⟨fun hsource payload => ?_, fun hsource hpending => ?_, fun status payload => ?_, rfl, fun payload hlength => ?_⟩
    · have hdropped : ∀ body, envelope src body s = dropped := fun body => by
        unfold envelope src
        rw [hsource]
        rfl
      unfold deliverRequest
      cases payload with
      | nil => exact hdropped _
      | cons kind fields =>
        show executeRequest src kind fields s = dropped
        unfold executeRequest
        cases hread : readRequest src kind fields with
        | command i =>
          obtain ⟨body, hbody⟩ := readRequest_reads src kind fields i hread
          exact (hbody s).2.trans (hdropped body)
        | unknownKind => exact hdropped _
        | malformed => exact hdropped _
    · have hsrc : ∀ g t, src ≠ .line 0#8 g t := fun g t hsame => hsource (ReqSource.line.inj hsame).1
      have hhandle : ∀ st, handle src (refuse src st) s = refuse src st s.armCleared := fun st =>
        envelope_taken _ hpending hsrc
      refine ⟨fun kind fields => ⟨fun c hread hpower => ?_, fun hread => ?_, fun hkind => ?_⟩, hhandle .range⟩
      · obtain ⟨body, hbody⟩ := readRequest_reads src kind fields c hread
        have hexecuted : deliverRequest (delivered 0x0B#8 (kind :: fields)) s = perform c s := by
          show executeRequest src kind fields s = perform c s
          unfold executeRequest
          rw [hread]
        rw [hexecuted, (hbody s).1, live_powered _ s hpower, (hbody s).2]
      · show executeRequest src kind fields s = _
        unfold executeRequest
        rw [hread]
        exact hhandle .range
      · show executeRequest src kind fields s = _
        unfold executeRequest
        rw [readRequest_unknown src fields hkind]
        exact hhandle .unknownKind
    · intro f mine
      have hdelivered : deliverReply f .plain s =
          if s.settledIn h.generation then
            offerCab { bytes := [0x02#8, h.tag, status, h.source] ++ payload, mark := .plain } s
          else discarded := rfl
      have hmine : s.settledIn h.generation = true ↔ mine := s.settledIn_iff _
      obtain ⟨hjoins, hlost⟩ := offerCab_cases
        { bytes := [0x02#8, h.tag, status, h.source] ++ payload, mark := .plain } s
      rw [hdelivered]
      refine ⟨fun hm hserved hroom => ?_, fun hm hfull => ?_, fun hm => if_neg fun hs => hm (hmine.mp hs)⟩
      · rw [if_pos (hmine.mpr hm)]
        exact hjoins ⟨hserved, hroom⟩
      · rw [if_pos (hmine.mpr hm)]
        refine hlost fun hroom => ?_
        rcases hfull with hunserved | hfull
        · rw [hunserved] at hroom
          exact absurd hroom.1 (by decide)
        · omega
    · exact if_neg fun hfive => hlength hfive.1

end Sys2Proof.Machine
end

section
/-! The requests that only read (R36, R108, R112, R179, R188 to R190). -/

namespace Sys2Proof.Machine

open Sys2Proof

theorem portOf_portNumber (p : PortId) : portOf (portNumber p) = some p := by cases p <;> rfl

theorem portOf_eq_none {number : Byte} (h1 : number ≠ 1#8) (h2 : number ≠ 2#8) : portOf number = none :=
  (if_neg h1).trans (if_neg h2)

theorem choiceCode_eq (b : Bool) : choiceCode b = if b then 1#8 else 2#8 := by cases b <;> rfl

theorem presence_orientation (o : Option Orientation) :
    presence (o.map fun o => [orientationCode o]) =
      match o with
      | none => [0#8]
      | some .forward => [1#8, 1#8]
      | some .reversed => [1#8, 2#8] := by
  rcases o with _ | _ | _ <;> rfl

/-- The first entry of a number (R108). -/
theorem findAlias_split {before after : List AliasEntry} {e : AliasEntry} (h : ∀ x ∈ before, x.number ≠ e.number) :
    findAlias e.number (before ++ e :: after) = some e := by
  unfold findAlias
  rw [List.find?_append, List.find?_eq_none.mpr (by simpa using h), Option.none_or]
  exact List.find?_cons_of_pos (decide_eq_true rfl)

theorem findAlias_eq_none {number : Byte} {t : List AliasEntry} (h : ∀ e ∈ t, e.number ≠ number) :
    findAlias number t = none := List.find?_eq_none.mpr (by simpa using h)

/-- The bytes of a REMOTE-STATION ROSTER (R111, R112). -/
theorem readRemote_roster {mode station last item count hi lo : Byte} {data : List Byte} (src : ReqSource)
    (h : data.length = count.toNat) :
    readRequest src 19#8 (3#8 :: mode :: station :: last :: item :: count :: data ++ [hi, lo]) =
      if mode = 4#8 then .malformed else .command (.remoteStationRoster src) := by
  show readRemote src (3#8 :: mode :: station :: last :: item :: count :: (data ++ [hi, lo])) = _
  unfold readRemote
  have htake : (data ++ [hi, lo]).take count.toNat = data := by rw [← h, List.take_left]
  have hdrop : (data ++ [hi, lo]).drop count.toNat = [hi, lo] := by rw [← h, List.drop_left]
  dsimp only
  rw [htake, hdrop]
  dsimp only
  rw [if_neg (not_not.mpr h)]
  rfl

/-- Settles O46. -/
theorem readingRequests : Obligations.ReadingRequests := by
  intro src s hexec u ok no words
  have hhandle : ∀ {i : Instr} {body : State → State}, exec i s = live (handle src body) s →
      exec i s = .next (finish (body u)) := fun h => h.trans (live_handle src _ s hexec)
  refine ⟨?_, ?_, ?_, fun page hpage => ?_, fun page hpage => ?_, fun p t ht => ?_, fun p hp => ?_,
    fun number h1 h2 => ?_, ?_, fun number hnumber hnone => ?_, fun before e after hsplit hnumber hbefore => ?_, ?_,
    fun mode station last item count hi lo data hlength => ?_, fun offset len hone hlast hend => ?_,
    fun image offset len hbad => ?_⟩
  · refine (hhandle (i := .identify src) rfl).trans ?_
    unfold doIdentify identifyPayload
    rw [choiceCode_eq]
    rfl
  · refine (hhandle (i := .readStatus src) rfl).trans ?_
    unfold doReadStatus statusPayload
    rw [choiceCode_eq, choiceCode_eq, presence_orientation]
    rfl
  · exact hhandle (i := .readCounters src) rfl
  · refine (hhandle (i := .readMap src page) rfl).trans ?_
    unfold doReadMap
    rw [if_neg (by omega)]
    rfl
  · refine (hhandle (i := .readMap src page) rfl).trans ?_
    unfold doReadMap
    rw [if_pos hpage]
  · refine (hhandle (i := .linkResult src (portNumber p)) rfl).trans ?_
    have ht' : (u.port p).result = some t := ht
    unfold doLinkResult
    rw [portOf_portNumber]
    dsimp only
    rw [ht']
    rfl
  · refine (hhandle (i := .linkResult src (portNumber p)) rfl).trans ?_
    have hp' : (u.port p).result = none := hp
    unfold doLinkResult
    rw [portOf_portNumber]
    dsimp only
    rw [hp']
  · refine (hhandle (i := .linkResult src number) rfl).trans ?_
    unfold doLinkResult
    rw [portOf_eq_none h1 h2]
  · exact hhandle (i := .aliasRead src 0#8) rfl
  · refine (hhandle (i := .aliasRead src number) rfl).trans ?_
    have hfind : findAlias number u.req.aliases = none := findAlias_eq_none hnone
    unfold doAliasRead
    dsimp only
    rw [if_neg hnumber, hfind]
  · refine (hhandle (i := .aliasRead src e.number) rfl).trans ?_
    have hfind : findAlias e.number u.req.aliases = some e := by
      show findAlias e.number s.req.aliases = some e
      rw [hsplit, findAlias_split hbefore]
    unfold doAliasRead
    dsimp only
    rw [if_neg hnumber, hfind]
  · exact hhandle (i := .remoteStationRoster src) rfl
  · intro roster
    have hroster : exec roster s =
        live (executeRequest src 19#8 (3#8 :: mode :: station :: last :: item :: count :: data ++ [hi, lo])) s := rfl
    rw [live_powered _ s hexec.1] at hroster
    unfold executeRequest at hroster
    rw [readRemote_roster src hlength] at hroster
    refine ⟨fun hmode => ?_, fun hmode => ?_⟩
    · rw [if_neg hmode] at hroster
      exact hroster.trans (congrArg (fun t => Host.Outcome.next (finish t)) (handle_executable src _ s hexec))
    · rw [if_pos hmode] at hroster
      exact hroster.trans (congrArg (fun t => Host.Outcome.next (finish t)) (handle_executable src _ s hexec))
  · have hrange : ¬(len.toNat = 0 ∨ 64 < len.toNat ∨ Config.imageSize < offset.toNat + len.toNat) := by
      have himage : Config.imageSize = 512 := rfl
      omega
    refine ⟨(hhandle (i := .recordRead src 1#8 offset len) rfl).trans ?_,
      (hhandle (i := .recordRead src 2#8 offset len) rfl).trans ?_⟩
    · unfold doRecordRead
      dsimp only
      rw [if_neg hrange]
      rfl
    · unfold doRecordRead
      dsimp only
      rw [if_neg hrange]
      rfl
  · refine (hhandle (i := .recordRead src image offset len) rfl).trans ?_
    unfold doRecordRead
    dsimp only
    by_cases hrange : len.toNat = 0 ∨ 64 < len.toNat ∨ Config.imageSize < offset.toNat + len.toNat
    · rw [if_pos hrange]
    · have himage : image ≠ 1#8 ∧ image ≠ 2#8 := by
        rcases hbad with hzero | hlong | hend | himage
        · exact absurd (.inl (by rw [hzero]; rfl)) hrange
        · exact absurd (.inr (.inl hlong)) hrange
        · exact absurd (.inr (.inr hend)) hrange
        · exact himage
      rw [if_neg hrange, if_neg himage.1, if_neg himage.2]

end Sys2Proof.Machine
end

section
/-! The management requests, and where a notice goes (R187, R190 to R196). -/

namespace Sys2Proof.Machine

open Sys2Proof

/-! ## The envelope while a reset is pending (R187) -/

theorem envelope_busy {src : ReqSource} (body : Option Arm → State → State) {s : State}
    (hpending : s.req.resetPending = true) (hsrc : ∀ g t, src ≠ .line 0#8 g t) :
    envelope src body s = refuse src .busy s.armCleared := by
  unfold envelope
  split
  · exact absurd rfl (hsrc _ _)
  · exact if_pos hpending

/-! ## RESET-NODE (R196) -/

/-- A RESET-NODE comes from where the arm came from: the cab station or the same position, in one generation. -/
def fromArmed (src : ReqSource) (a : Arm) (s : State) : Prop :=
  match a.source, src with
  | .cab _, .cab _ => a.generation = s.consist.generation
  | .line p _ _, .line q g _ => p = q ∧ a.generation = g
  | _, _ => False

theorem fromArmed_iff (src : ReqSource) (a : Arm) (s : State) :
    sameSource a.source src = true ∧ a.generation = requestGeneration src s ↔ fromArmed src a s := by
  obtain ⟨source, generation⟩ := a
  cases source with
  | cab tag =>
    cases src with
    | cab tag' => exact and_iff_right rfl
    | line p g tag' => exact ⟨fun h => absurd h.1 Bool.false_ne_true, False.elim⟩
  | line p g tag =>
    cases src with
    | cab tag' => exact ⟨fun h => absurd h.1 Bool.false_ne_true, False.elim⟩
    | line q g' tag' => exact and_congr decide_eq_true_iff Iff.rfl

theorem armMatches_iff (src : ReqSource) (tag : Byte) (a : Arm) (s : State) :
    armMatches src tag s (some a) = true ↔ fromArmed src a s ∧ tag = tagOf a.source := by
  rw [← fromArmed_iff, eq_comm (a := tag)]
  unfold armMatches
  simp only [Bool.and_eq_true, decide_eq_true_eq]

theorem doResetNode_matching {src : ReqSource} {tag : Byte} {a : Arm} {s : State} (hsame : fromArmed src a s)
    (htag : tag = tagOf a.source) :
    doResetNode src tag (some a) s =
      answer src .ok [] .resetReply
        { s with req := { s.req with resetPending := true, resetTimer := some 200 } } :=
  if_pos ((armMatches_iff src tag a s).mpr ⟨hsame, htag⟩)

theorem doResetNode_refused {src : ReqSource} {tag : Byte} {arm : Option Arm} {s : State}
    (h : ∀ a, arm = some a → ¬(fromArmed src a s ∧ tag = tagOf a.source)) :
    doResetNode src tag arm s = refuse src .state s := by
  refine if_neg fun hm => ?_
  cases arm with
  | none => exact absurd hm Bool.false_ne_true
  | some a => exact h a rfl ((armMatches_iff src tag a s).mp hm)

/-! ## Notices on their way to a cab station (R192) -/

/-- A notice cab frame as it stands in the queue. -/
def noticeFrame (position : Byte) (n : Notice) : CabFrame where
  bytes := [0x03#8, position] ++ noticeBytes n
  mark := .plain

theorem offerCabNotice_room {position : Byte} {n : Notice} {s : State} (hserved : s.cabServed = true)
    (hroom : s.bus.outbound.length < 16) :
    offerCabNotice position (noticeBytes n) s =
      { s with bus := { s.bus with outbound := s.bus.outbound ++ [noticeFrame position n] } } :=
  (offerCab_cases (noticeFrame position n) s).1 ⟨hserved, hroom⟩

theorem offerCabNotice_full {position : Byte} {n : Notice} {s : State}
    (h : s.cabServed = false ∨ 16 ≤ s.bus.outbound.length) :
    offerCabNotice position (noticeBytes n) s =
      { s with bus := { s.bus with cabDrop := satInc s.bus.cabDrop } } := by
  refine (offerCab_cases (noticeFrame position n) s).2 fun hroom => ?_
  rcases h with hunserved | hfull
  · exact absurd (hunserved.symm.trans hroom.1) (by decide)
  · omega

/-- Several notices with room for all of them join in order. -/
theorem foldl_offerCabNotice (position : Byte) (ns : List Notice) {s : State} (hserved : s.cabServed = true)
    (hroom : s.bus.outbound.length + ns.length ≤ 16) :
    ns.foldl (fun s n => offerCabNotice position (noticeBytes n) s) s =
      { s with bus := { s.bus with outbound := s.bus.outbound ++ ns.map (noticeFrame position) } } := by
  induction ns generalizing s with
  | nil => rw [List.map_nil, List.append_nil, List.foldl_nil]
  | cons n rest ih =>
    rw [List.length_cons] at hroom
    rw [List.foldl_cons, offerCabNotice_room hserved (by omega), ih]
    · simp [List.append_assoc]
    · exact hserved
    · simp only [List.length_append, List.length_singleton]
      omega

theorem flushNotices_room {s : State} (hserved : s.cabServed = true)
    (hroom : s.bus.outbound.length + s.req.notices.length ≤ 16) :
    flushNotices s =
      { s with
        req := { s.req with notices := [] }
        bus := { s.bus with outbound := s.bus.outbound ++ s.req.notices.map (noticeFrame s.sourcePosition) } } :=
  foldl_offerCabNotice s.sourcePosition s.req.notices (s := s.modReq fun r => { r with notices := [] }) hserved hroom

/-! ## Forwarding (R193) -/

/-- The conditions of notice forwarding. -/
def mayForward (s : State) : Prop :=
  s.req.forwarding = true ∧ s.consist.state = .settled ∧ s.consist.status ≠ .valid ∧ s.req.spacing = none

theorem mayForward_iff (s : State) :
    (s.req.forwarding && s.isSettled && !s.actsAsHead && decide (s.req.spacing = none)) = true ↔ mayForward s := by
  simp [mayForward, State.isSettled, State.actsAsHead, and_assoc]

theorem forwardNotices_none {s : State} (h : ¬mayForward s ∨ s.req.notices = []) : forwardNotices s = s := by
  unfold forwardNotices
  by_cases hmay : mayForward s
  · rw [if_pos ((mayForward_iff s).mpr hmay), h.resolve_left (not_not.mpr hmay)]
  · exact if_neg fun hm => hmay ((mayForward_iff s).mp hm)

/-- The NOTICE a SETTLED node sends to position 1. -/
def forwardedNotice (s : State) (n : Notice) : Frame where
  kind := 0x0D#8
  header := { generation := s.consist.generation, flags := 0#8, destination := 1#8
              source := byteOf s.position, tag := 0#8 }
  payload := noticeBytes n

theorem forwardNotices_takes {n : Notice} {rest : List Notice} {s : State} (hmay : mayForward s)
    (hnotices : s.req.notices = n :: rest) :
    let taken : State := { s with req := { s.req with notices := rest, spacing := some 20 } }
    forwardNotices s =
      if s.position = 1 then { taken with req := { taken.req with requestDrop := satInc s.req.requestDrop } }
      else route { frame := forwardedNotice s n, mark := .plain } taken := by
  intro taken
  have hsettled : taken.isSettled = true := decide_eq_true hmay.2.1
  have hsource : taken.sourcePosition = byteOf s.position := if_pos hsettled
  have hhead : taken.actsAsHead = false := decide_eq_false hmay.2.2.1
  have hframe : buildFrame taken Config.kindNotice 1#8 0#8 (noticeBytes n) = forwardedNotice s n := by
    unfold buildFrame buildFrameIn forwardedNotice
    rw [hsource]
    rfl
  have hforward : forwardNotices s = originateNotice n taken := by
    unfold forwardNotices
    rw [if_pos ((mayForward_iff s).mpr hmay), hnotices]
    rfl
  rw [hforward]
  unfold originateNotice
  dsimp only
  rw [hframe, hsettled, if_neg (by decide)]
  refine if_congr Iff.rfl (if_neg fun hd => ?_) rfl
  rw [hhead] at hd
  exact absurd hd.2 (by decide)

/-- Settles O47. -/
theorem managementRequests : Obligations.ManagementRequests := by
  refine ⟨fun src s hexec => ?_, fun kind subject value n s => ?_⟩
  · intro u
    have hhandle : ∀ {i : Instr} {body : State → State}, exec i s = live (handle src body) s →
        exec i s = .next (finish (body u)) := fun h => h.trans (live_handle src _ s hexec)
    have hreset : ∀ tag, exec (.resetNode src tag) s = .next (finish (doResetNode src tag s.req.arm u)) := fun tag =>
      live_envelope src (doResetNode src tag) s hexec
    refine ⟨⟨clearAll u, hhandle (i := .clearCounters src) rfl, rfl, rfl, rfl, rfl, rfl, rfl, rfl, rfl, rfl⟩, ?_,
      fun setting => ?_, hhandle (i := .resetArm src) rfl, fun a tag harm => ?_, fun tag harm => ?_, fun kind fields => ?_⟩
    · refine (hhandle (i := .readNotices src) rfl).trans ?_
      unfold doReadNotices
      have htaken : (u.req.notices.take Config.noticesPerRead).length = min 16 s.req.notices.length := List.length_take
      have hleft : (u.req.notices.drop Config.noticesPerRead).length = s.req.notices.length - 16 := List.length_drop
      dsimp only
      rw [htaken, hleft, List.append_assoc]
      rfl
    · refine (hhandle (i := .setNoticeForwarding src setting) rfl).trans ?_
      unfold doSetForwarding
      by_cases hon : setting = 1#8
      · rw [if_pos (.inl hon), if_pos hon, decide_eq_true hon]
        rfl
      · by_cases hoff : setting = 2#8
        · rw [if_pos (.inr hoff), if_neg hon, if_pos hoff, decide_eq_false hon]
          rfl
        · rw [if_neg (by simp [hon, hoff]), if_neg hon, if_neg hoff]
    · intro same
      rw [hreset, harm]
      refine ⟨fun hsame htag => ?_, fun hother => ?_⟩
      · rw [doResetNode_matching (s := u) hsame htag]
      · rw [doResetNode_refused fun b hb hm => ?_]
        cases hb
        exact hother.elim (fun h => h hm.1) fun h => h hm.2
    · rw [hreset, harm, doResetNode_refused (fun b hb => by cases hb)]
    · intro pending busy
      have hbusy : ∀ body, live (envelope src body) pending = busy := fun body => by
        rw [live_powered _ pending hexec.1, envelope_busy (s := pending) body rfl hexec.2.2]
      refine ⟨?_, fun i hread => ?_⟩
      · show live (executeRequest src kind fields) pending = busy
        have hexecuted : ∃ body, executeRequest src kind fields pending = envelope src body pending := by
          unfold executeRequest
          cases hread : readRequest src kind fields with
          | command i =>
            obtain ⟨body, hbody⟩ := readRequest_reads src kind fields i hread
            exact ⟨body, (hbody pending).2⟩
          | unknownKind => exact ⟨_, rfl⟩
          | malformed => exact ⟨_, rfl⟩
        obtain ⟨body, hbody⟩ := hexecuted
        rw [← hbusy body, live_powered _ pending hexec.1, live_powered _ pending hexec.1, hbody]
      · obtain ⟨body, hbody⟩ := readRequest_reads src kind fields i hread
        exact (hbody pending).1.trans (hbusy body)
  · intro raised toCab lost
    have hhead : s.actsAsHead = true ↔ s.consist.status = .valid := decide_eq_true_iff
    have hposition : (if s.isSettled then 1#8 else 0#8 : Byte) = if s.consist.state = .settled then 1#8 else 0#8 := by
      unfold State.isSettled
      simp
    have hdelivered : ∀ h, deliverNotice { kind := 0x0D#8, header := h, payload := noticeBytes n } s =
        if s.actsAsHead then offerCabNotice h.source (noticeBytes n) s
        else { s with req := { s.req with requestDrop := satInc s.req.requestDrop } } := fun h =>
      if_congr ⟨fun hc => hc.2, fun hc => ⟨rfl, hc⟩⟩ rfl rfl
    refine ⟨rfl, fun hvalid hserved hroom => ?_, fun hvalid hfull => ?_, fun hnot hroom => ?_, fun hnot hfull => ?_,
      fun h => ?_, fun hnow hnot hserved hroom => ?_, ?_⟩
    · unfold enqueueNotice
      rw [if_pos (hhead.mpr hvalid), hposition]
      exact offerCabNotice_room hserved hroom
    · unfold enqueueNotice
      rw [if_pos (hhead.mpr hvalid)]
      exact offerCabNotice_full hfull
    · unfold enqueueNotice
      rw [if_neg (fun hh => hnot (hhead.mp hh))]
      exact if_pos hroom
    · unfold enqueueNotice
      rw [if_neg (fun hh => hnot (hhead.mp hh))]
      exact if_neg (Nat.not_lt.mpr hfull)
    · intro f
      refine ⟨fun hvalid hserved hroom => ?_, fun hvalid hfull => ?_, fun hnot => ?_⟩
      · exact (hdelivered h).trans ((if_pos (hhead.mpr hvalid)).trans (offerCabNotice_room hserved hroom))
      · exact (hdelivered h).trans ((if_pos (hhead.mpr hvalid)).trans (offerCabNotice_full hfull))
      · exact (hdelivered h).trans (if_neg fun hh => hnot (hhead.mp hh))
    · have hsource : (s.modConsist fun c => { c with status := .valid }).sourcePosition =
          if s.consist.state = .settled then byteOf s.position else 0#8 := by
        exact if_congr decide_eq_true_iff rfl rfl
      have hflush := flushNotices_room (s := s.modConsist fun c => { c with status := .valid }) hserved hroom
      rw [hsource] at hflush
      unfold evalClaims
      rw [hnow]
      dsimp only
      rw [if_neg (Ne.symm hnot), if_pos rfl, hflush]
      rfl
    · intro may
      refine ⟨fun rest hmay hnotices => ?_, forwardNotices_none⟩
      intro taken
      have htakes := forwardNotices_takes hmay hnotices
      exact ⟨fun hother => htakes.trans (if_neg hother), fun hown => htakes.trans (if_pos hown)⟩

end Sys2Proof.Machine
end

section
/-! The requests about a port: PORT-RESTART and LINK-TEST (R31, R32). -/

namespace Sys2Proof.Machine

open Sys2Proof

/-! ## A port that PORT-RESTART takes DOWN (R22, R31) -/

/-- What a port with the state `q` holds once PORT-RESTART has taken it DOWN, but for its test result. -/
structure RestartsAs (q r : Port) : Prop where
  link : r.link = .down
  lastDown : r.lastDown = .restart
  neighbour : r.neighbour = none
  dropInterval : r.dropInterval = some 200
  contactHoldoff : r.contactHoldoff = q.contactHoldoff
  urgent : r.urgent = []
  normal : r.normal = []
  transmitter : r.transmitter = none
  offer : r.offer = .none
  testDue : r.testDue = false
  run : r.run = none

/-- A port falls by a restart: its link side is that of a port down, and its frames are gone. -/
theorem loseEgress_restarts (p : PortId) (s : State) :
    let t := loseEgress p (s.modPort p (Port.down .restart false))
    RestartsAs (s.port p) (t.port p) ∧ (t.port p).result = (s.port p).fallenResult := by
  let fallen : State := s.modPort p (Port.down .restart false)
  have hfallen : fallen.port p = (s.port p).down .restart false := State.modPort_port_self p _ s
  obtain ⟨hurgent, hnormal, htransmitter, -, hside⟩ := loseEgress_port p fallen
  rw [hfallen] at hside
  have hdue : ((loseEgress p fallen).port p).testDue = false := by
    unfold loseEgress
    exact dropFrames_testDue _ (by simp [fallen, Port.down]) (by simp [fallen, Port.down])
  have hfield : ∀ {α : Type} (g : Port → α), (∀ q : Port, g q.linkSide = g q) →
      g ((loseEgress p fallen).port p) = g ((s.port p).down .restart false) :=
    fun g hg => Port.field_of_linkSide g hg hside
  exact ⟨⟨hfield _ fun _ => rfl, hfield _ fun _ => rfl, hfield _ fun _ => rfl, hfield _ fun _ => rfl,
    hfield _ fun _ => rfl, hurgent, hnormal, htransmitter, hfield _ fun _ => rfl, hdue, hfield _ fun _ => rfl⟩,
    hfield _ fun _ => rfl⟩

/-- The first part of a restart from SETTLING, and that of a port down event, which a waiting notice may
follow. -/
theorem enterDown_restart (p : PortId) (s : State) :
    enterDown p false (s.modPort p fun q => { q with lastDown := .restart }) =
      loseEgress p (s.modPort p (Port.down .restart false)) := by
  unfold enterDown
  rw [State.modPort_modPort]
  exact congrArg (fun f => loseEgress p (s.modPort p f)) (funext (Port.fallen_eq .restart false))

theorem portFalls_restart_port (p : PortId) (s : State) :
    (portFalls p .restart false s).port p = (loseEgress p (s.modPort p (Port.down .restart false))).port p := by
  have hlink := (loseEgress_restarts p s).1.link
  rw [portFalls_eq, forwardNotices_port_deaf]
  simp [Port.carries, hlink]

/-- A test that runs is aborted: the record holds its counts (R31, R36). -/
theorem testFalls_restarts (p : PortId) (r : TestRun) (s : State) :
    let t := testFalls p r .aborted .restart s
    RestartsAs (s.port p) (t.port p) ∧ (t.port p).result = some (r.result .aborted) := by
  obtain ⟨hlink, hneighbour, -, -, -, hrun, hoffer, -, hinterval, hholdoff, hurgent, hnormal, htransmitter, -⟩ :=
    enterDown_port p false s
  have hdue : ((enterDown p false s).port p).testDue = false := by
    unfold enterDown loseEgress
    exact dropFrames_testDue _ (by simp [Port.fallen, Port.endOffer_eq]) (by simp [Port.fallen, Port.endOffer_eq])
  unfold testFalls
  dsimp only
  rw [State.modPort_port_self]
  exact ⟨⟨hlink, rfl, hneighbour, hinterval, hholdoff, hurgent, hnormal, htransmitter, hoffer, hdue, hrun⟩, rfl⟩

/-! ## PORT-RESTART (R31) -/

/-- What follows the fall of a port that was in the link state `link`: a port event from UP and GLITCH. -/
def restartTold (link : LinkState) (p : PortId) (x : State) : State :=
  if link = .up ∨ link = .glitch then raise .portDown (portNumber p) 5 (tellPortEvent x) else evalClaims x

/-- A restart takes the port DOWN first; the reply and the consequences follow in either order (assumption 9). -/
theorem restartPort_falls {p : PortId} {s : State} (reply : State → State) (hlink : (s.port p).link ≠ .down)
    (hrun : (s.port p).link = .test → (s.port p).run ≠ none) :
    ∃ t, RestartsAs (s.port p) (t.port p)
      ∧ (∀ r, (s.port p).link = .test → (s.port p).run = some r → (t.port p).result = some (r.result .aborted))
      ∧ ((s.port p).link ≠ .test → (t.port p).result = (s.port p).fallenResult)
      ∧ t.consist = s.consist ∧ t.door = s.door ∧ t.heat = s.heat
      ∧ (restartPort p reply s = restartTold (s.port p).link p (reply t)
        ∨ restartPort p reply s = reply (restartTold (s.port p).link p t)) := by
  have htold : ∀ (fallen : State) (consequences : State → State),
      (∀ x, consequences x = restartTold (s.port p).link p x) →
      let whole := if Config.replyBeforeChange s.freeCount = true
        then consequences (reply fallen.drawFree) else reply (consequences fallen.drawFree)
      whole = restartTold (s.port p).link p (reply fallen.drawFree)
        ∨ whole = reply (restartTold (s.port p).link p fallen.drawFree) := by
    intro fallen consequences hconsequences whole
    cases hfirst : Config.replyBeforeChange s.freeCount with
    | true => exact .inl ((if_pos hfirst).trans (hconsequences _))
    | false =>
      refine .inr ((if_neg (by simp [hfirst])).trans ?_)
      rw [hconsequences]
  have hports : ∀ (t : State) (q : PortId), t.drawFree.port q = t.port q := fun t q => by cases q <;> rfl
  unfold restartPort
  cases hstate : (s.port p).link with
  | down => exact absurd hstate hlink
  | settling =>
    rw [hstate] at htold
    obtain ⟨hfall, hresult⟩ := loseEgress_restarts p s
    have hegress := loseEgress_egress p (s.modPort p (Port.down .restart false))
    dsimp only
    rw [enterDown_restart]
    refine ⟨(loseEgress p (s.modPort p (Port.down .restart false))).drawFree, (hports _ p).symm ▸ hfall, fun r h => by simp at h, fun _ => (hports _ p).symm ▸ hresult,
      hegress.consist.trans (by simp), hegress.door.trans (by simp), hegress.heat.trans (by simp),
      htold _ evalClaims fun x => rfl⟩
  | up | glitch =>
    rw [hstate] at htold
    obtain ⟨hfall, hresult⟩ := loseEgress_restarts p s
    rw [← portFalls_restart_port] at hfall hresult
    have hegress := portFalls_egress p .restart false s
    dsimp only
    refine ⟨(portFalls p .restart false s).drawFree, (hports _ p).symm ▸ hfall, fun r h => by simp at h, fun _ => (hports _ p).symm ▸ hresult,
      hegress.consist.trans (by simp), hegress.door.trans (by simp), hegress.heat.trans (by simp),
      htold _ (reportPortDown p .restart) fun x => rfl⟩
  | test =>
    rw [hstate] at htold
    obtain ⟨r, hr⟩ := Option.ne_none_iff_exists'.mp (hrun hstate)
    obtain ⟨hfall, hresult⟩ := testFalls_restarts p r s
    have hegress := loseEgress_egress p (s.modPort p (Port.fallen false))
    dsimp only
    rw [hr]
    refine ⟨(testFalls p r .aborted .restart s).drawFree, (hports _ p).symm ▸ hfall, fun r' _ h => ?_, fun h => absurd rfl h, ?_, ?_, ?_,
      htold _ evalClaims fun x => rfl⟩
    · rw [hports, hresult, Option.some.inj h]
    · exact (testFalls_port p r .aborted .restart s).2.2.2.2.1
    · simp only [testFalls, State.drawFree_door, State.modPort_door]
      exact hegress.door.trans (by simp)
    · simp only [testFalls, State.drawFree_heat, State.modPort_heat]
      exact hegress.heat.trans (by simp)

/-! ## LINK-TEST (R32) -/

/-- Settles O48: PORT-RESTART by the link state of its port, LINK-TEST by its checks in turn. -/
theorem portRequests : Obligations.PortRequests := by
  intro src p s hexec
  dsimp only
  have hhandle : ∀ {i body}, exec i s = live (handle src body) s →
      exec i s = .next (finish (body s.armCleared)) := fun h => h.trans (live_handle src _ s hexec)
  have hrestart : ∀ number, exec (.portRestart src number) s =
      .next (finish (doPortRestart src number s.armCleared)) := fun number => hhandle rfl
  have htest : ∀ number frames, exec (.linkTest src number frames) s =
      .next (finish (doLinkTest src number frames s.armCleared)) := fun number frames => hhandle rfl
  have hport : s.armCleared.port p = s.port p := by cases p <;> rfl
  simp only [hrestart, htest]
  unfold doPortRestart doLinkTest
  simp only [portOf_portNumber, hport]
  refine ⟨fun number h1 h2 => ?_, fun hdown => ?_, fun hlink hrun => ?_, fun frames => ?_⟩
  · simp only [portOf_eq_none h1 h2]
    exact ⟨trivial, fun _ => trivial⟩
  · unfold restartPort
    rw [hport, hdown]
  · rw [← hport] at hlink hrun
    obtain ⟨t, hfall, haborted, hresult, hconsist, hdoor, hheat, horder⟩ :=
      restartPort_falls (accept src []) hlink hrun
    rw [hport] at hfall haborted hresult horder
    exact ⟨t, hfall.link, hfall.lastDown, hfall.neighbour, hfall.dropInterval, hfall.contactHoldoff, hfall.urgent,
      hfall.normal, hfall.transmitter, hfall.offer, hfall.testDue, hfall.run, haborted, hresult, hconsist, hdoor,
      hheat, horder.imp (congrArg fun t => Host.Outcome.next (finish t)) (congrArg fun t => Host.Outcome.next (finish t))⟩
  · have hallowed : testAllowed s.armCleared = true ↔ s.consist.state ≠ .settled ∨ s.pins.workshop = true :=
      testAllowed_iff s.armCleared
    refine ⟨fun hrange => ?_, fun hrange hnot => ?_, fun hrange hyes hoffer => ?_, fun hrange hyes hoffer => ?_⟩
    · rw [if_pos (by omega)]
    · rw [if_neg (by omega), if_pos]
      by_contra h
      push Not at h
      exact hnot ⟨h.1, hallowed.mp (by simpa using h.2)⟩
    · rw [if_neg (by omega), if_neg (by simp [hyes.1, hallowed.mpr hyes.2]), if_pos hoffer]
    · rw [if_neg (by omega), if_neg (by simp [hyes.1, hallowed.mpr hyes.2]), if_neg (by simp [hoffer])]
      rfl

end Sys2Proof.Machine
end

section
/-! Notices where a CHANGE goes out, and entry to VALID (R15, R18, R41, R192). -/

namespace Sys2Proof.Machine

open Sys2Proof

/-! ## The notices a CHANGE may add (R18) -/

/-- A notice joins the queue behind those that wait, or goes elsewhere. -/
theorem enqueueNotice_notices (n : Notice) (s : State) : s.req.notices <+: (enqueueNotice n s).req.notices := by
  unfold enqueueNotice
  split
  · rw [offerCabNotice_req]
  · split
    · exact List.prefix_append _ _
    · exact List.prefix_rfl

theorem dropFrame_notices (p : PortId) (e : LaneEntry) (s : State) :
    s.req.notices <+: (dropFrame p e s).req.notices := by
  have hport : ∀ f, (s.modPort p f).req = s.req := fun f => State.modPort_req p f s
  rw [dropFrame_eq, laneFrameGone_eq, State.modPort_req, withoutReply_notices]
  unfold lossTold
  dsimp only
  split
  · have h := enqueueNotice_notices
      (State.noticeOf (s.modPort p fun q => { q with dropped := satInc q.dropped }) .queueDrop (portNumber p)
        (satInc (s.port p).dropped))
      ((s.modPort p fun q => { q with dropped := satInc q.dropped }).modPort p fun q => { q with dropHoldoff := some 1000 })
    rwa [State.modPort_req, State.modPort_req] at h
  · rw [hport]

@[simp] theorem pump_req (p : PortId) (s : State) : (pump p s).req = s.req := by
  unfold pump
  dsimp only
  split
  · split <;> simp
  · rfl

theorem offerIfCarrying_notices {f : Frame} (p : PortId) (s : State) (hurgent : isNormalKind f.kind = false) :
    s.req.notices <+: (offerIfCarrying p f s).req.notices
      ∧ (((s.port p).carries = true → (s.port p).urgent.length < 8) → (offerIfCarrying p f s).req = s.req) := by
  unfold offerIfCarrying
  by_cases hc : (s.port p).carries = true
  · rw [if_pos hc, offerFrame, offer]
    dsimp only
    rw [if_pos (.inl hc), hurgent, if_neg Bool.false_ne_true, pump_req, joinUrgent]
    dsimp only
    by_cases hroom : (s.port p).urgent.length < Config.urgentLaneSize
    · rw [if_pos hroom, State.modPort_req]
      exact ⟨List.prefix_rfl, fun _ => rfl⟩
    · rw [if_neg hroom]
      refine ⟨?_, fun h => absurd (h hc) hroom⟩
      split
      · have h := dropFrame_notices p
        simpa using h _ (s.modPort p _)
      · exact dropFrame_notices p _ s
  · rw [if_neg hc]
    exact ⟨List.prefix_rfl, fun _ => rfl⟩

theorem broadcast_notices {f : Frame} (s : State) (hurgent : isNormalKind f.kind = false) :
    s.req.notices <+: (broadcast f s).req.notices
      ∧ ((∀ p, (s.port p).carries = true → (s.port p).urgent.length < 8) → (broadcast f s).req = s.req) := by
  obtain ⟨hfirst, hfirstRoom⟩ := offerIfCarrying_notices (f := f) .lp1 s hurgent
  obtain ⟨hsecond, hsecondRoom⟩ := offerIfCarrying_notices (f := f) .lp2 (offerIfCarrying .lp1 f s) hurgent
  have hother : (offerIfCarrying .lp1 f s).port .lp2 = s.port .lp2 := offerIfCarrying_port_other .lp1 f s
  rw [hother] at hsecondRoom
  exact ⟨hfirst.trans hsecond, fun hroom => (hsecondRoom (hroom .lp2)).trans (hfirstRoom (hroom .lp1))⟩

theorem announceChange_notices (s : State) :
    s.req.notices <+: (announceChange s).req.notices
      ∧ ((∀ p, (s.port p).carries = true → (s.port p).urgent.length < 8) → (announceChange s).req = s.req) := by
  rw [announceChange_eq]
  have hport : ∀ p, (ownChangeEntered s).port p = s.port p := fun p => by cases p <;> rfl
  have h := broadcast_notices (ownChangeEntered s) (f :=
    { kind := 0x03#8, header := broadcastHeader s.consist.generation s.sourcePosition
      payload := changePayload (s.identity, s.consist.changeCounter + 1#8) }) rfl
  simp only [hport] at h
  exact h

/-! ## Entry to VALID (R192) -/

/-- How many cab frames the outbound queue still takes. -/
def State.cabRoom (s : State) : Nat := if s.cabServed = true then 16 - s.bus.outbound.length else 0

/-- The waiting notices join the cab outbound queue in order as long as there is room; the others are lost. -/
theorem foldl_offerCabNotice_drops (position : Byte) (ns : List Notice) (s : State) :
    ns.foldl (fun s n => offerCabNotice position (noticeBytes n) s) s =
      { s with
        bus := { s.bus with
          outbound := s.bus.outbound ++ (ns.map (noticeFrame position)).take s.cabRoom
          cabDrop := satInc^[ns.length - s.cabRoom] s.bus.cabDrop } } := by
  induction ns generalizing s with
  | nil => simp
  | cons n rest ih =>
    rw [List.foldl_cons, List.map_cons, List.length_cons]
    by_cases hroom : s.cabServed = true ∧ s.bus.outbound.length < 16
    · obtain ⟨k, hk⟩ : ∃ k, s.cabRoom = k + 1 := ⟨15 - s.bus.outbound.length, by
        rw [State.cabRoom, if_pos hroom.1]
        omega⟩
      have hnext : (State.cabRoom { s with
          bus := { s.bus with outbound := s.bus.outbound ++ [noticeFrame position n] } }) = k := by
        have hbefore : s.cabRoom = 16 - s.bus.outbound.length := if_pos hroom.1
        refine (if_pos hroom.1).trans ?_
        rw [List.length_append, List.length_singleton]
        omega
      rw [offerCabNotice_room hroom.1 hroom.2, ih, hnext, hk, List.take_succ_cons, Nat.add_sub_add_right,
        List.append_assoc]
      rfl
    · have hzero : s.cabRoom = 0 := by
        rw [State.cabRoom]
        split
        · next hserved =>
          have : ¬s.bus.outbound.length < 16 := fun h => hroom ⟨hserved, h⟩
          omega
        · rfl
      have hnext : (State.cabRoom { s with bus := { s.bus with cabDrop := satInc s.bus.cabDrop } }) = 0 := hzero
      have hfull : s.cabServed = false ∨ 16 ≤ s.bus.outbound.length := by
        rw [not_and_or, Bool.not_eq_true, Nat.not_lt] at hroom
        exact hroom
      rw [offerCabNotice_full hfull, ih, hnext, hzero, List.take_zero, List.take_zero, Nat.sub_zero, Nat.sub_zero,
        Function.iterate_succ_apply]

theorem flushNotices_eq (s : State) :
    flushNotices s =
      { s with
        req := { s.req with notices := [] }
        bus := { s.bus with
          outbound := s.bus.outbound ++ (s.req.notices.map (noticeFrame s.sourcePosition)).take s.cabRoom
          cabDrop := satInc^[s.req.notices.length - s.cabRoom] s.bus.cabDrop } } :=
  foldl_offerCabNotice_drops s.sourcePosition s.req.notices (s.modReq fun r => { r with notices := [] })

end Sys2Proof.Machine
end

section
/-! The claim status and the requests of the lead (R38 to R41, R62, R75, R164). -/

namespace Sys2Proof.Machine

open Sys2Proof

/-! ## Losing the lead (R41) -/

/-- The node as the claim status leaves VALID, before the CHANGE goes out. -/
def leadLost (s : State) : State :=
  { s with
    sweep := { s.sweep with
      periodTimer := none, outstanding := none
      request := { standstill := false, enableLeft := false, enableRight := false } }
    door := { s.door with trainProof := false }
    consist := { s.consist with
      retryTimer := none, conflictHold := false
      rollTimer := if s.consist.phase = .counting then none else s.consist.rollTimer
      phase := if s.consist.phase = .counting then .none else s.consist.phase } }

theorem loseValidity_eq (s : State) :
    loseValidity s =
      if s.consist.phase = .counting then leaveCensus (changeEffect (announceChange (leadLost s)))
      else changeEffect (announceChange (leadLost s)) := by
  unfold loseValidity leadLost
  by_cases h : s.consist.phase = .counting
  · simp only [h, if_true]
    rfl
  · simp only [h, if_false]
    rfl

/-- A census left by a node that does not stand in PENDING without its wait running is a matter of the Consist
Unit alone (R45). -/
theorem leaveCensus_of_wait {s : State} (h : s.consist.state = .pending → ∃ k, s.consist.wait = .running k) :
    leaveCensus s = { s with consist := (leaveCensus s).consist } := by
  unfold leaveCensus
  dsimp only [State.modConsist]
  split
  · next hpending hwait => simp [setConsistState_eq, hpending]
  · next hpending hwait =>
    obtain ⟨k, hk⟩ := h hpending
    exact absurd (hwait.symm.trans hk) (by simp)
  · next hpending hwait =>
    obtain ⟨k, hk⟩ := h hpending
    exact absurd (hwait.symm.trans hk) (by simp)
  · rfl

/-- The Consist Unit after a CHANGE of the node's own that starts no census (R42, R43). -/
def Consist.told (c : Consist) : Consist :=
  { c with
    changeCounter := c.changeCounter + 1#8
    copies := c.copies ++ [{ counter := c.changeCounter + 1#8, copies := 2, timer := 100 }]
    retryTimer := none, conflictHold := false : Consist }.afterChange

theorem Consist.told_pending {c : Consist} (h : c.told.state = .pending) : c.told.wait = .running 4000 := by
  unfold Consist.told Consist.afterChange at h ⊢
  dsimp only at h ⊢
  split <;> simp_all

theorem Consist.told_attempt (c : Consist) :
    { c.told with rollTimer := c.rollTimer, phase := c.phase } = c.told := by
  unfold Consist.told Consist.afterChange
  dsimp only
  cases c.state <;> rfl

/-- What a node that loses the lead does, but for the frame and the notices of its CHANGE (R41, R43, R45, R66,
R75, R147). -/
structure LeadGone (s t : State) : Prop where
  consist : s.consist.phase ≠ .counting → t.consist = s.consist.told
  census : s.consist.phase = .counting → t.consist = { s.consist.told with
    state := if s.consist.told.state = .pending then .stale else s.consist.told.state
    phase := .none, rollTimer := none, holdTimer := none, pendingMap := none }
  sweep : t.sweep = { s.sweep with
    periodTimer := none, outstanding := none
    request := { standstill := false, enableLeft := false, enableRight := false } }
  door : t.door = { s.door with trainProof := false }
  heat : t.heat = s.heat
  store : t.store = s.store
  pins : t.pins = s.pins

/-- The CHANGE of a node that has lost the lead has acted on it; an attempt is still to be left. -/
theorem changeEffect_leadLost {s : State} (hstatus : s.consist.status ≠ .valid) :
    let t := changeEffect (announceChange (leadLost s))
    t.consist = { s.consist.told with
        rollTimer := if s.consist.phase = .counting then none else s.consist.rollTimer
        phase := if s.consist.phase = .counting then .none else s.consist.phase }
      ∧ t.sweep = (leadLost s).sweep ∧ t.door = (leadLost s).door ∧ t.heat = s.heat ∧ t.store = s.store
      ∧ t.pins = s.pins := by
  have hegress := announceChange_egress (leadLost s)
  have hconsist : (announceChange (leadLost s)).consist = (ownChangeEntered (leadLost s)).consist := hegress.consist
  have hsweep : (announceChange (leadLost s)).sweep = (leadLost s).sweep := hegress.sweep
  have hdoor : (announceChange (leadLost s)).door = (leadLost s).door := hegress.door
  refine ⟨?_, ?_, ?_, ?_, ?_, ?_⟩
  · rw [changeEffect_consist, hconsist]
    unfold Consist.told Consist.afterChange
    simp only [ownChangeEntered, leadLost, hstatus, if_false]
    cases s.consist.state <;> rfl
  · rw [changeEffect_eq, hsweep]
    exact ite_self _
  · rw [changeEffect_eq, hdoor]
    exact ite_self _
  · rw [changeEffect_eq]
    exact hegress.heat
  · rw [changeEffect_eq]
    exact hegress.store
  · rw [changeEffect_eq]
    exact hegress.pins

/-- An attempt in COUNTING is left with the Consist Unit alone moved, as the wait of the CHANGE runs. -/
theorem loseValidity_left {s : State} (hstatus : s.consist.status ≠ .valid) :
    loseValidity s = { changeEffect (announceChange (leadLost s)) with consist := (loseValidity s).consist } := by
  have hconsist := (changeEffect_leadLost hstatus).1
  have hleft := leaveCensus_of_wait (s := changeEffect (announceChange (leadLost s))) fun h => ⟨4000, by
    rw [hconsist] at h ⊢
    exact Consist.told_pending h⟩
  rw [loseValidity_eq]
  split
  · exact hleft
  · rfl

theorem loseValidity_consist {s : State} (hstatus : s.consist.status ≠ .valid) :
    (s.consist.phase ≠ .counting → (loseValidity s).consist = s.consist.told)
      ∧ (s.consist.phase = .counting → (loseValidity s).consist = { s.consist.told with
          state := if s.consist.told.state = .pending then .stale else s.consist.told.state
          phase := .none, rollTimer := none, holdTimer := none, pendingMap := none }) := by
  have hconsist := (changeEffect_leadLost hstatus).1
  rw [loseValidity_eq]
  refine ⟨fun hnot => ?_, fun hcounting => ?_⟩
  · rw [if_neg hnot] at hconsist ⊢
    rw [if_neg hnot] at hconsist
    exact hconsist.trans s.consist.told_attempt
  · rw [if_pos hcounting] at hconsist ⊢
    rw [if_pos hcounting] at hconsist
    rw [leaveCensus_consist, hconsist]
    have hwait := s.consist.told_pending
    dsimp only
    cases hstate : s.consist.told.state <;> simp_all

theorem loseValidity_gone {s : State} (hstatus : s.consist.status ≠ .valid) : LeadGone s (loseValidity s) := by
  obtain ⟨-, hsweep, hdoor, hheat, hstore, hpins⟩ := changeEffect_leadLost hstatus
  have hleft := loseValidity_left hstatus
  obtain ⟨hnot, hcounting⟩ := loseValidity_consist hstatus
  exact ⟨hnot, hcounting, (congrArg State.sweep hleft).trans hsweep, (congrArg State.door hleft).trans hdoor,
    (congrArg State.heat hleft).trans hheat, (congrArg State.store hleft).trans hstore,
    (congrArg State.pins hleft).trans hpins⟩

@[simp] theorem changeEffect_req (s : State) : (changeEffect s).req = s.req := by rw [changeEffect_eq]

@[simp] theorem changeEffect_relay (s : State) : (changeEffect s).relay = s.relay := by rw [changeEffect_eq]

@[simp] theorem changeEffect_port (p : PortId) (s : State) : (changeEffect s).port p = s.port p := by
  rw [changeEffect_eq]
  cases p <;> rfl

/-- The frame and the notices of the CHANGE a node sends as it loses the lead. -/
theorem loseValidity_announces {s : State} (hstatus : s.consist.status ≠ .valid) :
    (∀ p, (loseValidity s).port p = (announceChange (leadLost s)).port p)
      ∧ (loseValidity s).relay = (announceChange (leadLost s)).relay
      ∧ (loseValidity s).req = (announceChange (leadLost s)).req := by
  have hleft := loseValidity_left hstatus
  refine ⟨fun p => ?_, (congrArg State.relay hleft).trans (changeEffect_relay _),
    (congrArg State.req hleft).trans (changeEffect_req _)⟩
  rw [hleft, ← changeEffect_port p (announceChange (leadLost s))]
  cases p <;> rfl

/-! ## A re-evaluation of the claim status (R40, R41) -/

/-- The notices of an entry to a claim status. -/
def entryNotices (s : State) (now : ClaimStatus) : List Notice :=
  let notice (kind : NoticeKind) (value : Byte) : List Notice :=
    [{ kind := kind, subject := 0#8, value := BitVec.ofNat 16 value.toNat, generation := s.consist.generation }]
  match now with
  | .conflict => notice .leadConflict 0#8
  | .blocked => notice .leadNotAtEnd (endCode (if s.consist.claim1 then .end1 else .end2))
  | .none | .valid => []

/-- A claim status other than VALID is entered: its notice joins the queue, or is lost where that is full. -/
theorem claimNotice_eq {now : ClaimStatus} {s : State} (hnow : now ≠ .valid) :
    let changed : State := { s with consist := { s.consist with status := now } }
    (s.req.notices.length < 32 ∨ now = .none →
        claimNotice now changed =
          { changed with req := { s.req with notices := s.req.notices ++ entryNotices s now } })
      ∧ (32 ≤ s.req.notices.length → now ≠ .none →
          claimNotice now changed = { changed with req := { s.req with overflow := satInc s.req.overflow } }) := by
  intro changed
  have hhead : changed.consist.status ≠ .valid := hnow
  have hacts : ¬changed.actsAsHead = true := by simp [State.actsAsHead, hhead]
  have hfull : ∀ n, 32 ≤ s.req.notices.length → enqueueNotice n changed =
      { changed with req := { s.req with overflow := satInc s.req.overflow } } := by
    intro n hlen
    unfold enqueueNotice
    rw [if_neg hacts]
    exact if_neg (Nat.not_lt.mpr hlen)
  cases now with
  | valid => exact absurd rfl hnow
  | none =>
    refine ⟨fun _ => ?_, fun _ h => absurd rfl h⟩
    rw [entryNotices, List.append_nil]
    rfl
  | conflict =>
    exact ⟨fun h => enqueueNotice_waits hhead (h.resolve_right (by simp)), fun hlen _ => hfull _ hlen⟩
  | blocked =>
    exact ⟨fun h => enqueueNotice_waits hhead (h.resolve_right (by simp)), fun hlen _ => hfull _ hlen⟩

theorem claimNotice_req {now : ClaimStatus} {s : State} (hnow : now ≠ .valid) :
    ∃ r, claimNotice now { s with consist := { s.consist with status := now } } =
      { s with consist := { s.consist with status := now }, req := r } := by
  obtain ⟨hroom, hfull⟩ := claimNotice_eq (s := s) hnow
  by_cases hnone : s.req.notices.length < 32 ∨ now = .none
  · exact ⟨_, hroom hnone⟩
  · rw [not_or, Nat.not_lt] at hnone
    exact ⟨_, hfull hnone.1 hnone.2⟩

section

variable {s : State} (hleaves : claimStatusNow s ≠ s.consist.status)

include hleaves

theorem evalClaims_enters (hnow : claimStatusNow s = .valid) :
    evalClaims s = originateChange (flushNotices (s.modConsist fun c => { c with status := .valid })) := by
  unfold evalClaims
  dsimp only
  rw [if_neg hleaves, if_pos hnow, hnow]

theorem evalClaims_outside (hnow : claimStatusNow s ≠ .valid) (hold : s.consist.status ≠ .valid) :
    evalClaims s = claimNotice (claimStatusNow s) { s with consist := { s.consist with status := claimStatusNow s } } := by
  unfold evalClaims
  dsimp only
  rw [if_neg hleaves, if_neg hnow, if_neg hold]
  rfl

theorem evalClaims_leaves (hnow : claimStatusNow s ≠ .valid) (hold : s.consist.status = .valid) :
    evalClaims s = loseValidity
      (claimNotice (claimStatusNow s) { s with consist := { s.consist with status := claimStatusNow s } }) := by
  unfold evalClaims
  dsimp only
  rw [if_neg hleaves, if_neg hnow, if_pos hold]
  rfl

end

/-- The CHANGE that goes out as the lead is lost is that of the node as it stood. -/
theorem leadLost_copySent (now : ClaimStatus) (r : Req) (s : State) :
    CopySent (s.consist.changeCounter + 1#8) s
      (announceChange (leadLost { s with consist := { s.consist with status := now }, req := r })) := by
  let v : State := { s with consist := { s.consist with status := now }, req := r }
  have hport : ∀ p, (leadLost v).port p = s.port p := fun p => by cases p <;> rfl
  intro p
  obtain ⟨hjoin, hstay⟩ := announceChange_copySent (leadLost v) p
  exact ⟨hjoin.congr (hport p).symm rfl, fun hc => (hstay ((hport p).symm ▸ hc)).trans (hport p)⟩

theorem setClaims_eq (c1 c2 : Bool) (s : State) :
    setClaims c1 c2 s = s.modConsist fun c =>
      { c with
        claim1 := c1, claim2 := c2
        conflictHold := if c.claim1 = c1 ∧ c.claim2 = c2 then c.conflictHold else false } := by
  unfold setClaims
  split
  · next h =>
    obtain ⟨h1, h2⟩ := h
    subst h1 h2
    unfold State.modConsist
    simp
  · next h =>
    unfold State.modConsist
    simp only [h, if_false]

theorem fromLine_iff (src : ReqSource) :
    fromLine src = true ↔ ∃ position generation tag, src = .line position generation tag := by
  cases src <;> simp [fromLine]

/-! ## What a re-evaluation brings -/

/-- The claim status of a node by its claims and the link states at its ends (R40). -/
theorem claimStatusNow_table (s : State) :
    (s.consist.claim1 = false → s.consist.claim2 = false → claimStatusNow s = .none)
      ∧ (s.consist.claim1 = true → s.consist.claim2 = true → claimStatusNow s = .conflict)
      ∧ (s.consist.claim1 = true → s.consist.claim2 = false → s.lp1.link = .down → claimStatusNow s = .valid)
      ∧ (s.consist.claim1 = true → s.consist.claim2 = false → s.lp1.link ≠ .down → claimStatusNow s = .blocked)
      ∧ (s.consist.claim1 = false → s.consist.claim2 = true → s.lp2.link = .down → claimStatusNow s = .valid)
      ∧ (s.consist.claim1 = false → s.consist.claim2 = true → s.lp2.link ≠ .down → claimStatusNow s = .blocked) := by
  unfold claimStatusNow
  refine ⟨fun h1 h2 => ?_, fun h1 h2 => ?_, fun h1 h2 hl => ?_, fun h1 h2 hl => ?_, fun h1 h2 hl => ?_,
    fun h1 h2 hl => ?_⟩ <;> rw [h1, h2]
  · exact if_pos hl
  · exact if_neg hl
  · exact if_pos hl
  · exact if_neg hl

/-- Settles O49: the requests by their checks in turn, the re-evaluation by the claim status it finds. -/
theorem leadRequestsAndClaimStatus : Obligations.LeadRequestsAndClaimStatus := by
  refine ⟨fun src s hexec => ?_, claimStatusNow_table, fun s => ?_⟩
  · dsimp only
    have hhandle : ∀ {i body}, exec i s = live (handle src body) s →
        exec i s = .next (finish (body s.armCleared)) := fun h => h.trans (live_handle src _ s hexec)
    have hset : ∀ e, exec (.leadSet src e) s = .next (finish (doLeadSet src e s.armCleared)) := fun e => hhandle rfl
    have hclear : ∀ e, exec (.leadClear src e) s = .next (finish (doLeadClear src e s.armCleared)) :=
      fun e => hhandle rfl
    have hcensus : exec (.censusStart src) s = .next (finish (doCensusStart src s.armCleared)) := hhandle rfl
    have hstate : ∀ bits period, exec (.setTrainState src bits period) s =
        .next (finish (doSetTrainState src bits period s.armCleared)) := fun bits period => hhandle rfl
    have hallowance : ∀ b g, exec (.setAllowance src b g) s =
        .next (finish (doSetAllowance src b g s.armCleared)) := fun b g => hhandle rfl
    have haccepted : (accept src [] s.armCleared).consist = s.consist := by
      obtain ⟨-, -, -, hconsist, -⟩ := answer_unitsKept src .ok [] .plain s.armCleared
      exact hconsist
    have hclaim : ∀ (e : CabEnd) (b : Bool), claim e b (accept src [] s.armCleared) = evalClaims
        (setClaims (if e = .end1 then b else s.consist.claim1) (if e = .end1 then s.consist.claim2 else b)
          (accept src [] s.armCleared)) := by
      intro e b
      unfold claim
      rw [haccepted]
      cases e <;> rfl
    have hfree : ¬(∃ position generation tag, src = .line position generation tag) → fromLine src = false :=
      fun h => Bool.eq_false_iff.mpr fun hline => h ((fromLine_iff src).mp hline)
    have hlead : ∀ {x}, x = s.consist.status → (s.armCleared.actsAsHead = true ↔ x = .valid) := by
      rintro x rfl
      exact decide_eq_true_iff
    simp only [hset, hclear, hcensus, hstate, hallowance]
    unfold doLeadSet doLeadClear doCensusStart doSetTrainState doSetAllowance
    refine ⟨fun e h1 h2 => ?_, fun hline e he => ?_, fun hline => ?_, fun hline hlisted => ?_, fun hline hlisted => ?_,
      fun hline hlisted => ?_, fun hline hlisted => ?_, fun hline => ?_, fun hstatus => ?_, fun hstatus => ?_,
      fun hline hstatus => ?_⟩
    · have hnone : endOf e = none := by rw [endOf, if_neg h1, if_neg h2]
      rw [hnone]
      exact ⟨rfl, rfl⟩
    · obtain ⟨x, hx⟩ : ∃ x, endOf e = some x := by
        rcases he with rfl | rfl
        · exact ⟨.end1, rfl⟩
        · exact ⟨.end2, rfl⟩
      rw [hx, (fromLine_iff src).mpr hline]
      exact ⟨rfl, rfl⟩
    · rw [(fromLine_iff src).mpr hline]
      exact ⟨fun _ _ => rfl, fun _ _ => rfl⟩
    · exact congrArg (fun t => Host.Outcome.next (finish t))
        (show (if fromLine src then _ else if !cabEndListed s.armCleared .end1 then _ else _) = _ by
          rw [hfree hline, if_neg Bool.false_ne_true, if_pos (by simpa [cabEndListed] using hlisted)])
    · exact congrArg (fun t => Host.Outcome.next (finish t))
        (show (if fromLine src then _ else if !cabEndListed s.armCleared .end2 then _ else _) = _ by
          rw [hfree hline, if_neg Bool.false_ne_true, if_pos (by simpa [cabEndListed] using hlisted)])
    · refine congrArg (fun t => Host.Outcome.next (finish t))
        (show (if fromLine src then _ else if !cabEndListed s.armCleared .end1 then _ else _) = _ from ?_)
      rw [hfree hline, if_neg Bool.false_ne_true, if_neg (by simpa [cabEndListed] using hlisted), hclaim, setClaims_eq]
      rfl
    · refine congrArg (fun t => Host.Outcome.next (finish t))
        (show (if fromLine src then _ else if !cabEndListed s.armCleared .end2 then _ else _) = _ from ?_)
      rw [hfree hline, if_neg Bool.false_ne_true, if_neg (by simpa [cabEndListed] using hlisted), hclaim, setClaims_eq]
      rfl
    · rw [hfree hline]
      refine ⟨?_, ?_⟩
      · refine congrArg (fun t => Host.Outcome.next (finish t)) ((hclaim .end1 false).trans ?_)
        rw [setClaims_eq]
        rfl
      · refine congrArg (fun t => Host.Outcome.next (finish t)) ((hclaim .end2 false).trans ?_)
        rw [setClaims_eq]
        rfl
    · have hhead : s.armCleared.actsAsHead = false := Bool.eq_false_iff.mpr fun h => hstatus ((hlead rfl).mp h)
      rw [hhead]
      refine ⟨rfl, fun _ _ => ?_, fun _ _ => ?_⟩ <;> exact congrArg (fun t => Host.Outcome.next (finish t)) (ite_self _)
    · rw [(hlead rfl).mpr hstatus]
      rfl
    · rw [hfree hline, (hlead rfl).mpr hstatus]
      refine ⟨fun _ => rfl, fun _ _ => rfl, fun b g => ?_⟩
      cases g <;> rfl
  · dsimp only
    refine ⟨fun hsame => evalClaims_same s hsame, fun hnow hold => ?_, fun hnow hold hleaves => ?_,
      fun hnow hold => ?_⟩
    · rw [evalClaims_enters (by rw [hnow]; exact Ne.symm hold) hnow, flushNotices_eq, hnow]
      have hsource : (s.modConsist fun c => { c with status := .valid }).sourcePosition =
          if s.consist.state = .settled then byteOf s.position else 0#8 := if_congr decide_eq_true_iff rfl rfl
      rw [hsource, List.length_map]
      rfl
    · rw [evalClaims_outside hleaves hnow hold]
      exact claimNotice_eq hnow
    · have hleaves : claimStatusNow s ≠ s.consist.status := by rwa [hold]
      obtain ⟨r, hr⟩ := claimNotice_req (s := s) hnow
      rw [evalClaims_leaves hleaves hnow hold]
      have hroom := (claimNotice_eq (s := s) hnow).1
      rw [hr] at hroom ⊢
      have hstatus : (State.consist { s with
          consist := { s.consist with status := claimStatusNow s }, req := r }).status ≠ .valid := hnow
      obtain ⟨hports, hrelay, hreq⟩ := loseValidity_announces hstatus
      have hgone := loseValidity_gone hstatus
      have hcopy := leadLost_copySent (claimStatusNow s) r s
      refine ⟨hcopy.congr hports, fun hnew => ?_, hgone.consist, hgone.census, hgone.sweep, hgone.door, hgone.heat,
        hgone.store, hgone.pins, fun hlen => ?_⟩
      · rw [hrelay, announceChange_relay]
        refine (if_neg ?_).trans (Relay.enterChange_eq _ _)
        rw [Bool.not_eq_true]
        exact (Relay.knows_eq_false _ _).mpr hnew
      · rw [hreq]
        have hentry : r.notices = s.req.notices ++ entryNotices s (claimStatusNow s) :=
          congrArg (fun t => t.req.notices) (hroom (.inl hlen))
        obtain ⟨hgrow, hstand⟩ := announceChange_notices
          (leadLost { s with consist := { s.consist with status := claimStatusNow s }, req := r })
        have hport : ∀ p, (leadLost { s with
            consist := { s.consist with status := claimStatusNow s }, req := r }).port p = s.port p :=
          fun p => by cases p <;> rfl
        simp only [hport] at hstand
        have hbefore : r.notices <+: (announceChange (leadLost { s with
            consist := { s.consist with status := claimStatusNow s }, req := r })).req.notices := hgrow
        by_cases hlanes : ∀ p, (s.port p).carries = true → (s.port p).urgent.length < 8
        · refine ⟨[], ?_, fun _ => rfl⟩
          rw [hstand hlanes, List.append_nil]
          exact hentry
        · obtain ⟨drops, hdrops⟩ := hbefore
          rw [hentry] at hdrops
          exact ⟨drops, hdrops.symm, fun h => absurd h hlanes⟩

end Sys2Proof.Machine
end

section
/-! REMOTE-STATION: the request, its transaction in class 4 and the reply (R80 to R83, R88, R111 to R114). -/

namespace Sys2Proof.Machine

open Sys2Proof

/-! ## The request (R111, R112) -/

/-- What a REMOTE-STATION that is taken leaves of the node, before the arbiter. -/
def remoteTaken (src : ReqSource) (op : BusOp) (mode : BusMode) (s : State) : State :=
  { s with
    req := { s.req with
      remotes := s.req.remotes ++
        [{ source := src, generation := requestGeneration src s, op := op, mode := mode, deadline := 2000 }] }
    bus := { s.bus with
      remoteQueue := s.bus.remoteQueue ++
        [{ op := op, mode := mode, owner := .remote src, phase := .waiting, persist := .unstarted, current := true }] } }

/-- A REMOTE-STATION in range is taken unless its source and tag are pending already or the table is full. -/
theorem takeRemote_cases (src : ReqSource) (op : BusOp) (mode : BusMode) (s : State) :
    ((∃ e ∈ s.req.remotes, e.source = src) → takeRemote src op mode s = refuse src .busy s)
      ∧ ((¬∃ e ∈ s.req.remotes, e.source = src) → 8 ≤ s.req.remotes.length →
          takeRemote src op mode s = refuse src .full s)
      ∧ ((¬∃ e ∈ s.req.remotes, e.source = src) → s.req.remotes.length < 8 → s.bus.remoteQueue.length < 8 →
          takeRemote src op mode s = arbitrate (remoteTaken src op mode s)) := by
  have hany : (s.req.remotes.any fun e => decide (e.source = src)) = true ↔ ∃ e ∈ s.req.remotes, e.source = src := by
    simp
  unfold takeRemote
  refine ⟨fun hpending => if_pos (hany.mpr hpending), fun hnone hfull => ?_, fun hnone hroom hqueue => ?_⟩
  · rw [if_neg fun h => hnone (hany.mp h)]
    exact if_pos hfull
  · rw [if_neg fun h => hnone (hany.mp h), if_neg (show ¬Config.remoteQueueSize ≤ s.req.remotes.length from Nat.not_le.mpr hroom)]
    have hoffer : offerRemote src op mode (s.modReq fun r =>
        { r with remotes := r.remotes ++ [{ source := src, generation := requestGeneration src s, op := op, mode := mode
                                            deadline := Config.remoteDeadlineMs }] }) =
        some (arbitrate (remoteTaken src op mode s)) := if_pos hqueue
    dsimp only
    rw [hoffer]

/-- The row of a REMOTE-STATION in the table of its checks: refused out of range, else by `takeRemote`. -/
theorem remote_row {i : Instr} {inRange : Prop} {src : ReqSource} {op : BusOp} {mode : BusMode} {s : State}
    (hrefused : ¬inRange → exec i s = .next (finish (refuse src .range s.armCleared)))
    (htaken : inRange → exec i s = .next (finish (takeRemote src op mode s.armCleared))) :
    (¬inRange → exec i s = .next (finish (refuse src .range s.armCleared)))
      ∧ (inRange → (∃ e ∈ s.req.remotes, e.source = src) → exec i s = .next (finish (refuse src .busy s.armCleared)))
      ∧ (inRange → (¬∃ e ∈ s.req.remotes, e.source = src) → 8 ≤ s.req.remotes.length →
          exec i s = .next (finish (refuse src .full s.armCleared)))
      ∧ (inRange → (¬∃ e ∈ s.req.remotes, e.source = src) → s.req.remotes.length < 8 → s.bus.remoteQueue.length < 8 →
          (s.bus.flight ≠ none → exec i s = .next (finish (remoteTaken src op mode s.armCleared)))
            ∧ exec i s = .next (finish (arbitrate (remoteTaken src op mode s.armCleared)))) := by
  obtain ⟨hbusy, hfull, htake⟩ := takeRemote_cases src op mode s.armCleared
  refine ⟨hrefused, fun hrange hpending => ?_, fun hrange hnone hlen => ?_, fun hrange hnone hlen hqueue => ?_⟩
  · rw [htaken hrange, hbusy hpending]
  · rw [htaken hrange, hfull hnone hlen]
  · rw [htaken hrange, htake hnone hlen hqueue]
    exact ⟨fun hflight => congrArg (fun t => Host.Outcome.next (finish t))
      (arbitrate_busy (remoteTaken src op mode s.armCleared) hflight), rfl⟩

/-- The mode of a REMOTE-STATION READ or WRITE (R111). -/
theorem remoteModeOf_eq (mode : Byte) (timeout : Word16) :
    remoteModeOf mode timeout =
      if mode = 1#8 ∨ mode = 2#8 ∨ (mode = 3#8 ∧ 10 ≤ timeout.toNat ∧ timeout.toNat ≤ 1000) then
        some (if mode = 1#8 then .once else if mode = 2#8 then .accept else .persist timeout.toNat)
      else none := by
  unfold remoteModeOf
  by_cases h1 : mode = 1#8
  · simp [h1]
  · by_cases h2 : mode = 2#8
    · simp [h2]
    · by_cases h3 : mode = 3#8 <;> simp [h1, h2, h3]

/-! ## The end of an attempt (R80, R81, R83) -/

/-- A transaction that does not end TIMEOUT leaves its queue, and its owner is told. -/
theorem endEntry_told {cls : QueueClass} {front back : List QueueEntry} {e : QueueEntry} {outcome : BusOutcome}
    {s : State} {b : Bus} (houtcome : outcome ≠ .timeout) (hqueue : b.queue cls = front ++ e :: back) :
    endEntry cls front.length e outcome { s with bus := b } =
      tellOwner e outcome (s.holding cls (front ++ back) b) := by
  unfold endEntry
  rw [if_neg houtcome]
  exact congrArg (tellOwner e outcome) (removeEntry_split (s := s) hqueue)

/-- One READ of a walk: at its last station the roster is stored and the walk ends, else it goes on. -/
theorem walkEnds_split {cls : QueueClass} {front back : List QueueEntry} {e : QueueEntry} {next last : Byte}
    {roster : List RosterEntry} {a : Attempt} {s : State} {b : Bus} (hqueue : b.queue cls = front ++ e :: back) :
    (next = last → walkEnds cls front.length e next last roster a { s with bus := b } =
        tellOwner e (.roster (walkRoster next roster a))
          (s.holding cls (front ++ back) { b with roster := walkRoster next roster a }))
      ∧ (next ≠ last → walkEnds cls front.length e next last roster a { s with bus := b } =
        s.holding cls (front ++ { e with
          phase := .waiting, op := .walk (next + 1#8) last true (walkRoster next roster a) } :: back) b) := by
  unfold walkEnds
  refine ⟨fun h => ?_, fun h => ?_⟩
  · have hstored : ({ b with roster := walkRoster next roster a } : Bus).queue cls = front ++ e :: back := by
      rw [← hqueue]
      cases cls <;> rfl
    rw [if_pos h]
    exact endEntry_told (s := s) (by simp) hstored
  · rw [if_neg h]
    exact changeEntry_split _ hqueue

/-- The value an ACCEPT READ answers with is that of the first poll entry of its station and item (R81). -/
theorem acceptValue_none {station item : Byte} {s : State}
    (h : ∀ x ∈ s.store.content.polls, x.station ≠ station ∨ x.item ≠ item) : acceptValue station item s = none := by
  unfold acceptValue
  have hfind : (s.store.content.polls.find? fun p => decide (p.station = station ∧ p.item = item)) = none := by
    rw [List.find?_eq_none]
    intro x hx
    rw [decide_eq_true_eq, Decidable.not_and_iff_or_not]
    exact h x hx
  rw [hfind]

theorem acceptValue_some {before after : List PollEntry} {x : PollEntry} {r : StatusRecord} {v : List Byte} {s : State}
    (hpolls : s.store.content.polls = before ++ x :: after)
    (hbefore : ∀ y ∈ before, y.station ≠ x.station ∨ y.item ≠ x.item) (hr : s.record x.dest = some r)
    (hv : r.value = some v) : acceptValue x.station x.item s = some (v, r.age) := by
  unfold acceptValue
  have hfind : (s.store.content.polls.find? fun p => decide (p.station = x.station ∧ p.item = x.item)) = some x := by
    rw [hpolls, List.find?_append, List.find?_eq_none.mpr fun y hy => by
      rw [decide_eq_true_eq, Decidable.not_and_iff_or_not]
      exact hbefore y hy]
    simp
  rw [hfind]
  dsimp only
  rw [hr]
  dsimp only
  rw [hv]
  rfl

/-! ## The pending entry (R113, R114) -/

theorem find_remote_split {before after : List RemoteEntry} {x : RemoteEntry}
    (hothers : ∀ y ∈ before ++ after, y.source ≠ x.source) :
    ((before ++ x :: after).find? fun e => decide (e.source = x.source)) = some x
      ∧ ((before ++ x :: after).filter fun y => decide (y.source ≠ x.source)) = before ++ after := by
  constructor
  · rw [List.find?_append, List.find?_eq_none.mpr fun y hy => by
      simpa using hothers y (List.mem_append_left _ hy)]
    simp
  · rw [List.filter_append, List.filter_cons_of_neg (by simp), ← List.filter_append]
    exact List.filter_eq_self.mpr fun y hy => by simpa using hothers y hy

/-- A transaction of class 4 that has ended: late, stale, or answered. -/
theorem remoteEnds_split {before after : List RemoteEntry} {x : RemoteEntry} {s : State} (outcome : BusOutcome)
    (hremotes : s.req.remotes = before ++ x :: after) (hothers : ∀ y ∈ before ++ after, y.source ≠ x.source) :
    let gone : State := { s with req := { s.req with remotes := before ++ after } }
    let stale : Prop :=
      ∃ p g t, x.source = .line p g t ∧ (s.consist.state ≠ .settled ∨ x.generation ≠ s.consist.generation)
    (x.deadline = 0 → remoteEnds x.source outcome s =
        { gone with req := { gone.req with remoteLate := satInc s.req.remoteLate } })
      ∧ (0 < x.deadline → stale → remoteEnds x.source outcome s =
        { gone with req := { gone.req with remoteStale := satInc s.req.remoteStale } })
      ∧ (0 < x.deadline → ¬stale → remoteEnds x.source outcome s =
        answer x.source (remoteReply x.op outcome).1 (remoteReply x.op outcome).2 .plain gone) := by
  intro gone stale
  obtain ⟨hfind, hfilter⟩ := find_remote_split hothers
  have hgone : (s.modReq fun r => { r with remotes := r.remotes.filter fun y => decide (y.source ≠ x.source) }) = gone := by
    unfold State.modReq
    dsimp only
    rw [hremotes, hfilter]
  have hstale : remoteIsStale x gone = true ↔ stale := by
    unfold remoteIsStale
    rw [Bool.and_eq_true, fromLine_iff, Bool.not_eq_true', Bool.eq_false_iff, ne_eq, State.settledIn_iff,
      Decidable.not_and_iff_or_not]
    exact ⟨fun ⟨⟨p, g, t, hsource⟩, h⟩ => ⟨p, g, t, hsource, h⟩, fun ⟨p, g, t, hsource, h⟩ => ⟨⟨p, g, t, hsource⟩, h⟩⟩
  unfold remoteEnds
  rw [hremotes, hfind]
  dsimp only
  rw [hgone]
  refine ⟨fun hlate => if_pos hlate, fun hleft hs => ?_, fun hleft hs => ?_⟩
  · rw [if_neg (Nat.pos_iff_ne_zero.mp hleft), if_pos (hstale.mpr hs)]
    rfl
  · rw [if_neg (Nat.pos_iff_ne_zero.mp hleft), if_neg fun h => hs (hstale.mp h)]

/-! ## The transaction of class 4 in flight (R80, R81, R83) -/

theorem entryEnds_walk {cls : QueueClass} {place : Nat} {e : QueueEntry} {a : Attempt} {s : State} {next last : Byte}
    {started : Bool} {roster : List RosterEntry} (hop : e.op = .walk next last started roster) :
    entryEnds cls place e a s = walkEnds cls place e next last roster a s := by
  unfold entryEnds
  rw [hop]

theorem entryEnds_notReady {cls : QueueClass} {place : Nat} {e : QueueEntry} {s : State} (hop : e.op.single)
    (hmode : e.mode = .once ∨ e.mode = .accept) :
    entryEnds cls place e .notReady s = endEntry cls place e (notReadyOutcome e s) s := by
  unfold entryEnds
  cases h : e.op with
  | walk next last started roster => exact absurd h (hop _ _ _ _)
  | read | write => rcases hmode with hmode | hmode <;> rw [hmode]

theorem entryEnds_noAnswer {cls : QueueClass} {place : Nat} {e : QueueEntry} {s : State} (hop : e.op.single)
    (hmode : e.mode = .once ∨ e.mode = .accept) :
    entryEnds cls place e .noAnswer s = endEntry cls place e .noAnswer s := by
  unfold entryEnds
  cases h : e.op with
  | walk next last started roster => exact absurd h (hop _ _ _ _)
  | read | write => rcases hmode with hmode | hmode <;> rw [hmode]

section

variable {front back : List QueueEntry} {e : QueueEntry} {s : State} (hpower : s.powered = true)
  (hflight : s.bus.flight = some (.queue .remote)) (hqueue : s.bus.queue .remote = front ++ e :: back)
  (he : e.phase = .inFlight) (hfront : ∀ x ∈ front, x.phase ≠ .inFlight)

include hpower hflight hqueue he hfront

/-- A valid answer to the class 4 transaction in flight ends its attempt. -/
theorem exec_busAnswer_remote {station item : Byte} {ready : Bool} {data : List Byte} (haddress : e.op.address = (station, item))
    (hdata : ready = true → (1 ≤ data.length ∧ data.length ≤ 16) ∨ ∃ st it bytes, e.op = .write st it bytes) :
    exec (.busAnswer station item ready data) s =
      .next (finish (arbitrate (entryEnds .remote front.length e (if ready then .done data else .notReady)
        { s with bus := s.bus.landed (if ready then .done data else .notReady) }))) := by
  have hvalid := answerValid_queue hqueue he hfront hdata
  rw [haddress] at hvalid
  rw [show exec (.busAnswer station item ready data) s = live (stationAnswers station item ready data) s from rfl,
    live_powered _ s hpower, stationAnswers, hflight]
  dsimp only
  rw [if_pos hvalid, attemptEnds_queue _ hqueue he hfront]

theorem exec_busReplyTimeout_remote :
    exec .busReplyTimeout s =
      .next (finish (arbitrate (entryEnds .remote front.length e .noAnswer { s with bus := s.bus.landed .noAnswer }))) := by
  rw [show exec .busReplyTimeout s = live replyTimesOut s from rfl, live_powered _ s hpower, replyTimesOut, hflight]
  dsimp only
  rw [attemptEnds_queue _ hqueue he hfront]

end

theorem QueueEntry.started_of_walk {e : QueueEntry} {next last : Byte} {started : Bool} {roster : List RosterEntry}
    (hop : e.op = .walk next last started roster) (hmode : e.mode = .once) :
    e.started = { e with phase := .inFlight, op := .walk next last true roster } := by
  unfold QueueEntry.started
  rw [hop, hmode]

/-- Settles O51: the request, the end of its transaction, the walk's place in class 4, and the reply. -/
theorem remoteRequestsArePending : Obligations.RemoteRequestsArePending := by
  refine ⟨fun src mode station item last data timeout s hexec => ?_, fun front back e s hpower hflight hqueue he hfront => ?_,
    fun front back e next last started roster hop hmode hphase hfront => ?_,
    fun before after x e outcome s hremotes howner hothers => ?_⟩
  · have hhandle : ∀ {i body}, exec i s = live (handle src body) s →
        exec i s = .next (finish (body s.armCleared)) := fun h => h.trans (live_handle src _ s hexec)
    intro u addressed persistent modeOk walkOk dataOk rows r hr
    have hstation : (stationOk station && itemOk item) = true ↔ addressed := by
      simp [stationOk, itemOk, addressed, and_assoc]
    have hmode : modeOk → remoteModeOf mode timeout =
        some (if mode = 1#8 then .once else if mode = 2#8 then .accept else .persist timeout.toNat) := fun hok =>
      (remoteModeOf_eq mode timeout).trans (if_pos hok)
    have hnoMode : ¬modeOk → remoteModeOf mode timeout = none := fun hno =>
      (remoteModeOf_eq mode timeout).trans (if_neg hno)
    simp only [rows, List.mem_cons, List.not_mem_nil, or_false] at hr
    obtain rfl | rfl | rfl := hr
    · refine remote_row (fun hrange => ?_) fun hrange => ?_
      · refine (hhandle (i := .remoteStationRead src mode station item timeout) rfl).trans ?_
        unfold doRemoteRead
        by_cases hok : modeOk
        · rw [hmode hok]
          exact congrArg (fun t => Host.Outcome.next (finish t)) (if_neg fun h => hrange ⟨hok, hstation.mp h⟩)
        · rw [hnoMode hok]
      · refine (hhandle (i := .remoteStationRead src mode station item timeout) rfl).trans ?_
        unfold doRemoteRead
        rw [hmode hrange.1]
        exact congrArg (fun t => Host.Outcome.next (finish t)) (if_pos (hstation.mpr hrange.2))
    · have hwrite : (stationOk station && itemOk item && decide (1 ≤ data.length ∧ data.length ≤ 16)) = true ↔
          addressed ∧ dataOk := by rw [Bool.and_eq_true, hstation, decide_eq_true_eq]
      refine remote_row (fun hrange => ?_) fun hrange => ?_
      · refine (hhandle (i := .remoteStationWrite src mode station item data timeout) rfl).trans ?_
        unfold doRemoteWrite
        by_cases hok : modeOk
        · rw [hmode hok]
          exact congrArg (fun t => Host.Outcome.next (finish t)) (if_neg fun h => hrange ⟨hok, hwrite.mp h⟩)
        · rw [hnoMode hok]
      · refine (hhandle (i := .remoteStationWrite src mode station item data timeout) rfl).trans ?_
        unfold doRemoteWrite
        rw [hmode hrange.1]
        exact congrArg (fun t => Host.Outcome.next (finish t)) (if_pos (hwrite.mpr hrange.2))
    · refine remote_row (fun hrange => ?_) fun hrange => ?_
      · refine (hhandle (i := .remoteStationWalk src station last) rfl).trans ?_
        exact congrArg (fun t => Host.Outcome.next (finish t)) (if_neg hrange)
      · refine (hhandle (i := .remoteStationWalk src station last) rfl).trans ?_
        exact congrArg (fun t => Host.Outcome.next (finish t)) (if_pos hrange)
  · intro idle silent busy holding Ends
    have hlanded : ∀ a, (s.bus.landed a).queue .remote = front ++ e :: back := fun a => (Bus.landed_queue ..).trans hqueue
    have hanswer : ∀ {station item ready data}, e.op.address = (station, item) →
        (ready = true → (1 ≤ data.length ∧ data.length ≤ 16) ∨ ∃ st it bytes, e.op = .write st it bytes) →
        exec (.busAnswer station item ready data) s =
          .next (finish (arbitrate (entryEnds .remote front.length e (if ready then .done data else .notReady)
            { s with bus := s.bus.landed (if ready then .done data else .notReady) }))) :=
      exec_busAnswer_remote hpower hflight hqueue he hfront
    have htimeout := exec_busReplyTimeout_remote hpower hflight hqueue he hfront
    have hdone : ∀ {station item data}, e.op.single → e.op.address = (station, item) →
        ((1 ≤ data.length ∧ data.length ≤ 16) ∨ ∃ st it bytes, e.op = .write st it bytes) →
        Ends (.done data) idle (.busAnswer station item true data) := fun {station item data} hsingle haddress hdata => by
      refine (hanswer haddress fun _ => hdata).trans (congrArg (fun t => Host.Outcome.next (finish (arbitrate t))) ?_)
      exact (entryEnds_done hsingle).trans (endEntry_told (s := s) (by simp) (hlanded (.done data)))
    have hbusy : ∀ {station item data outcome}, e.op.single → (e.mode = .once ∨ e.mode = .accept) →
        e.op.address = (station, item) → notReadyOutcome e { s with bus := busy } = outcome → outcome ≠ .timeout →
        Ends outcome busy (.busAnswer station item false data) :=
      fun {station item data outcome} hsingle hmode haddress houtcome hnot => by
        refine (hanswer haddress fun h => absurd h Bool.false_ne_true).trans
          (congrArg (fun t => Host.Outcome.next (finish (arbitrate t))) ?_)
        refine (entryEnds_notReady hsingle hmode).trans ?_
        exact (congrArg (fun o => endEntry .remote front.length e o { s with bus := busy }) houtcome).trans
          (endEntry_told (s := s) hnot (hlanded .notReady))
    have hsilent : e.op.single → (e.mode = .once ∨ e.mode = .accept) → Ends .noAnswer silent .busReplyTimeout :=
      fun hsingle hmode => by
        refine htimeout.trans (congrArg (fun t => Host.Outcome.next (finish (arbitrate t))) ?_)
        exact (entryEnds_noAnswer hsingle hmode).trans (endEntry_told (s := s) (by simp) (hlanded .noAnswer))
    refine ⟨fun station item hop hmode => ?_, fun station item bytes data hop hmode => ?_,
      fun next last started roster hop => ?_⟩
    · have hsingle : e.op.single := fun _ _ _ _ h => by rw [hop] at h; cases h
      have haddress : e.op.address = (station, item) := by rw [hop]; rfl
      have haccept : e.mode = .accept → notReadyOutcome e { s with bus := busy } =
          .notReady (acceptValue station item { s with bus := busy }) := fun hm => by
        unfold notReadyOutcome
        rw [hm, hop]
      refine ⟨fun data h1 h2 => hdone hsingle haddress (.inl ⟨h1, h2⟩), hsilent hsingle hmode, fun data honce => ?_,
        fun data hm hnone => ?_, fun data before x after r v hm hpolls hst hit hbefore hr hv => ?_⟩
      · refine hbusy hsingle hmode haddress ?_ (by simp)
        unfold notReadyOutcome
        rw [honce]
      · exact hbusy hsingle hmode haddress ((haccept hm).trans (congrArg _ (acceptValue_none hnone))) (by simp)
      · subst hst hit
        exact hbusy hsingle hmode haddress
          ((haccept hm).trans (congrArg _ (acceptValue_some (s := { s with bus := busy }) hpolls hbefore hr hv))) (by simp)
    · have hsingle : e.op.single := fun _ _ _ _ h => by rw [hop] at h; cases h
      have haddress : e.op.address = (station, item) := by rw [hop]; rfl
      refine ⟨hdone hsingle haddress (.inr ⟨_, _, _, hop⟩), hbusy hsingle hmode haddress ?_ (by simp), hsilent hsingle hmode⟩
      unfold notReadyOutcome
      rw [hop]
      rcases hmode with hm | hm <;> rw [hm]
    · intro Reads
      have haddress : e.op.address = (next, 0#8) := by rw [hop]; rfl
      have hreads : ∀ {i a found}, exec i s = .next (finish (arbitrate (entryEnds .remote front.length e a
            { s with bus := s.bus.landed a }))) → walkRoster next roster a = roster ++ found →
          Reads found (s.bus.landed a) i := fun {i a found} hi hfound => by
        obtain ⟨hlast, hnext⟩ := walkEnds_split (next := next) (last := last) (roster := roster) (a := a) (s := s) (hlanded a)
        rw [entryEnds_walk hop] at hi
        rw [hfound] at hlast hnext
        exact ⟨fun h => hi.trans (congrArg (fun t => Host.Outcome.next (finish (arbitrate t))) (hlast h)),
          fun h => hi.trans (congrArg (fun t => Host.Outcome.next (finish (arbitrate t))) (hnext h))⟩
      refine ⟨fun data hlen => ?_, fun data h1 h2 hlen => ?_, fun data => ?_, ?_⟩
      · refine hreads (a := .done data) (hanswer haddress fun _ => .inl (by omega)) ?_
        exact congrArg (fun found : Option (List Byte) => roster ++ [{ station := next, identification := found }])
          (if_pos hlen)
      · refine hreads (a := .done data) (hanswer haddress fun _ => .inl ⟨h1, h2⟩) ?_
        exact congrArg (fun found : Option (List Byte) => roster ++ [{ station := next, identification := found }])
          (if_neg hlen)
      · exact hreads (a := .notReady) (hanswer haddress fun h => absurd h Bool.false_ne_true) rfl
      · exact hreads (a := .noAnswer) htimeout (List.append_nil roster).symm
  · have hpasses := startFirst_passes (front := front) (held := []) (e :: back) fun before x after hsplit =>
      .inl (by
        obtain ⟨⟨left, hleft⟩, -⟩ := hfront x (by rw [hsplit]; simp)
        rw [hleft]
        exact fun h => by cases h)
    have hfree : e.op.address ∉ heldAfter [] front := by
      rw [mem_heldAfter, hop]
      rintro (h | ⟨x, hx, -, haddress⟩)
      · exact List.not_mem_nil h
      · exact (hfront x hx).2 haddress
    rw [hpasses, startFirst_eligible hphase hfree]
    have hwalks : front.foldr behindWalk (e.started :: back) = e.started :: (front ++ back) :=
      foldr_behindWalk_of_walking (fun x hx h => by
        obtain ⟨⟨left, hleft⟩, -⟩ := hfront x hx
        rw [hleft] at h
        cases h) (started_walking ⟨next, last, started, roster, hop⟩)
    exact congrArg some (hwalks.trans (by rw [e.started_of_walk hop hmode]))
  · have htell : ∀ outcome, tellOwner e outcome s = remoteEnds x.source outcome s := fun outcome => by
      unfold tellOwner
      rw [howner]
    have hends := fun outcome => remoteEnds_split outcome hremotes hothers
    dsimp only
    simp only [htell]
    obtain ⟨hlate, hstale, -⟩ := hends outcome
    refine ⟨hlate, hstale, fun hleft hfresh => ⟨fun data station item hop => ?_, fun data station item bytes hop => ?_,
      fun roster => ?_, fun v age => ?_, ?_, ?_, ?_⟩⟩
    · exact ((hends _).2.2 hleft hfresh).trans (by rw [hop]; rfl)
    · exact ((hends _).2.2 hleft hfresh).trans (by rw [hop]; rfl)
    all_goals exact (hends _).2.2 hleft hfresh

end Sys2Proof.Machine
end

section
/-! The door and group requests (R119, R122, R134, R135, R169). -/

namespace Sys2Proof.Machine

open Sys2Proof

/-! ## What an answer leaves of the bus (R97, R104, R109) -/

/-- An answer moves the cab outbound queue of the bus and its count of losses, nothing else. -/
theorem answer_bus (src : ReqSource) (st : Status) (payload : List Byte) (mark : Mark) (s : State) :
    ∃ outbound drops, (answer src st payload mark s).bus = { s.bus with outbound := outbound, cabDrop := drops } := by
  have hegress : ∀ {t : State}, EgressOnly s t →
      ∃ outbound drops, t.bus = { s.bus with outbound := outbound, cabDrop := drops } := fun h => ⟨_, _, h.bus⟩
  unfold answer
  split
  · exact hegress (offerCab_egress _ s)
  · unfold originateReply
    dsimp only
    split
    · exact hegress ((EgressOnly.modRelay _ s).trans (laneFrameGone_egress _ _ _))
    · split
      · unfold deliverReply
        split
        · split
          · exact hegress (offerCab_egress _ s)
          · dsimp only
            split <;> exact ⟨s.bus.outbound, s.bus.cabDrop, rfl⟩
        · exact ⟨s.bus.outbound, s.bus.cabDrop, rfl⟩
      · exact hegress (route_egress _ s)

/-- What a leaf command finds of the node once its reply has gone out. -/
structure AcceptKept (s t : State) : Prop where
  door : t.door = s.door
  store : t.store = s.store
  queue : t.bus.doorQueue = s.bus.doorQueue
  status : ∀ k, t.leafStatus k = s.leafStatus k

theorem accept_kept (src : ReqSource) (s : State) : AcceptKept s (accept src [] s) := by
  obtain ⟨outbound, drops, hbus⟩ := answer_bus src .ok [] .plain s
  obtain ⟨-, -, -, -, -, hdoor, -, hstore, -⟩ := answer_unitsKept src .ok [] .plain s
  have hbus' : (accept src [] s).bus = { s.bus with outbound := outbound, cabDrop := drops } := hbus
  have hrecords : (accept src [] s).bus.records = s.bus.records := by rw [hbus']
  refine ⟨hdoor, hstore, by rw [hbus'], fun k => ?_⟩
  unfold State.leafStatus State.freshValue State.record
  rw [hrecords]

/-! ## DOOR-ISOLATE and DOOR-RESTORE (R134, R135) -/

section

variable {k : Nat} {l : Leaf} {s t : State} (hkept : AcceptKept s t) (hl : s.leaf k = some l)

include hkept hl

theorem isolateLeaf_spec (h : l.state ≠ .isolated) :
    let e := finish (isolateLeaf k t)
    e.leaf k = some { l with state := .isolated, timer := none } ∧ (∀ j, j ≠ k → e.leaf j = s.leaf j)
      ∧ e.bus.doorQueue.length = s.bus.doorQueue.length := by
  have hlt : t.leaf k = some l := (State.leaf_eq_of_door hkept.door k).trans hl
  have hstate : t.leafState k ≠ some .isolated := by
    unfold State.leafState
    rw [hlt]
    simpa using h
  have hbecomes := (enterLeaf_becomes_silent (st := .isolated) hlt
    { side := .a, station := 0#8, statusItem := 0#8, commandItem := 0#8 } rfl).finish
  obtain ⟨hleaf, hothers, -, -, -, hlength, -⟩ := hbecomes
  unfold isolateLeaf
  rw [if_neg hstate]
  exact ⟨hleaf, fun j hj => (hothers j hj).trans (State.leaf_eq_of_door hkept.door j), by rw [hlength, hkept.queue]; rfl⟩

theorem isolateLeaf_isolated (h : l.state = .isolated) : isolateLeaf k t = t := by
  have hlt : t.leaf k = some l := (State.leaf_eq_of_door hkept.door k).trans hl
  unfold isolateLeaf State.leafState
  rw [hlt]
  exact if_pos (congrArg some h)

theorem restoreLeaf_closed (h : s.leafStatus k = some .closedLocked) :
    (finish (restoreLeaf k t)).leaf k = some { l with state := .closed, timer := none } := by
  have hlt : t.leaf k = some l := (State.leaf_eq_of_door hkept.door k).trans hl
  have hbecomes := (enterLeaf_becomes_silent (st := .closed) hlt
    { side := .a, station := 0#8, statusItem := 0#8, commandItem := 0#8 } rfl).finish
  unfold restoreLeaf
  rw [hkept.status, if_pos h]
  exact hbecomes.1

/-- A leaf that is not known CLOSED-LOCKED starts a close sequence with every attempt. -/
theorem restoreLeaf_warns (h : s.leafStatus k ≠ some .closedLocked) (hroom : s.bus.doorQueue.length < 16) :
    (finish (restoreLeaf k t)).leaf k =
      some (Leaf.entered s.store.content (enteredState s.store.content .warning)
        { l with attempts := s.store.content.reopenAttempts }) := by
  have hlt : t.leaf k = some l := (State.leaf_eq_of_door hkept.door k).trans hl
  unfold restoreLeaf
  rw [hkept.status, if_neg h, State.leaf_eq_of_door (finish_egress _).door]
  unfold enterFreshWarning
  dsimp only
  rw [enterLeaf_leaf_room, State.modLeaf_leaf, hlt, (State.modLeaf_leafOnly k _ t).2.2.2.2.2.2.1, hkept.store]
  · rfl
  · rw [modLeaf_bus, hkept.queue]
    exact hroom

omit hl in
theorem restoreLeaf_others : ∀ j, j ≠ k → (finish (restoreLeaf k t)).leaf j = s.leaf j := by
  intro j hj
  rw [State.leaf_eq_of_door (finish_egress _).door, ← State.leaf_eq_of_door hkept.door j]
  unfold restoreLeaf enterFreshWarning
  split
  · obtain ⟨-, -, -, -, -, -, -, -, hothers, -⟩ := enterLeaf_leafOnly k .closed t
    exact hothers j hj
  · obtain ⟨-, -, -, -, -, -, -, -, hothers, -⟩ := (State.modLeaf_leafOnly k
      (fun l => { l with attempts := t.store.content.reopenAttempts }) t).trans (enterLeaf_leafOnly k .warning _)
    exact hothers j hj

end

/-! ## DOOR-RELEASE and DOOR-CLOSE (R119, R122) -/

theorem fromLine_eq_false (src : ReqSource) : fromLine src = false ↔ ∃ tag, src = .cab tag := by
  cases src <;> simp [fromLine]

theorem trainSideOf_eq {side : Byte} (h : side = 1#8 ∨ side = 2#8) :
    trainSideOf side = some (if side = 1#8 then .left else .right) := by
  rcases h with rfl | rfl <;> rfl

/-- A broadcast of a node whose Door Unit has taken a value has joined the lanes as that of the node itself, and
leaves everything but the egress side as that value has it. -/
theorem broadcast_afterDoor {f : Frame} {d : Door} (s : State) (h : isNormalKind f.kind = false) :
    EgressOnly { s with door := d } (broadcast f { s with door := d })
      ∧ ∀ p, JoinsUrgent p f s (broadcast f { s with door := d }) :=
  ⟨broadcast_egress _ _, fun p => by
    have hport : (State.port { s with door := d } p) = s.port p := by cases p <;> rfl
    exact (broadcast_joins { s with door := d } h p).1.congr hport.symm rfl⟩

/-- Settles O52. -/
theorem doorAndGroupRequests : Obligations.DoorAndGroupRequests := by
  intro src s hexec
  have hhandle : ∀ {i body}, exec i s = live (handle src body) s →
      exec i s = .next (finish (body s.armCleared)) := fun h => h.trans (live_handle src _ s hexec)
  dsimp only
  refine ⟨fun side first last outside => ?_, fun mask => ?_, fun leaf => ?_, fun group => ?_⟩
  · rw [hhandle (i := .doorRelease src side first last outside) rfl]
    have hn : s.armCleared.n = s.n := rfl
    have hhead : s.armCleared.confirmedHead = true ↔ s.consist.status = .valid ∧ s.consist.state = .settled :=
      State.confirmedHead_iff s.armCleared
    have hzero : first = 0#8 ↔ first.toNat = 0 := ⟨fun h => by rw [h]; rfl, fun h => BitVec.eq_of_toNat_eq h⟩
    unfold doDoorRelease
    refine ⟨fun hfields => ?_, fun hfields hmay => ?_, fun hfields hmay hbeyond => ?_, fun hfields hmay hin hn => ?_⟩
    · by_cases hside : side = 1#8 ∨ side = 2#8
      · rw [trainSideOf_eq hside]
        dsimp only
        have hrange : ¬(1 ≤ first.toNat ∧ first.toNat ≤ last.toNat) := fun h => hfields ⟨hside, h⟩
        rw [if_pos (by rw [hzero]; omega)]
      · have hnone : trainSideOf side = none := by
          rw [not_or] at hside
          rw [trainSideOf, if_neg hside.1, if_neg hside.2]
        rw [hnone]
    · rw [trainSideOf_eq hfields.1]
      dsimp only
      rw [if_neg (by rw [hzero]; omega)]
      by_cases hline : fromLine src = true
      · rw [if_pos hline]
      · rw [if_neg hline, if_pos]
        rw [Bool.not_eq_true', Bool.eq_false_iff, ne_eq, hhead]
        exact fun h => hmay ⟨(fromLine_eq_false src).mp (Bool.not_eq_true _ ▸ hline), h⟩
    · obtain ⟨hcab, hlead⟩ := hmay
      rw [trainSideOf_eq hfields.1]
      dsimp only
      rw [if_neg (by rw [hzero]; omega), (fromLine_eq_false src).mpr hcab, if_neg Bool.false_ne_true, hhead.mpr hlead,
        if_neg (by decide), if_pos (by omega)]
    · obtain ⟨hcab, hlead⟩ := hmay
      rw [trainSideOf_eq hfields.1]
      dsimp only
      rw [if_neg (by rw [hzero]; omega), (fromLine_eq_false src).mpr hcab, if_neg Bool.false_ne_true, hhead.mpr hlead,
        if_neg (by decide), if_neg (by omega)]
      let r : Release :=
        { serial := s.door.releaseSerial + 1#8, side := if side = 1#8 then .left else .right, first := first.toNat
          last := min last.toNat s.n, outside := outside }
      let d : Door := { s.door with releaseSerial := s.door.releaseSerial + 1#8 }
      let f : Frame :=
        { kind := 0x09#8, header := broadcastHeader s.consist.generation (byteOf s.position)
          payload := releasePayload r }
      have hsource : s.sourcePosition = byteOf s.position := if_pos (decide_eq_true hlead.2)
      have hframe : buildFrame { s.armCleared with door := d } Config.kindDoorRelease 255#8 0#8 (releasePayload r) = f :=
        congrArg (fun x => Frame.mk 0x09#8 (broadcastHeader s.consist.generation x) (releasePayload r)) hsource
      obtain ⟨hegress, hjoins⟩ := broadcast_afterDoor (f := f) (d := d) s.armCleared rfl
      let t : State := (broadcast f { s.armCleared with door := d }).modRelay fun y =>
        { y with lastSerial := some (s.door.releaseSerial + 1#8) }
      have hconsist : t.consist = s.consist := hegress.consist
      have hport : ∀ p, t.port p = (broadcast f { s.armCleared with door := d }).port p := fun p => by cases p <;> rfl
      refine ⟨t, congrArg (fun t => Host.Outcome.next (finish t)) ?_, hegress.door, rfl, hconsist, hegress.sweep,
        fun p => (hjoins p).congr (by cases p <;> rfl) (hport p)⟩
      have hsent : sendRelease src (if side = 1#8 then .left else .right) first.toNat (min last.toNat s.n) outside
          s.armCleared =
          accept src [s.door.releaseSerial + 1#8, byteOf first.toNat, byteOf (min last.toNat s.n)]
            (applyRelease r t.consist.generation t) := by
        unfold sendRelease
        dsimp only
        exact congrArg (fun f => accept src _ (applyRelease r (State.modRelay (fun y =>
          { y with lastSerial := some (s.door.releaseSerial + 1#8) }) (broadcast f { s.armCleared with
            door := d })).consist.generation (State.modRelay _ (broadcast f { s.armCleared with door := d })))) hframe
      rw [byteOf_of_toNat rfl, hconsist] at hsent
      exact hsent
  · rw [hhandle (i := .doorClose src mask) rfl]
    unfold doDoorClose
    refine ⟨fun hleft hright => ?_, fun hside => ?_⟩
    · rw [if_neg (by rw [hleft, hright]; decide)]
    · rw [if_pos (by rw [Bool.or_eq_true]; exact hside)]
      let c : Close := { serial := s.door.closeSerial + 1#8, left := mask.getLsbD 0, right := mask.getLsbD 1 }
      let d : Door := { s.door with closeSerial := s.door.closeSerial + 1#8 }
      let f : Frame :=
        { kind := 0x0A#8, header := broadcastHeader s.consist.generation s.sourcePosition, payload := closePayload c }
      obtain ⟨hegress, hjoins⟩ := broadcast_afterDoor (f := f) (d := d) s.armCleared rfl
      have husable : (if (broadcast f { s.armCleared with door := d }).isSettled then
            (broadcast f { s.armCleared with door := d }).orientation else none) =
          if s.consist.state = .settled then s.orientation else none := by
        rw [State.orientation_congr hegress.consist hegress.identity]
        unfold State.isSettled
        rw [hegress.consist]
        exact if_congr decide_eq_true_iff rfl rfl
      refine ⟨broadcast f { s.armCleared with door := d }, congrArg (fun t => Host.Outcome.next (finish t)) ?_,
        hegress.door, hegress.consist, fun p => (hjoins p).congr (by cases p <;> rfl) rfl⟩
      exact congrArg (fun o => accept src [s.door.closeSerial + 1#8]
        (applyClose c o (broadcast f { s.armCleared with door := d }))) husable
  · have hisolate := hhandle (i := .doorIsolate src leaf) rfl
    have hrestore := hhandle (i := .doorRestore src leaf) rfl
    unfold doDoorIsolate at hisolate
    unfold doDoorRestore at hrestore
    have hkept : AcceptKept s (accept src [] s.armCleared) := by
      obtain ⟨h1, h2, h3, h4⟩ := accept_kept src s.armCleared
      exact ⟨h1, h2, h3, h4⟩
    refine ⟨fun hnone => ?_, fun l hl hstate => ?_, fun l hl hstate => ?_⟩
    · rw [show s.armCleared.leaf leaf.toNat = none from hnone] at hisolate hrestore
      exact ⟨hisolate, hrestore⟩
    · rw [show s.armCleared.leaf leaf.toNat = some l from hl] at hisolate hrestore
      exact ⟨hrestore.trans (congrArg (fun t => Host.Outcome.next (finish t)) (if_neg hstate)), hisolate,
        isolateLeaf_spec hkept hl hstate⟩
    · rw [show s.armCleared.leaf leaf.toNat = some l from hl] at hisolate hrestore
      refine ⟨hisolate.trans (congrArg (fun t => Host.Outcome.next (finish t)) (isolateLeaf_isolated hkept hl hstate)),
        hrestore.trans (congrArg (fun t => Host.Outcome.next (finish t)) (if_pos hstate)), restoreLeaf_others hkept,
        restoreLeaf_closed hkept hl, fun hopen hroom hwarning => ?_, fun hopen hroom hwarning => ?_⟩
      · rw [restoreLeaf_warns hkept hl hopen hroom, enteredState, if_neg fun h => hwarning h.2]
        rfl
      · rw [restoreLeaf_warns hkept hl hopen hroom, enteredState, if_pos ⟨rfl, hwarning⟩]
        rfl
  · have hreset := hhandle (i := .groupReset src group) rfl
    unfold doGroupReset at hreset
    refine ⟨fun hnone => ?_, fun g hg hfault => ?_, fun g hg hfault => ?_⟩
    · rw [show s.armCleared.group group.toNat = none from hnone] at hreset
      exact hreset
    · rw [show s.armCleared.group group.toNat = some g from hg] at hreset
      exact hreset.trans (congrArg (fun t => Host.Outcome.next (finish t)) (if_pos hfault))
    · rw [show s.armCleared.group group.toNat = some g from hg] at hreset
      have hgroup : ∀ j, (resetGroup group.toNat s.armCleared).group j =
          if j = group.toNat then (s.group j).map fun x => { x with fault := none, mismatch := 0 } else s.group j :=
        fun j => State.modGroup_group group.toNat j _ s.armCleared
      have honly : (resetGroup group.toNat s.armCleared).door = s.door
          ∧ (resetGroup group.toNat s.armCleared).consist = s.consist
          ∧ (resetGroup group.toNat s.armCleared).bus = s.bus := by
        unfold resetGroup State.modGroup
        split <;> exact ⟨rfl, rfl, rfl⟩
      refine ⟨_, hreset.trans (congrArg (fun t => Host.Outcome.next (finish t)) (if_neg hfault)), ?_, fun j hj => ?_,
        honly⟩
      · rw [hgroup, if_pos rfl, hg]
        rfl
      · rw [hgroup, if_neg hj]

end Sys2Proof.Machine
end

section
/-! The requests of the record and its protection (R177, R178, R180, R184, R185). -/

namespace Sys2Proof.Machine

open Sys2Proof

/-- Bytes of an image replaced from an offset on: the data there, the image elsewhere (R177). -/
theorem overwrite_getElem? {img : List Byte} {offset : Nat} {data : List Byte} (h : offset + data.length ≤ img.length)
    (j : Nat) :
    (overwrite img offset data)[j]? =
      if offset ≤ j ∧ j < offset + data.length then data[j - offset]? else img[j]? := by
  unfold overwrite
  have htake : (img.take offset).length = offset := by rw [List.length_take]; omega
  rcases Nat.lt_or_ge j offset with hbefore | hfrom
  · rw [if_neg (by omega), List.append_assoc, List.getElem?_append_left (by omega), List.getElem?_take, if_pos hbefore]
  · rcases Nat.lt_or_ge j (offset + data.length) with hin | hafter
    · rw [if_pos ⟨hfrom, hin⟩, List.append_assoc, List.getElem?_append_right (by omega), htake,
        List.getElem?_append_left (by omega)]
    · rw [if_neg (by omega), List.getElem?_append_right (by rw [List.length_append]; omega), List.getElem?_drop,
        List.length_append, htake]
      congr 1
      omega

theorem storeBusy_iff (s : State) : storeBusy s = true ↔ s.store.state ≠ .idle := by simp [storeBusy]

theorem storeAllowed_iff (s : State) :
    storeAllowed s = true ↔ s.store.mode = .unlocked ∨ (s.store.mode = .keyed ∧ s.pins.workshop = true) := by
  unfold storeAllowed
  cases s.store.mode <;> simp

/-- When SET-PROTECTION is refused, and by which status (R185). -/
theorem protectionVerdict_eq (s : State) (wanted : Protection) :
    protectionVerdict s wanted =
      if s.store.state ≠ .idle then some .busy
      else if s.store.mode = .fixed ∨ (s.store.mode = .held ∧ (wanted = .unlocked ∨ wanted = .keyed))
          ∨ (s.pins.workshop ≠ true
            ∧ (wanted = .keyed ∨ wanted = .fixed ∨ (s.store.mode = .keyed ∧ wanted = .unlocked))) then
        some .guarded
      else none := by
  unfold protectionVerdict
  dsimp only
  by_cases hbusy : s.store.state = .idle
  · rw [if_neg (by simp [storeBusy, hbusy]), if_neg (not_not.mpr hbusy)]
    cases s.store.mode <;> cases wanted <;> cases s.pins.workshop <;> rfl
  · rw [if_pos (by simp [storeBusy, hbusy]), if_pos hbusy]

/-- A RECORD-STORE that is neither busy nor guarded is answered by the check of the edit buffer (R180). -/
theorem recordStore_passes {src : ReqSource} {s : State} (hexec : Executable src s) (hstate : s.store.state = .idle)
    (hmay : s.store.mode = .unlocked ∨ (s.store.mode = .keyed ∧ s.pins.workshop = true)) :
    exec (.recordStore src) s = .next (finish
      (match checkImage s.store.edit with
        | some why => answer src .check [checkCode (some why)] .plain s.armCleared
        | none =>
          if !doorsAtRest s.armCleared then refuse src .state s.armCleared
          else
            accept src (be16 (imageLengthOf s.store.edit) ++ be16 (checkWordOf s.store.edit).toNat)
              { s.armCleared with store := { s.store with state := .writing, writeTimer := some 400 } })) := by
  have hbusy : ¬storeBusy s.armCleared = true := fun h => (storeBusy_iff s.armCleared).mp h hstate
  have hallowed : storeAllowed s.armCleared = true := (storeAllowed_iff s.armCleared).mpr hmay
  have hstore : exec (.recordStore src) s = .next (finish (doRecordStore src s.armCleared)) :=
    (show exec (.recordStore src) s = live (handle src (doRecordStore src)) s from rfl).trans (live_handle src _ s hexec)
  unfold doRecordStore at hstore
  rw [if_neg hbusy, hallowed] at hstore
  exact hstore

/-- Settles O53. -/
theorem recordRequests : Obligations.RecordRequests := by
  intro src s hexec
  have hhandle : ∀ {i body}, exec i s = live (handle src body) s →
      exec i s = .next (finish (body s.armCleared)) := fun h => h.trans (live_handle src _ s hexec)
  have hbusy : storeBusy s.armCleared = true ↔ s.store.state ≠ .idle := storeBusy_iff s.armCleared
  have hallowed := storeAllowed_iff s.armCleared
  have hdoors := doorsAtRest_iff s.armCleared
  intro u no idle mayStore settled
  have hnext : ∀ {t t' : State}, t = t' → Host.Outcome.next (finish t) = (Host.Outcome.next (finish t') :
      Host.Outcome State Fault Refusal) := fun h => by rw [h]
  refine ⟨fun offset data => ?_, fun hstate => ?_, fun hstate => ?_, fun hstate => ?_, fun hstate hnot => ?_,
    fun why hstate hmay hcheck => ?_, fun hstate hmay hcheck hopen => ?_, fun hstate hmay hcheck hrest => ?_,
    fun b hnone => ?_, fun b wanted hwanted => ?_⟩
  · intro i fits
    have hedit : exec i s = .next (finish (doRecordEdit src offset data s.armCleared)) := hhandle rfl
    have hfits : (data = [] ∨ 64 < data.length ∨ Config.imageSize < offset.toNat + data.length) ↔ ¬fits := by
      have hsize : Config.imageSize = 512 := rfl
      rw [← List.length_eq_zero_iff, hsize]
      simp only [fits]
      omega
    unfold doRecordEdit at hedit
    refine ⟨fun hno => hedit.trans (hnext (if_pos (hfits.mpr hno))), fun hyes hstate => ?_, fun hyes hstate => ?_⟩
    · exact hedit.trans (hnext ((if_neg fun h => hfits.mp h hyes).trans (if_pos (hbusy.mpr hstate))))
    · refine ⟨overwrite s.store.edit offset.toNat data,
        hedit.trans (hnext ((if_neg fun h => hfits.mp h hyes).trans (if_neg fun h => hbusy.mp h hstate))),
        fun hlen => (overwrite_length (by rw [hlen]; exact hyes.2.2)).trans hlen,
        fun j hj hlen => overwrite_getElem? (by rw [hlen]; exact hyes.2.2) j⟩
  · exact (hhandle (i := .recordEditReset src) rfl).trans (hnext (if_pos (hbusy.mpr hstate)))
  · exact (hhandle (i := .recordEditReset src) rfl).trans (hnext (if_neg fun h => hbusy.mp h hstate))
  · exact (hhandle (i := .recordStore src) rfl).trans (hnext (if_pos (hbusy.mpr hstate)))
  · have hstore := hhandle (i := .recordStore src) rfl
    unfold doRecordStore at hstore
    refine hstore.trans (hnext ((if_neg fun h => hbusy.mp h hstate).trans (if_pos ?_)))
    rw [Bool.not_eq_true', Bool.eq_false_iff]
    exact fun h => hnot (hallowed.mp h)
  · refine (recordStore_passes hexec hstate hmay).trans (hnext ?_)
    rw [hcheck]
  · refine (recordStore_passes hexec hstate hmay).trans (hnext ?_)
    rw [hcheck]
    refine if_pos ?_
    rw [Bool.not_eq_true', Bool.eq_false_iff]
    exact fun h => hopen (hdoors.mp h)
  · refine (recordStore_passes hexec hstate hmay).trans (hnext ?_)
    rw [hcheck]
    refine (if_neg ?_).trans rfl
    rw [hdoors.mpr hrest]
    decide
  · have hset := hhandle (i := .setProtection src b) rfl
    unfold doSetProtection at hset
    rw [hnone] at hset
    exact hset
  · have hset := hhandle (i := .setProtection src b) rfl
    unfold doSetProtection at hset
    rw [hwanted] at hset
    dsimp only at hset
    have hverdict := protectionVerdict_eq s.armCleared wanted
    intro i key now forbidden
    refine ⟨fun hstate => ?_, fun hstate hforbidden => ?_, fun hstate hfree hheld => ?_, fun hstate hfree hheld => ?_⟩
    · rw [hverdict.trans (if_pos hstate)] at hset
      exact hset
    · rw [hverdict.trans ((if_neg (not_not.mpr hstate)).trans (if_pos hforbidden))] at hset
      exact hset
    · rw [hverdict.trans ((if_neg (not_not.mpr hstate)).trans (if_neg hfree))] at hset
      exact hset.trans (hnext (congrArg (accept src []) (if_pos hheld)))
    · rw [hverdict.trans ((if_neg (not_not.mpr hstate)).trans (if_neg hfree))] at hset
      exact hset.trans (hnext (congrArg (accept src []) (if_neg hheld)))

end Sys2Proof.Machine
end

section
/-! A record that goes live, the ends of store writes and a reset they hold back (R100, R137, R170, R181 to R185). -/

namespace Sys2Proof.Machine

open Sys2Proof

/-! ## The bus takes up a new record (R100) -/

/-- The units but the bus stand, and so do the status records. -/
structure UnitsStand (s t : State) : Prop where
  consist : t.consist = s.consist
  door : t.door = s.door
  heat : t.heat = s.heat
  store : t.store = s.store
  records : t.bus.records = s.bus.records

namespace UnitsStand

theorem refl (s : State) : UnitsStand s s := ⟨rfl, rfl, rfl, rfl, rfl⟩

theorem trans {s t u : State} (h : UnitsStand s t) (k : UnitsStand t u) : UnitsStand s u :=
  ⟨k.consist.trans h.consist, k.door.trans h.door, k.heat.trans h.heat, k.store.trans h.store,
    k.records.trans h.records⟩

theorem of_egress {s t : State} (h : EgressOnly s t) : UnitsStand s t :=
  ⟨h.consist, h.door, h.heat, h.store, by rw [h.bus]⟩

theorem of_modBus {s : State} {f : Bus → Bus} (h : (f s.bus).records = s.bus.records) : UnitsStand s (s.modBus f) :=
  ⟨rfl, rfl, rfl, rfl, h⟩

end UnitsStand

theorem endCabEntry_unserved {s : State} (h : s.cabServed = false) : UnitsStand s (endCabEntry s) := by
  unfold endCabEntry
  split
  · exact .refl s
  · next c hc =>
    have hended : UnitsStand s (s.modBus fun b => { b with cab := none }) := .of_modBus rfl
    dsimp only
    split
    · exact hended.trans (.of_modBus rfl)
    · unfold takeCabOutcome
      rw [if_pos (show (!(s.modBus fun b => { b with cab := none }).cabServed) = true by
        rw [show (s.modBus fun b => { b with cab := none }).cabServed = false from h]
        rfl)]
      exact hended

theorem emptyOutbound_stand (s : State) : UnitsStand s (emptyOutbound s) := by
  unfold emptyOutbound
  dsimp only
  have hlost : ∀ (fs : List CabFrame) (t : State),
      UnitsStand t (fs.foldl
        (fun s f => cabFrameGone f (s.modBus fun b => { b with cabDrop := satInc b.cabDrop })) t) := by
    intro fs
    induction fs with
    | nil => exact UnitsStand.refl
    | cons f rest ih =>
      intro t
      exact ((UnitsStand.of_modBus rfl).trans (.of_egress (cabFrameGone_egress f _))).trans (ih _)
  exact (UnitsStand.of_modBus rfl).trans (hlost _ _)

theorem redecideCab_stand (s : State) : UnitsStand s (redecideCab s) := by
  unfold redecideCab
  cases h : s.cabServed with
  | true => exact .refl s
  | false =>
    rw [if_neg Bool.false_ne_true]
    exact ((endCabEntry_unserved h).trans (emptyOutbound_stand _)).trans (.of_modBus rfl)

/-- The bus takes up a new record: every status record starts without a value, and the other units stand. -/
theorem busNewRecord_spec (s : State) :
    let t := busNewRecord s
    t.consist = s.consist ∧ t.door = s.door ∧ t.heat = s.heat ∧ t.store = s.store
      ∧ t.bus.records = freshRecords s.store.content.polls := by
  unfold busNewRecord
  obtain ⟨hconsist, hdoor, hheat, hstore, hrecords⟩ := redecideCab_stand ((endRoundForRecord s).modBus fun b =>
    { b with doorQueue := keepInFlight b.doorQueue, heatQueue := keepInFlight b.heatQueue })
  exact ⟨hconsist, hdoor, hheat, hstore, hrecords⟩

theorem freshRecords_empty {polls : List PollEntry} : ∀ r ∈ freshRecords polls, r.value = none ∧ r.age = 255 := by
  intro r hr
  obtain ⟨d, -, rfl⟩ := List.mem_map.mp hr
  exact ⟨rfl, rfl⟩

/-! ## The Door Unit takes up a new record (R137) -/

/-- A leaf in START proves nothing. -/
theorem vehicleProofNow_fresh {s : State} {c : Content} (hleaves : s.door.leaves = c.leaves.map fun _ => Leaf.fresh c)
    (hsome : c.leaves ≠ []) : vehicleProofNow s = false := by
  obtain ⟨f, rest, hf⟩ := List.exists_cons_of_ne_nil hsome
  rw [hf, List.map_cons] at hleaves
  have hmem : 1 ∈ s.leafNumbers := by
    unfold State.leafNumbers
    rw [hleaves]
    simp
  have hleaf : s.leaf 1 = some (Leaf.fresh c) := by
    unfold State.leaf
    rw [hleaves]
    rfl
  rw [vehicleProofNow, Bool.and_eq_false_iff]
  refine .inr (List.all_eq_false.mpr ⟨1, hmem, ?_⟩)
  rw [hleaf]
  exact Bool.false_ne_true

theorem rebuildLeaves_spec (s : State) :
    let t := rebuildLeaves s
    t.consist = s.consist ∧ t.heat = s.heat ∧ t.store = s.store ∧ t.bus.records = s.bus.records
      ∧ t.door.leaves = s.store.content.leaves.map (fun _ => Leaf.fresh s.store.content)
      ∧ (s.store.content.leaves ≠ [] → t.door.vehicleProof = false) ∧ t.door.headless = s.door.headless :=
  ⟨rfl, rfl, rfl, rfl, rfl, fun hsome => vehicleProofNow_fresh (c := s.store.content) rfl hsome, rfl⟩

/-! ## The Heat Unit takes up a new record (R170) -/

theorem modify_eq_self {α : Type} {f : α → α} {l : List α} {i : Nat} (h : ∀ x ∈ l, f x = x) : l.modify i f = l := by
  refine List.ext_getElem? fun j => ?_
  rw [List.getElem?_modify]
  cases hj : l[j]? with
  | none => rfl
  | some x =>
    have hx := h x (List.mem_of_getElem? hj)
    by_cases hij : i = j <;> simp [hij, hx]

/-- A group commanded to 0 that starts afresh stays as it is. -/
theorem offerGroup_fresh (g : Nat) {s : State} (h : ∀ x ∈ s.heat.groups, x = Group.fresh) :
    (offerGroup g 0 s).heat = s.heat := by
  unfold offerGroup
  split
  · rfl
  · rw [(offerHeatWrite_busOnly _ _ _ _ _).heat]
    unfold State.modGroup
    split
    · rfl
    · exact congrArg (fun groups => { s.heat with groups := groups }) 
        (modify_eq_self (f := fun x => { x with commanded := 0, settled := false, mismatch := 0 }) fun x hx => by
          rw [h x hx]
          rfl)

theorem commandAllOff_fresh {s : State} (h : ∀ x ∈ s.heat.groups, x = Group.fresh) :
    (commandAllOff s).heat = s.heat := by
  unfold commandAllOff
  generalize s.groupNumbers = l
  induction l generalizing s with
  | nil => rfl
  | cons g rest ih =>
    have hfirst := offerGroup_fresh g h
    exact (ih (s := offerGroup g 0 s) (by rwa [hfirst])).trans hfirst

theorem commandAllOff_heatWrites (s : State) : HeatWrites s (commandAllOff s) :=
  .foldl (fun s g => offerGroup_heatWrites g 0 s) _ s

theorem rebuildGroups_heatWrites (s : State) : HeatWrites s (rebuildGroups s) := by
  unfold rebuildGroups
  dsimp only
  exact ((((HeatWrites.of_modHeat _ s).trans (commandAllOff_heatWrites _)).trans (.of_modHeat _ _)).trans
    (discardIncrease_heatWrites _)).trans (.of_modHeat _ _)

/-- The group table is that of the new record, every group commanded to 0, and nothing of an allotment is left. -/
theorem rebuildGroups_heat (s : State) :
    (rebuildGroups s).heat.groups = s.store.content.groups.map (fun _ => Group.fresh)
      ∧ (rebuildGroups s).heat.take = 0 ∧ (rebuildGroups s).heat.latch = none
      ∧ (rebuildGroups s).heat.increase = none ∧ (rebuildGroups s).heat.allotted = false
      ∧ (rebuildGroups s).heat.allowance = s.heat.allowance := by
  have hoff := commandAllOff_fresh (s := s.modHeat fun h =>
    { h with groups := s.store.content.groups.map fun _ => Group.fresh }) fun x hx => by
      obtain ⟨c, -, rfl⟩ := List.mem_map.mp hx
      rfl
  unfold rebuildGroups
  dsimp only
  generalize commandAllOff _ = t at hoff
  have hgroups := congrArg Heat.groups hoff
  have hallowance := congrArg Heat.allowance hoff
  unfold discardIncrease
  split
  · next hnone => exact ⟨hgroups, rfl, rfl, hnone, rfl, hallowance⟩
  · exact ⟨hgroups, rfl, rfl, rfl, rfl, hallowance⟩

/-! ## The record goes live (R182) -/

/-- The store with its awaiting image live. -/
def Store.madeLive (img : List Byte) (r : Store) : Store :=
  { r with live := img, content := contentOf img none, validity := none, awaiting := none, state := .idle }

/-- The node with an image made live and taken up by every block but the Consist Unit. -/
def recordTaken (img : List Byte) (s : State) : State :=
  rebuildGroups (rebuildLeaves (busNewRecord (s.modStore (Store.madeLive img))))

theorem takeUpRecord_eq {img : List Byte} {s : State} (h : s.store.awaiting = some img) :
    takeUpRecord s =
      raise .recordStored 0#8 (checkWordOf img).toNat (consistNewRecord (recordTaken img s)) := by
  unfold takeUpRecord
  rw [h]
  rfl

/-- What every block but the Consist Unit holds once an image has been taken up. -/
structure Taken (img : List Byte) (s t : State) : Prop where
  store : t.store = s.store.madeLive img
  leaves : t.door.leaves = (contentOf img none).leaves.map (fun _ => Leaf.fresh (contentOf img none))
  vehicleProof : (contentOf img none).leaves ≠ [] → t.door.vehicleProof = false
  headless : t.door.headless = s.door.headless
  groups : t.heat.groups = (contentOf img none).groups.map (fun _ => Group.fresh)
  take : t.heat.take = 0
  latch : t.heat.latch = none
  increase : t.heat.increase = none
  allotted : t.heat.allotted = false
  allowance : t.heat.allowance = s.heat.allowance
  records : t.bus.records = freshRecords (contentOf img none).polls
  consist : t.consist = s.consist

theorem recordTaken_spec (img : List Byte) (s : State) : Taken img s (recordTaken img s) := by
  let u : State := s.modStore (Store.madeLive img)
  obtain ⟨hconsist, hdoor, hheat, hstore, hrecords⟩ := busNewRecord_spec u
  obtain ⟨lconsist, lheat, lstore, lrecords, hleaves, hproof, hheadless⟩ := rebuildLeaves_spec (busNewRecord u)
  have hwrites := rebuildGroups_heatWrites (rebuildLeaves (busNewRecord u))
  obtain ⟨hgroups, htake, hlatch, hincrease, hallotted, hallowance⟩ := rebuildGroups_heat (rebuildLeaves (busNewRecord u))
  have hcontent : (busNewRecord u).store.content = contentOf img none := by rw [hstore]; rfl
  rw [hcontent] at hleaves hproof
  rw [lstore, hcontent] at hgroups
  have hrest : (recordTaken img s).bus.records = (rebuildLeaves (busNewRecord u)).bus.records := by
    have h := congrArg Bus.records hwrites.rest
    exact h
  exact ⟨hwrites.store.trans (lstore.trans hstore), (congrArg Door.leaves hwrites.door).trans hleaves,
    fun hsome => (congrArg Door.vehicleProof hwrites.door).trans (hproof hsome),
    (congrArg Door.headless hwrites.door).trans (hheadless.trans (congrArg Door.headless hdoor)), hgroups, htake, hlatch,
    hincrease, hallotted, hallowance.trans (congrArg Heat.allowance (lheat.trans hheat)),
    hrest.trans (lrecords.trans hrecords), hwrites.consist.trans (lconsist.trans hconsist)⟩

/-! ## The end of a write (R181, R183, R185) -/

theorem toImage_of_length {bs : List Byte} (h : bs.length = 512) : toImage bs = bs := by
  refine List.ext_getElem ((toImage_length bs).trans h.symm) fun i h1 h2 => ?_
  simp [toImage, imageByte, h2]

/-- A record read back as written, and valid, awaits the doors; any other has failed. -/
theorem writeEnds_good {s : State} (hlength : s.store.edit.length = 512) (hcheck : checkImage s.store.edit = none) :
    writeEnds s.store.edit s = recordLiveIfReady
      { s with store := { s.store with
        stored := s.store.edit, storedMark := .whole, writeTimer := none
        awaiting := some s.store.edit, state := .awaitingDoors } } := by
  have hgood : (decide (s.store.edit = s.store.edit) && decide (checkImage s.store.edit = none)) = true := by
    rw [hcheck, decide_eq_true rfl]
    rfl
  unfold writeEnds
  dsimp only
  rw [toImage_of_length hlength, if_pos hgood, if_pos hgood]
  rfl

theorem writeEnds_bad {readBack : List Byte} {s : State} (hlength : readBack.length = 512)
    (hfails : readBack ≠ s.store.edit ∨ checkImage readBack ≠ none) :
    writeEnds readBack s = raise .recordInvalid 0#8 6 { s with store := { s.store with
      stored := readBack, storedMark := .failedReadBack, writeTimer := none, state := .idle } } := by
  have hgood : ¬(decide (readBack = s.store.edit) && decide (checkImage readBack = none)) = true := by
    rw [Bool.and_eq_true, decide_eq_true_eq, decide_eq_true_eq, Decidable.not_and_iff_or_not]
    exact hfails
  unfold writeEnds
  dsimp only
  rw [toImage_of_length hlength, if_neg hgood, if_neg hgood]
  rfl

section

variable {s : State} (hpower : s.powered = true)

include hpower

theorem exec_recordWriteEnd (readBack : List Byte) (hwriting : s.store.state = .writing) (hheld : s.req.resetHeld = false) :
    exec (.recordWriteEnd readBack) s = .next (finish (writeEnds readBack s)) := by
  rw [show exec (.recordWriteEnd readBack) s = live (recordWriteEnds readBack) s from rfl, live_powered _ s hpower,
    recordWriteEnds, if_pos hwriting, hheld, if_neg Bool.false_ne_true]

theorem exec_recordWriteEnd_held (readBack : List Byte) (hwriting : s.store.state = .writing)
    (hheld : s.req.resetHeld = true) :
    exec (.recordWriteEnd readBack) s = .next (resetNow (s.modStore fun r =>
      { r with stored := toImage readBack, storedMark := .whole })) := by
  rw [show exec (.recordWriteEnd readBack) s = live (recordWriteEnds readBack) s from rfl, live_powered _ s hpower,
    recordWriteEnds, if_pos hwriting, hheld, if_pos rfl, finish_resetNow]

theorem exec_settingWriteEnd (hsetting : s.store.state = .setting) :
    exec .settingWriteEnd s = .next (finish
      (if s.req.resetHeld then
        resetNow (s.modStore fun r => { r with storedSetting := some r.mode, state := .idle, writeTimer := none })
      else s.modStore fun r => { r with storedSetting := some r.mode, state := .idle, writeTimer := none })) := by
  rw [show exec .settingWriteEnd s = live settingWriteEnds s from rfl, live_powered _ s hpower, settingWriteEnds,
    if_pos hsetting]
  rfl

end

/-- Settles O54: the ends of the writes, the record that goes live, and a reset held back. -/
theorem storeEndsAndGoesLive : Obligations.StoreEndsAndGoesLive := by
  have hnext : ∀ {t t' : State}, t = t' → Host.Outcome.next (finish t) = (Host.Outcome.next (finish t') :
      Host.Outcome State Fault Refusal) := fun h => by rw [h]
  refine ⟨fun s hpower hheld => ?_, fun s hpower hheld => ?_⟩
  · intro waits
    refine ⟨fun hwriting hlength hcheck => ?_, fun readBack hwriting hlength hfails => ?_, fun hsetting => ?_,
      fun img hstate himg hrest => ?_⟩
    · rw [exec_recordWriteEnd hpower _ hwriting hheld, writeEnds_good hlength hcheck]
      refine ⟨fun hmoving => hnext (if_neg fun h => ?_), fun hrest => hnext (if_pos ⟨rfl, hrest⟩)⟩
      exact absurd (h.2.symm.trans hmoving) (by decide)
    · rw [exec_recordWriteEnd hpower _ hwriting hheld, writeEnds_bad hlength hfails]
    · rw [exec_settingWriteEnd hpower hsetting, hheld]
      rfl
    · intro c
      obtain ⟨hstore, hleaves, hproof, hheadless, hgroups, htake, hlatch, hincrease, hallotted, hallowance, hrecords,
        hconsist⟩ := recordTaken_spec img s
      let t : State := recordTaken img s
      have hcontent : t.store.content = c := congrArg Store.content hstore
      have hclaims := setClaims_eq (t.consist.claim1 && c.cabEnd1) (t.consist.claim2 && c.cabEnd2) t
      have hlive : exec .recordLive s = .next (finish (raise .recordStored 0#8 (checkWordOf img).toNat
          (consistNewRecord t))) := by
        rw [show exec .recordLive s = live recordLiveIfReady s from rfl, live_powered _ s hpower, recordLiveIfReady,
          if_pos ⟨hstate, hrest⟩, takeUpRecord_eq himg]
      unfold consistNewRecord at hlive
      dsimp only at hlive
      rw [hcontent, hclaims] at hlive
      refine ⟨_, hlive, hstore, hleaves, hproof, hheadless, ?_, fun g hg => ?_, htake, hlatch, hincrease, hallotted,
        hallowance, fun r hr => ?_, ?_, ?_, ?_⟩
      · exact (congrArg List.length hgroups).trans (List.length_map _)
      · have hg' : g ∈ c.groups.map fun _ => Group.fresh := hgroups ▸ hg
        obtain ⟨x, -, rfl⟩ := List.mem_map.mp hg'
        exact ⟨rfl, rfl, rfl⟩
      · have hr' : r ∈ freshRecords c.polls := hrecords ▸ hr
        exact freshRecords_empty r hr'
      · exact congrArg (fun x => Consist.claim1 x && c.cabEnd1) hconsist
      · exact congrArg (fun x => Consist.claim2 x && c.cabEnd2) hconsist
      · have hmap := congrArg Consist.activeMap hconsist
        exact hmap
  · intro Reset
    have hreset : ∀ u : State, u.powered = true → u.consist = s.consist → u.identity = s.identity → u.pins = s.pins →
        Reset (resetNow u) := fun u hu hconsist hidentity hpins => by
      rw [resetNow_eq]
      refine ⟨State.restarted_startsAfresh _ _ _ _ hu, rfl, rfl, rfl, rfl, ?_, rfl, rfl, rfl, rfl, hidentity, hpins⟩
      rw [← hconsist]
      rfl
    refine ⟨fun written hwriting hlength => ?_, fun hsetting hmode => ?_⟩
    · let u : State := s.modStore fun r => { r with stored := written, storedMark := .whole }
      have hexec := exec_recordWriteEnd_held hpower written hwriting hheld
      rw [toImage_of_length hlength] at hexec
      refine ⟨resetNow u, hexec, hreset u hpower rfl rfl rfl, ?_⟩
      rw [resetNow_eq]
      have hverdict : u.verdict = checkImage written := State.verdict_whole rfl
      have hcontent := contentOf_verdict written (checkImage written)
      unfold State.restarted
      rw [hverdict]
      refine ⟨rfl, rfl, rfl, fun hvalid => ⟨hcontent.trans (if_pos hvalid), ?_⟩,
        fun hinvalid => hcontent.trans (if_neg hinvalid), List.length_map _, fun l hl => ?_⟩
      · rw [hvalid]
        rfl
      · obtain ⟨f, -, rfl⟩ := List.mem_map.mp hl
        rfl
    · let u : State := s.modStore fun r => { r with storedSetting := some r.mode, state := .idle, writeTimer := none }
      have hexec := exec_settingWriteEnd hpower hsetting
      rw [hheld, if_pos rfl, finish_resetNow] at hexec
      refine ⟨resetNow u, hexec, hreset u hpower rfl rfl rfl, ?_⟩
      rw [resetNow_eq]
      refine ⟨rfl, ?_, rfl⟩
      exact if_neg hmode

end Sys2Proof.Machine
end

section
/-! The transfers of a cab service, and what its outcome does (R39, R95, R96, R98, R99). -/

namespace Sys2Proof.Machine

open Sys2Proof

/-! ## The loss of the cab station (R39, R75, R99) -/

theorem Consist.told_claims (c : Consist) :
    c.told.claim1 = c.claim1 ∧ c.told.claim2 = c.claim2 ∧ c.told.status = c.status := by
  unfold Consist.told Consist.afterChange
  dsimp only
  cases c.state <;> exact ⟨rfl, rfl, rfl⟩

/-- What a node that loses the lead keeps of its claims, its bus and its leaves. -/
theorem loseValidity_cab {s : State} (hstatus : s.consist.status ≠ .valid) :
    let t := loseValidity s
    t.consist.claim1 = s.consist.claim1 ∧ t.consist.claim2 = s.consist.claim2 ∧ t.consist.status = s.consist.status
      ∧ t.bus.cabState = s.bus.cabState ∧ t.bus.silence = s.bus.silence ∧ t.door.leaves = s.door.leaves := by
  intro t
  have hbus : t.bus = (announceChange (leadLost s)).bus := by
    refine (congrArg State.bus (loseValidity_left hstatus)).trans ?_
    rw [changeEffect_eq]
  rw [hbus, (announceChange_egress (leadLost s)).bus, (loseValidity_gone hstatus).door]
  obtain ⟨h1, h2, h3⟩ := s.consist.told_claims
  obtain ⟨hnot, hcounting⟩ := loseValidity_consist hstatus
  by_cases hphase : s.consist.phase = .counting
  · rw [hcounting hphase]
    exact ⟨h1, h2, h3, rfl, rfl, rfl⟩
  · rw [hnot hphase]
    exact ⟨h1, h2, h3, rfl, rfl, rfl⟩

theorem dropClaims_spec (s : State) :
    let t := dropClaims s
    t.consist.claim1 = false ∧ t.consist.claim2 = false ∧ t.consist.status = .none
      ∧ t.bus.cabState = s.bus.cabState ∧ t.bus.silence = s.bus.silence ∧ t.door.leaves = s.door.leaves := by
  intro t
  have ht : t = if s.actsAsHead then
      loseValidity ((setClaims false false s).modConsist fun c => { c with status := .none })
      else (setClaims false false s).modConsist fun c => { c with status := .none } := rfl
  rw [setClaims_eq] at ht
  split at ht
  · obtain ⟨h1, h2, h3, h4, h5, h6⟩ := loseValidity_cab (s := (s.modConsist fun c =>
        { c with
          claim1 := false, claim2 := false
          conflictHold := if c.claim1 = false ∧ c.claim2 = false then c.conflictHold else false }).modConsist
        fun c => { c with status := .none }) (show ClaimStatus.none ≠ .valid by decide)
    rw [ht]
    exact ⟨h1, h2, h3, h4, h5, h6⟩
  · rw [ht]
    exact ⟨rfl, rfl, rfl, rfl, rfl, rfl⟩

/-- The node with the cab station lost, before CAB-LOST is raised. -/
def cabGone (s : State) : State := clearRequestBits (dropClaims (s.modBus fun b => { b with cabState := .lost }))

/-- What the outcome of a cab service does (R99). -/
theorem takeCabOutcome_spec (t : CabTally) (s : State) :
    let served (silence : Nat) (state : CabState) : State :=
      { s with bus := { s.bus with silence := silence, cabState := state } }
    (s.cabServed = false → takeCabOutcome t s = s)
      ∧ (s.cabServed = true →
          (t.answered = true → takeCabOutcome t s = served 0 .answering)
            ∧ (t.answered = false → t.ended = false → takeCabOutcome t s = s)
            ∧ (t.answered = false → t.ended = true → (s.bus.silence + 1 < 10 ∨ s.bus.cabState = .lost) →
                takeCabOutcome t s = served (min (s.bus.silence + 1) 255) s.bus.cabState)
            ∧ (t.answered = false → t.ended = true → 10 ≤ s.bus.silence + 1 → s.bus.cabState = .answering →
                takeCabOutcome t s = raise .cabLost 0#8 0
                  (cabGone (served (min (s.bus.silence + 1) 255) s.bus.cabState)))) := by
  intro served
  have hsilent : Config.cabSilentRounds = 10 := rfl
  have hserved : s.cabServed = true → takeCabOutcome t s =
      if t.answered then served 0 .answering
      else if t.ended then
        if s.bus.cabState = .answering ∧ 10 ≤ min (s.bus.silence + 1) 255 then
          raise .cabLost 0#8 0 (cabGone (served (min (s.bus.silence + 1) 255) s.bus.cabState))
        else served (min (s.bus.silence + 1) 255) s.bus.cabState
      else s := fun h => by
    unfold takeCabOutcome
    rw [if_neg (by rw [h]; decide)]
    rfl
  refine ⟨fun h => ?_, fun h => ⟨fun ha => ?_, fun ha he => ?_, fun ha he hheld => ?_, fun ha he hten hanswering => ?_⟩⟩
  · unfold takeCabOutcome
    rw [if_pos (by rw [h]; rfl)]
  · rw [hserved h, if_pos ha]
  · rw [hserved h, if_neg (ne_true_of_eq_false ha), if_neg (ne_true_of_eq_false he)]
  · rw [hserved h, if_neg (ne_true_of_eq_false ha), if_pos he, if_neg]
    rintro ⟨hanswering, hten⟩
    rcases hheld with hfew | hlost
    · omega
    · rw [hlost] at hanswering
      cases hanswering
  · rw [hserved h, if_neg (ne_true_of_eq_false ha), if_pos he, if_pos ⟨hanswering, by omega⟩]

/-! ## The transfers (R96, R98) -/

theorem CabTally.count_heard {a : Attempt} (t : CabTally) (h : a ≠ .noAnswer) :
    t.count a = { ended := true, answered := true } := by
  unfold CabTally.count
  rw [decide_eq_true h, Bool.or_true]

theorem CabTally.count_unheard (t : CabTally) : t.count .noAnswer = { ended := true, answered := t.answered } := by
  unfold CabTally.count
  rw [decide_eq_false (not_not.mpr rfl), Bool.or_false]

/-- The node with this cab service entry and bus. -/
def State.serving (s : State) (c : CabEntry) (b : Bus) : State := { s with bus := { b with cab := some c } }

/-- A cab service has ended with this tally. -/
def cabServedOut (t : CabTally) (x : State) : State :=
  finishRound (takeCabOutcome t { x with bus := { x.bus with cab := none } })

theorem checkCabEnd_none {x : State} (h : x.bus.cab = none) : checkCabEnd x = x := by
  unfold checkCabEnd
  rw [h]

theorem endCabService_some {c : CabEntry} {x : State} (h : x.bus.cab = some c) :
    endCabService x = cabServedOut c.tally x := by
  unfold endCabService
  rw [h]
  rfl

theorem checkCabEnd_some {c : CabEntry} {x : State} (h : x.bus.cab = some c) :
    checkCabEnd x =
      if c.writing = true ∧ (x.bus.outbound = [] ∨ c.writesLeft = 0) then cabServedOut c.tally x else x := by
  unfold checkCabEnd
  rw [h, ← endCabService_some h]

theorem Bus.landed_cab (a : Attempt) (b : Bus) : (b.landed a).cab = b.cab := by cases a <;> rfl

/-- A mailbox transfer in class 3 that ends leaves its entry as R96 and R98 have it, and moves its frame. -/
theorem attemptEnds_cab {c : CabEntry} {s : State} (t : CabTransfer) (a : Attempt) (hcab : s.bus.cab = some c) :
    attemptEnds (.cab t none) a s = arbitrate
      (if transferFails t a then cabServedOut (c.after t a).tally { s with bus := s.bus.landed a }
        else checkCabEnd (transferMoves t a (s.serving (c.after t a) (s.bus.landed a)))) := by
  have hentry : (s.bus.landed a).cab.map (CabEntry.after t a) = some (c.after t a) := by
    rw [Bus.landed_cab, hcab]
    rfl
  have hserved : endCabService (s.serving (c.after t a) (s.bus.landed a)) =
      cabServedOut (c.after t a).tally { s with bus := s.bus.landed a } :=
    endCabService_some (x := s.serving (c.after t a) (s.bus.landed a)) rfl
  rw [attemptEnds_eq, ← hserved]
  unfold cabEnds State.serving State.modBus
  dsimp only
  rw [hentry]

/-- Without an answer the cab service ends, the transfer being one more that nothing answered. -/
theorem attemptEnds_cab_unanswered {c : CabEntry} {s : State} (t : CabTransfer) (hcab : s.bus.cab = some c) :
    attemptEnds (.cab t none) .noAnswer s = arbitrate
      (cabServedOut { ended := true, answered := c.tally.answered } { s with bus := s.bus.landed .noAnswer }) := by
  have htally : (c.after t .noAnswer).tally = { ended := true, answered := c.tally.answered } := by
    rw [← CabTally.count_unheard]
    cases t <;> rfl
  have hfails : transferFails t .noAnswer = true := by cases t <;> rfl
  rw [attemptEnds_cab t .noAnswer hcab, if_pos hfails, htally]

section

variable {t : CabTransfer} {s : State} (hpower : s.powered = true) (hflight : s.bus.flight = some (.cab t none))

include hpower hflight

theorem exec_busAnswer_cab (ready : Bool) (frame : List Byte) :
    exec (.busAnswer 31#8 1#8 ready frame) s =
      .next (finish (attemptEnds (.cab t none) (if ready then .done frame else .notReady) s)) := by
  have hvalid : answerValid (.cab t none) 31#8 1#8 ready frame s = true := rfl
  rw [show exec (.busAnswer 31#8 1#8 ready frame) s = live (stationAnswers 31#8 1#8 ready frame) s from rfl,
    live_powered _ s hpower, stationAnswers, hflight]
  dsimp only
  rw [if_pos hvalid]

theorem exec_busReplyTimeout_cab :
    exec .busReplyTimeout s = .next (finish (attemptEnds (.cab t none) .noAnswer s)) := by
  rw [show exec .busReplyTimeout s = live replyTimesOut s from rfl, live_powered _ s hpower, replyTimesOut, hflight]

end

end Sys2Proof.Machine
end

section
/-! What a node does with a frame of its host, in every address form (R103 to R106, R187, R199). -/

namespace Sys2Proof.Machine

open Sys2Proof

/-! ## A request executed here (R187) -/

/-- The command `i` executes the request that these bytes spell. -/
def ExecutesRequest (i : Instr) (src : ReqSource) (kind : Byte) (fields : List Byte) (s : State) : Prop :=
  (∀ c, readRequest src kind fields = .command c → exec i s = exec c s)
    ∧ (readRequest src kind fields = .malformed → exec i s = .next (finish (refuse src .range s.armCleared)))
    ∧ ((kind = 0#8 ∨ 30 < kind.toNat) → exec i s = .next (finish (refuse src .unknownKind s.armCleared)))

theorem executesRequest_of {i : Instr} {src : ReqSource} {kind : Byte} {fields : List Byte} {s : State}
    (hexec : Executable src s) (h : exec i s = .next (finish (executeRequest src kind fields s))) :
    ExecutesRequest i src kind fields s := by
  obtain ⟨hpower, hpending, hsrc⟩ := hexec
  have hhandle : ∀ st, handle src (refuse src st) s = refuse src st s.armCleared := fun st =>
    envelope_taken _ hpending hsrc
  unfold executeRequest at h
  refine ⟨fun c hread => ?_, fun hread => ?_, fun hkind => ?_⟩
  · obtain ⟨body, hbody⟩ := readRequest_reads src kind fields c hread
    rw [hread] at h
    rw [h, (hbody s).1, live_powered _ s hpower, ← (hbody s).2]
  · rw [hread] at h
    rw [h, ← hhandle]
  · rw [readRequest_unknown src fields hkind] at h
    rw [h, ← hhandle]

/-! ## Reading a host frame (R199) -/

theorem readHostFrame_badForm {tag form : Byte} (fields : List Byte) (h : 3 < form.toNat) :
    readHostFrame (0x01#8 :: tag :: form :: fields) =
      some { tag := tag, address := .badForm, kind := 0#8, fields := [] } := by
  have hform : ∀ n : Byte, n.toNat ≤ 3 → form ≠ n := fun n hn he => by
    rw [he] at h
    omega
  unfold readHostFrame
  dsimp only
  rw [if_neg (not_not.mpr rfl), if_neg (hform _ (by decide)), if_neg (hform _ (by decide)), if_neg (hform _ (by decide)),
    if_neg (hform _ (by decide))]

/-- A frame of another type, or too short for its address and a kind byte, is none (assumption 39). -/
theorem readHostFrame_none {frame : List Byte}
    (h : frame.head? ≠ some 0x01#8 ∨ frame.length ≤ 2 ∨ (frame.length = 3 ∧ (frame.getD 2 0#8).toNat ≤ 3)
      ∨ (frame.length = 4 ∧ (frame.getD 2 0#8 = 1#8 ∨ frame.getD 2 0#8 = 3#8))
      ∨ (frame.length ≤ 9 ∧ frame.getD 2 0#8 = 2#8)) : readHostFrame frame = none := by
  match frame with
  | [] | [_] | [_, _] => rfl
  | ty :: tag :: form :: rest =>
    simp only [List.head?_cons, List.length_cons, List.getD_cons_succ, List.getD_cons_zero, ne_eq, Option.some.injEq] at h
    unfold readHostFrame
    dsimp only
    by_cases hty : ty = 0x01#8
    · rw [if_neg (not_not.mpr hty)]
      have hshort : (rest.length = 0 ∧ form.toNat ≤ 3) ∨ (rest.length = 1 ∧ (form = 1#8 ∨ form = 3#8))
          ∨ (rest.length ≤ 6 ∧ form = 2#8) := by
        rcases h with h | h | h | h | h
        · exact absurd hty h
        · omega
        · exact .inl ⟨by omega, h.2⟩
        · exact .inr (.inl ⟨by omega, h.2⟩)
        · exact .inr (.inr ⟨by omega, h.2⟩)
      by_cases h0 : form = 0#8
      · rw [if_pos h0]
        have hlength : rest.length = 0 := by simpa [h0] using hshort
        rw [List.length_eq_zero_iff.mp hlength]
      · rw [if_neg h0]
        by_cases h1 : form = 1#8
        · rw [if_pos h1]
          have hlength : rest.length ≤ 1 := by
            rcases hshort with ⟨h, -⟩ | ⟨h, -⟩ | ⟨-, hform⟩
            · omega
            · omega
            · exact absurd (h1.symm.trans hform) (by decide)
          match rest, hlength with
          | [], _ | [_], _ => rfl
        · rw [if_neg h1]
          by_cases h2 : form = 2#8
          · rw [if_pos h2]
            have hlength : rest.length ≤ 6 := by rcases hshort with ⟨h, -⟩ | ⟨h, -⟩ | ⟨h, -⟩ <;> omega
            match rest, hlength with
            | [], _ | [_], _ | [_, _], _ | [_, _, _], _ | [_, _, _, _], _ | [_, _, _, _, _], _ | [_, _, _, _, _, _], _ =>
              rfl
          · have h3 : form = 3#8 := by
              rcases hshort with ⟨-, hform⟩ | ⟨-, hform⟩ | ⟨-, hform⟩
              · have : form.toNat ≠ 0 := fun he => h0 (BitVec.eq_of_toNat_eq he)
                have : form.toNat ≠ 1 := fun he => h1 (BitVec.eq_of_toNat_eq he)
                have : form.toNat ≠ 2 := fun he => h2 (BitVec.eq_of_toNat_eq he)
                exact BitVec.eq_of_toNat_eq (show form.toNat = 3 by omega)
              · exact hform.resolve_left h1
              · exact absurd hform h2
            rw [if_neg h2, if_pos h3]
            have hlength : rest.length ≤ 1 := by
              rcases hshort with ⟨h, -⟩ | ⟨h, -⟩ | ⟨-, hform⟩
              · omega
              · omega
              · exact absurd hform h2
            match rest, hlength with
            | [], _ | [_], _ => rfl
    · exact if_pos hty

/-! ## The address resolved (R103, R105) -/

theorem takeHostFrame_refused {bytes : List Byte} {h : HostFrame} {st : Status} {s : State}
    (hread : readHostFrame bytes = some h) (hresolve : resolve h s = .error st) :
    takeHostFrame bytes s = offerCabReply h.tag (statusCode st) 0#8 [] .plain s := by
  unfold takeHostFrame
  rw [hread]
  dsimp only
  rw [hresolve]

theorem takeHostFrame_here {bytes fields : List Byte} {h : HostFrame} {s : State}
    (hread : readHostFrame bytes = some h) (hresolve : resolve h s = .ok (none, fields)) :
    takeHostFrame bytes s = executeRequest (.cab h.tag) h.kind fields s := by
  unfold takeHostFrame
  rw [hread]
  dsimp only
  rw [hresolve]

theorem takeHostFrame_sent {bytes fields : List Byte} {h : HostFrame} {p : Byte} {s : State}
    (hread : readHostFrame bytes = some h) (hresolve : resolve h s = .ok (some p, fields)) :
    takeHostFrame bytes s = originateRequest p h.tag h.kind fields s := by
  unfold takeHostFrame
  rw [hread]
  dsimp only
  rw [hresolve]

theorem resolveIdentity_absent {who : Identity} {s : State} (h : ∀ x ∈ s.consist.activeMap, x.identity ≠ who) :
    resolveIdentity who s = .error .absent := by
  have hfind : s.consist.activeMap.findIdx? (fun e => decide (e.identity = who)) = none := by
    rw [List.findIdx?_eq_none_iff]
    exact fun x hx => decide_eq_false (h x hx)
  unfold resolveIdentity
  rw [hfind]

theorem resolveIdentity_found {before after : List ConsistEntry} {x : ConsistEntry} {s : State}
    (hmap : s.consist.activeMap = before ++ x :: after) (hbefore : ∀ y ∈ before, y.identity ≠ x.identity) :
    resolveIdentity x.identity s = .ok (byteOf (before.length + 1)) := by
  have hfind : s.consist.activeMap.findIdx? (fun e => decide (e.identity = x.identity)) = some before.length := by
    rw [hmap, List.findIdx?_append, List.findIdx?_eq_none_iff.mpr fun y hy => decide_eq_false (hbefore y hy)]
    simp [List.findIdx?_cons]
  unfold resolveIdentity
  rw [hfind]

section

variable {a tag kind : Byte} {fields : List Byte} {s : State} (ha : a ≠ 0#8) (hsettled : s.isSettled = true)

include ha hsettled

theorem resolve_alias_absent (h : findAlias a s.req.aliases = none) :
    resolve { tag := tag, address := .byAlias a, kind := kind, fields := fields } s = .error .absent := by
  unfold resolve
  dsimp only
  rw [if_neg ha, hsettled, if_neg (by decide), h]

theorem resolve_alias_position {e : AliasEntry} {p : Byte} (h : findAlias a s.req.aliases = some e)
    (hvehicle : e.vehicle = .position p) :
    resolve { tag := tag, address := .byAlias a, kind := kind, fields := fields } s =
      .ok (some p, withStation kind fields e.station) := by
  unfold resolve
  dsimp only
  rw [if_neg ha, hsettled, if_neg (by decide), h]
  dsimp only
  rw [hvehicle]

theorem resolve_alias_identity {e : AliasEntry} {who : Identity} (h : findAlias a s.req.aliases = some e)
    (hvehicle : e.vehicle = .identity who) :
    resolve { tag := tag, address := .byAlias a, kind := kind, fields := fields } s =
      (resolveIdentity who s).map fun p => (some p, withStation kind fields e.station) := by
  unfold resolve
  dsimp only
  rw [if_neg ha, hsettled, if_neg (by decide), h]
  dsimp only
  rw [hvehicle]

end

/-- A REMOTE-STATION with its station field replaced, three fields or more being there. -/
theorem withStation_long (kind op mode old station : Byte) (rest : List Byte) :
    withStation kind (op :: mode :: old :: rest) station =
      op :: mode :: (if kind = 19#8 then station else old) :: rest := by
  unfold withStation
  split <;> rfl

theorem withStation_short {fields : List Byte} (kind station : Byte) (h : fields.length ≤ 2) :
    withStation kind fields station = fields := by
  unfold withStation
  split
  · match fields, h with
    | [], _ | [_], _ | [_, _], _ => rfl
  · rfl

/-! ## The REQUEST that goes out (R12, R106) -/

/-- The REQUEST for a resolved address goes out, or is executed here where the position is the node's own. -/
def SendsRequest (i : Instr) (destination tag kind : Byte) (fields : List Byte) (s : State) : Prop :=
  (destination.toNat ≠ s.position →
      exec i s = .next (finish (route
        { frame :=
            { kind := 0x0B#8
              header := { generation := s.consist.generation, flags := 0#8, destination := destination
                          source := byteOf s.position, tag := tag }
              payload := kind :: fields }
          mark := .plain } s)))
    ∧ (destination.toNat = s.position → destination ≠ 0#8 →
        ExecutesRequest i (.line destination s.consist.generation tag) kind fields s)

theorem sendsRequest_of {i : Instr} {destination tag kind : Byte} {fields : List Byte} {s : State}
    (hpower : s.powered = true) (hpending : s.req.resetPending = false) (hsettled : s.consist.state = .settled)
    (h : exec i s = .next (finish (originateRequest destination tag kind fields s))) :
    SendsRequest i destination tag kind fields s := by
  have hsource : s.sourcePosition = byteOf s.position := if_pos (decide_eq_true hsettled)
  let f : Frame :=
    { kind := 0x0B#8
      header := { generation := s.consist.generation, flags := 0#8, destination := destination
                  source := byteOf s.position, tag := tag }
      payload := kind :: fields }
  have hframe : buildFrame s Config.kindRequest destination tag (kind :: fields) = f :=
    congrArg (fun x => Frame.mk 0x0B#8 (Header.mk s.consist.generation 0#8 destination x tag) (kind :: fields)) hsource
  unfold originateRequest at h
  rw [hframe] at h
  refine ⟨fun hother => h.trans (congrArg (fun t => Host.Outcome.next (finish t)) (if_neg hother)), fun hown hzero => ?_⟩
  refine executesRequest_of ⟨hpower, hpending, fun g t hsame => hzero (ReqSource.line.inj hsame).1⟩
    (h.trans (congrArg (fun t => Host.Outcome.next (finish t)) ((if_pos hown).trans ?_)))
  show executeRequest (.line (byteOf s.position) s.consist.generation tag) kind fields s = _
  rw [byteOf_of_toNat hown]

/-- Settles O55: a host frame by its address form, the transfers of a cab service, and its outcome. -/
theorem hostFrames : Obligations.HostFrames := by
  refine ⟨fun tag kind fields s hpower hpending => ?_, fun c s hpower hcab => ?_, fun t s => ?_⟩
  · intro host Refused settled Executes Sent Resolved
    have hhost : ∀ bytes, exec (.hostRequest bytes) s = .next (finish (takeHostFrame bytes s)) := fun bytes =>
      live_powered (takeHostFrame bytes) s hpower
    have hrefused : ∀ {bytes : List Byte} {h : HostFrame} {st : Status}, readHostFrame bytes = some h → h.tag = tag →
        resolve h s = .error st → Refused (.hostRequest bytes) st := fun {bytes h st} hread htag hresolve => by
      refine (hhost bytes).trans (congrArg (fun t => Host.Outcome.next (finish t)) ?_)
      rw [takeHostFrame_refused hread hresolve, htag]
    have hsent : ∀ {bytes sent : List Byte} {h : HostFrame} {p : Byte}, settled → readHostFrame bytes = some h →
        h.tag = tag → h.kind = kind → resolve h s = .ok (some p, sent) → Sent (.hostRequest bytes) p sent :=
      fun {bytes sent h p} hsettled hread htag hkind hresolve => by
        have hexec := hhost bytes
        rw [takeHostFrame_sent hread hresolve, htag, hkind] at hexec
        exact sendsRequest_of hpower hpending hsettled hexec
    have hresolved : ∀ {bytes sent : List Byte} {h : HostFrame} {vehicle : VehicleRef}, settled →
        readHostFrame bytes = some h → h.tag = tag → h.kind = kind →
        (∀ p, vehicle = .position p → resolve h s = .ok (some p, sent)) →
        (∀ who, vehicle = .identity who → resolve h s = (resolveIdentity who s).map fun p => (some p, sent)) →
        Resolved (.hostRequest bytes) vehicle sent :=
      fun {bytes sent h vehicle} hsettled hread htag hkind hposition hidentity =>
        ⟨fun p hp => hsent hsettled hread htag hkind (hposition p hp), fun who hwho =>
          ⟨fun habsent => hrefused hread htag ((hidentity who hwho).trans (by rw [resolveIdentity_absent habsent]; rfl)),
            fun before x after hmap hx hbefore _ => by
              subst hx
              exact hsent hsettled hread htag hkind
                ((hidentity _ hwho).trans (by rw [resolveIdentity_found hmap hbefore]; rfl))⟩⟩
    have hunsettled : ¬settled → s.isSettled = false := fun h => decide_eq_false h
    have hsettles : settled → s.isSettled = true := fun h => decide_eq_true h
    have hidentity : ∀ who, readHostFrame ([0x01#8, tag, 2#8] ++ idBytes who ++ kind :: fields) =
        some { tag := tag, address := .identity who, kind := kind, fields := fields } := fun who =>
      congrArg (fun i => some (HostFrame.mk tag (.identity i) kind fields)) (idOf_idBytes who)
    refine ⟨fun frame hframe => ?_, ?_, fun form hform => ?_, fun p hp => ?_, fun p hlow hhigh => ⟨fun hs => ?_, fun hs => ?_⟩,
      fun who => ⟨fun hs => ?_, fun hs => ?_⟩, ?_, fun a ha => ⟨fun hs => ?_, fun hs hnone => ?_,
        fun before x after hs haliases hx hbefore => ?_⟩, fun src hexec => ?_⟩
    · have hdropped : takeHostFrame frame s = requestDropped s := by
        unfold takeHostFrame
        rw [readHostFrame_none hframe]
      rw [show exec (.hostFrameDiscard frame) s = live (takeHostFrame frame) s from rfl, live_powered _ s hpower, hdropped]
      rfl
    · refine executesRequest_of ⟨hpower, hpending, fun g t h => by cases h⟩ ((hhost _).trans ?_)
      rw [takeHostFrame_here (h := { tag := tag, address := .here, kind := kind, fields := fields }) rfl rfl]
    · exact hrefused (readHostFrame_badForm fields hform) rfl rfl
    · refine hrefused (h := { tag := tag, address := .position p, kind := kind, fields := fields }) rfl rfl (if_pos ?_)
      exact hp.imp (fun h => by rw [h]; rfl) id
    · refine hrefused (h := { tag := tag, address := .position p, kind := kind, fields := fields }) rfl rfl
        ((if_neg (by omega)).trans (if_pos ?_))
      rw [hunsettled hs]
      rfl
    · refine hsent (h := { tag := tag, address := .position p, kind := kind, fields := fields }) hs rfl rfl rfl
        ((if_neg (by omega)).trans (if_neg ?_))
      rw [hsettles hs]
      decide
    · refine hrefused (hidentity who) rfl (if_pos ?_)
      rw [hunsettled hs]
      rfl
    · refine hresolved hs (hidentity who) rfl rfl (fun p hp => by cases hp) fun who' hwho => ?_
      cases hwho
      refine if_neg ?_
      rw [hsettles hs]
      decide
    · exact hrefused (h := { tag := tag, address := .byAlias 0#8, kind := kind, fields := fields }) rfl rfl rfl
    · refine hrefused (h := { tag := tag, address := .byAlias a, kind := kind, fields := fields }) rfl rfl
        ((if_neg ha).trans (if_pos ?_))
      rw [hunsettled hs]
      rfl
    · exact hrefused (h := { tag := tag, address := .byAlias a, kind := kind, fields := fields }) rfl rfl
        (resolve_alias_absent ha (hsettles hs) (findAlias_eq_none hnone))
    · have hfind : findAlias a s.req.aliases = some x := by
        subst hx
        rw [haliases, findAlias_split hbefore]
      have halias : Resolved (host 3#8 [a]) x.vehicle (withStation kind fields x.station) :=
        hresolved (h := { tag := tag, address := .byAlias a, kind := kind, fields := fields }) hs rfl rfl rfl
          (fun p hp => resolve_alias_position ha (hsettles hs) hfind hp)
          (fun who hwho => resolve_alias_identity ha (hsettles hs) hfind hwho)
      match fields with
      | op :: mode :: station :: rest => rwa [withStation_long] at halias
      | [] | [_] | [_, _] => rwa [withStation_short kind x.station (by simp)] at halias
    · exact executesRequest_of hexec (live_powered (executeRequest src kind fields) s hpower)
  · intro idle silent busy heard unheard serving served Goes Ends mailbox
    have hgoes : ∀ {i x}, exec i s = .next (finish (arbitrate (checkCabEnd x))) → Goes i x := fun {i x} h => by
      refine h.trans (congrArg (fun t => Host.Outcome.next (finish (arbitrate t))) ?_)
      cases hx : x.bus.cab with
      | none => exact checkCabEnd_none hx
      | some c => exact checkCabEnd_some hx
    have hends : ∀ {i t b}, exec i s = .next (finish (arbitrate (cabServedOut t { s with bus := b }))) → Ends i t b :=
      fun {i t b} h => h
    clear_value Goes Ends
    refine ⟨fun hflight => ?_, fun hflight => ?_⟩
    · have hanswer := fun ready frame => exec_busAnswer_cab hpower hflight ready frame
      have htimeout := exec_busReplyTimeout_cab hpower hflight
      intro writes
      have hwrites : ∀ a, (a = .done [] ∨ a = .notReady) → c.after .read a = writes := fun a ha => by
        unfold CabEntry.after
        rcases ha with rfl | rfl
        · rw [CabTally.count_heard _ (by simp)]
        · rw [CabTally.count_heard _ (by simp)]
      refine ⟨fun frame hframe => hgoes ?_, hgoes ?_, fun frame => hgoes ?_, hends ?_⟩
      · obtain ⟨b, bs, rfl⟩ := List.exists_cons_of_ne_nil hframe
        have hafter : c.after .read (.done (b :: bs)) =
            { c with readsLeft := c.readsLeft - 1, writing := decide (c.readsLeft ≤ 1), tally := heard } := by
          unfold CabEntry.after
          rw [CabTally.count_heard _ (by simp)]
        refine (hanswer true (b :: bs)).trans (congrArg (fun t => Host.Outcome.next (finish t)) ?_)
        refine (attemptEnds_cab .read (.done (b :: bs)) hcab).trans ?_
        rw [hafter]
        rfl
      · refine (hanswer true []).trans (congrArg (fun t => Host.Outcome.next (finish t)) ?_)
        refine (attemptEnds_cab .read (.done []) hcab).trans ?_
        rw [hwrites _ (.inl rfl)]
        rfl
      · refine (hanswer false frame).trans (congrArg (fun t => Host.Outcome.next (finish t)) ?_)
        refine (attemptEnds_cab .read .notReady hcab).trans ?_
        rw [hwrites _ (.inr rfl)]
        rfl
      · exact htimeout.trans (congrArg (fun t => Host.Outcome.next (finish t)) (attemptEnds_cab_unanswered .read hcab))
    · have hanswer := fun ready frame => exec_busAnswer_cab hpower hflight ready frame
      have htimeout := exec_busReplyTimeout_cab hpower hflight
      refine ⟨fun sent f rest hout hplain => hgoes ?_, fun frame => hends ?_, hends ?_⟩
      · have hafter : c.after .write (.done sent) = { c with writesLeft := c.writesLeft - 1, tally := heard } := by
          unfold CabEntry.after
          rw [CabTally.count_heard _ (by simp)]
        have hmoves : transferMoves .write (.done sent) (s.serving (c.after .write (.done sent)) idle) =
            s.serving (c.after .write (.done sent)) { idle with outbound := rest } := by
          unfold transferMoves
          dsimp only
          rw [show (s.serving (c.after .write (.done sent)) idle).bus.outbound = f :: rest from hout]
          exact if_neg (by rw [hplain]; decide)
        refine (hanswer true sent).trans (congrArg (fun t => Host.Outcome.next (finish t)) ?_)
        refine (attemptEnds_cab .write (.done sent) hcab).trans ?_
        rw [← hafter]
        exact congrArg (fun x => arbitrate (checkCabEnd x)) hmoves
      · refine (hanswer false frame).trans (congrArg (fun t => Host.Outcome.next (finish t)) ?_)
        refine (attemptEnds_cab .write .notReady hcab).trans ?_
        have htally : (c.after .write .notReady).tally = heard := CabTally.count_heard c.tally (by simp)
        rw [htally]
        rfl
      · exact htimeout.trans (congrArg (fun t => Host.Outcome.next (finish t)) (attemptEnds_cab_unanswered .write hcab))
  · obtain ⟨hunserved, hserved⟩ := takeCabOutcome_spec t s
    refine ⟨hunserved, fun h => ?_⟩
    obtain ⟨hanswered, hnone, hsilent, hlost⟩ := hserved h
    refine ⟨hanswered, hnone, hsilent, fun ha he hten hstate => ⟨_, hlost ha he hten hstate, ?_⟩⟩
    obtain ⟨h1, h2, h3, h4, h5, h6⟩ := dropClaims_spec (State.modBus (fun b => { b with cabState := .lost })
      { s with bus := { s.bus with silence := min (s.bus.silence + 1) 255, cabState := s.bus.cabState } })
    exact ⟨h4, h5, h1, h2, h3, rfl, h6⟩

end Sys2Proof.Machine
end
